-- ==== Sys2Proof/Word.lean ====
section
/-! DEFINITION. The word types of the block and their plainest arithmetic. -/
namespace Sys2Proof

/-- One byte of a memory. -/
abbrev Byte := BitVec 8

/-- One 32-bit register word (15 R416). -/
abbrev Word := BitVec 32

/-- A 64-bit value: a doorbell pair, a Kiosk register, a beat counter (05 R133). -/
abbrev DWord := BitVec 64

end Sys2Proof
end

