-- ==== Sys2Proof/Syntax.lean ====
section
/-! DEFINITION. The commands of the block: one constructor per row of spec/opcode_table.json, and the operand types. -/
namespace Sys2Proof

/-- What the check of a row or a burst finds (03 R88, 14 source 24): the model's input for errors of the memory. -/
inductive EccEvent where
  /-- No error. -/
  | clean
  /-- A single-bit error, corrected. -/
  | corrected
  /-- An uncorrectable error in a word. -/
  | bad (word : Nat)
  deriving DecidableEq, Repr

/-- What happens on Glasshouse rows that a command reads or writes: what their checks find, and the rows on which it meets
another access (03 R73 to R75, R87, R88). -/
structure RowEvents where
  /-- Rows read whose check finds something, with what it finds -/
  ecc : List (Nat × EccEvent) := []
  /-- Rows on which the access meets another -/
  meets : List Nat := []
  deriving DecidableEq, Repr

/-- A pavilion whose array, Hem unit or golden run acts, with what happens on the rows that it reads and writes. -/
structure PavRows where
  /-- The pavilion -/
  pav : Nat
  /-- What happens on the rows -/
  ev : RowEvents := {}
  deriving DecidableEq, Repr

/-- What happens on the data of a read in one region: what its check finds, and the rows on which it meets another access. -/
structure ReadEvents where
  /-- What the check of the data finds -/
  ecc : EccEvent := .clean
  /-- Rows on which the access meets another -/
  meets : List Nat := []
  deriving DecidableEq, Repr

/-- Bytes that the host writes through BAR4, with the rows on which the write meets another access. -/
structure WindowData where
  /-- The bytes -/
  bytes : List Byte
  /-- Rows on which the write meets another access -/
  meets : List Nat := []
  deriving DecidableEq, Repr

/-- The rows that a crossing took in one beat, with those on which their release meets another access. -/
structure CrossingBeat where
  /-- The beat -/
  beat : Nat
  /-- Rows on which a release meets another access -/
  meets : List Nat := []
  deriving DecidableEq, Repr

/-- What happens where an Icehouse releases a request. -/
structure ReplyEvents where
  /-- What the check of the data finds -/
  ecc : EccEvent := .clean
  /-- The row that is written meets another access -/
  meets : Bool := false
  deriving DecidableEq, Repr

/-- The threads of a core that are ready, as a mask, with what the check of the issued instruction's data finds. -/
structure IssueEvents where
  /-- Bit `t`: thread `t` is ready -/
  ready : Nat
  /-- What the check of the data finds -/
  ecc : EccEvent := .clean
  deriving DecidableEq, Repr

/-- A Drape engine that writes, with the rows on which its writes meet another access. -/
structure EngineRows where
  /-- The engine, 0 or 1 -/
  engine : Nat
  /-- Rows on which a write meets another access -/
  meets : List Nat := []
  deriving DecidableEq, Repr

/-- A word of BAR0 that the host reads, with what its check finds where it is a word of message RAM. -/
structure WordRead where
  /-- The offset -/
  off : Nat
  /-- What the check of the word finds -/
  ecc : EccEvent := .clean
  deriving DecidableEq, Repr

/-- Does a mover's row meet another access where it is read, and where it is written (03 R73 to R75)? -/
structure MoveMeets where
  /-- Where it is read -/
  read : Bool := false
  /-- Where it is written -/
  write : Bool := false
  deriving DecidableEq, Repr

/-- An error that the Cloche's storage shows during a pass (10 R314). -/
inductive ClocheErr where
  /-- A corrected error. -/
  | corrected
  /-- Uncorrectable, in the record or the state of a loop slot. -/
  | slot (n : Nat)
  /-- Uncorrectable, in a setpoint. -/
  | setpoint (n : Nat)
  /-- Uncorrectable, in an input entry. -/
  | input (n : Nat)
  /-- Uncorrectable, in a frame template. -/
  | template (f : Nat)
  deriving DecidableEq, Repr

/-- One conversion of an ADC (11 R321, R323). -/
structure AdcSample where
  /-- Voltages of ADC_IN0 to ADC_IN15 at the sampling instant, in nV; an absent one reads as 0 -/
  inputs : List Int := []
  /-- How far the converter's code lies from the ideal one (Table 11.1) -/
  error : Int := 0
  deriving DecidableEq, Repr

/-- One pulse of a SENT frame, from falling edge to falling edge (11 R324). -/
structure SentPulse where
  /-- Its length in ns -/
  ns : Nat := 0
  /-- The low time that it begins with, in ns -/
  low : Nat := 5000
  deriving DecidableEq, Repr

/-- How a CAN transmission attempt ends (12 R347). -/
inductive CanEnd where
  /-- The frame was sent and acknowledged. -/
  | success
  /-- Arbitration was lost. -/
  | lost
  /-- An error: the code of CAN_STATUS.LEC. -/
  | error (lec : Nat)
  deriving DecidableEq, Repr

/-- What a CAN controller detects on a frame it receives (12 R333, R353). -/
inductive CanRxError where
  /-- A bus error: the code of CAN_STATUS.LEC, and whether the standard counts it eightfold. -/
  | bus (lec : Nat) (eight : Bool)
  /-- A recessive res bit in an FD frame. -/
  | resBit
  deriving DecidableEq, Repr

/-- A CAN frame on the bus (12 R340). -/
structure CanFrame where
  /-- Word 0 of the element: bit 31 XTD, bit 30 FDF, bit 29 BRS, bits [28:0] identifier. -/
  id : Nat := 0
  /-- DLC. -/
  dlc : Nat := 0
  /-- RTR. -/
  rtr : Bool := false
  /-- ESI. -/
  esi : Bool := false
  /-- The data bytes. -/
  data : List Byte := []
  deriving DecidableEq, Repr

/-- Who writes a queue's registers and doorbells (08 R221, R223). -/
inductive QueueWriter where
  /-- The host. -/
  | host
  /-- Device firmware, over its own path. -/
  | firmware
  deriving DecidableEq, Repr

/-- A value written to a register or doorbell of a queue, with its writer. -/
structure QueueWrite where
  /-- The word -/
  value : Word
  /-- Who writes -/
  writer : QueueWriter := .host
  deriving DecidableEq, Repr

/-- A double word of configuration space (15 R407, R410, R411). -/
inductive ConfigWord where
  /-- Device ID and Vendor ID. -/
  | identity
  /-- Status and Command. -/
  | command
  /-- Class code and Revision ID. -/
  | classRevision
  /-- Base address register `n`, 0 to 5. -/
  | bar (n : Nat)
  /-- Subsystem ID and Subsystem Vendor ID. -/
  | subsystem
  /-- Device Serial Number: the lower or the upper double word. -/
  | serial (upper : Bool)
  /-- Device Control. -/
  | deviceControl
  /-- Link Control. -/
  | linkControl
  /-- Power Management Control/Status. -/
  | power
  /-- MSI-X Message Control. -/
  | msix
  /-- Resizable BAR Control of BAR4. -/
  | resizable
  /-- Advanced Error Reporting: Uncorrectable Error Status. -/
  | aerUncorrectable
  deriving DecidableEq, Repr

/-- A PCIe configuration request (15 R407 to R411, R415). -/
inductive ConfigOp where
  /-- A read of a double word. -/
  | read (w : ConfigWord)
  /-- The base address register `n` takes a value. -/
  | bar (n : Nat) (v : Word)
  /-- ASPM L1 is enabled or disabled. -/
  | aspmL1 (on : Bool)
  /-- Max Payload Size: the code. -/
  | maxPayload (code : Nat)
  /-- Max Read Request Size: the code. -/
  | maxReadRequest (code : Nat)
  /-- Uncorrectable error status bits are cleared by writing ones. -/
  | aerClear (v : Word)
  /-- Bus Master Enable. -/
  | busMaster (on : Bool)
  /-- MSI-X Enable. -/
  | msixEnable (on : Bool)
  /-- The function's MSI-X mask. -/
  | functionMask (on : Bool)
  /-- Power state D3hot, or D0. -/
  | d3hot (on : Bool)
  /-- The size of the BAR4 window, in GiB. -/
  | bar4Size (gib : Nat)
  deriving DecidableEq, Repr

/-- The commands: the rows of spec/opcode_table.json in its order, those without operands last. The operands are
the model's (Assumption 1): the table gives none. -/
inductive Instr where
  /-- PERST (15 R408): `low`: the pin goes low, or high. -/
  | perst (low : Bool)
  /-- LINK_UP (15 R409): rate code, lanes and FLIT mode of the link; `ready`: the endpoint answers configuration
  requests from now on; `replays` and `recoveries`: link-layer replays and entries to Recovery since the last LINK_UP.
  -/
  | linkUp (rate : Nat) (width : Nat) (flit : Bool) (ready : Bool) (replays : Nat) (recoveries : Nat)
  /-- BAR4_READ (15 R412): `n` bytes at offset `o`. -/
  | bar4Read (o : Nat) (n : Nat) (ev : ReadEvents)
  /-- BAR4_WRITE (15 R412): bytes at offset `o`. -/
  | bar4Write (o : Nat) (x : WindowData)
  /-- REGISTER_WRITE (00 R10): a word to BAR0 offset `off`, by the host or by device firmware. -/
  | registerWrite (off : Nat) (v : QueueWrite)
  /-- BAD_REGISTER_ACCESS (15 R416): `len` bytes at offset `off` of BAR 0 or 2: a write of the data, or a read. -/
  | badRegisterAccess (bar : Nat) (off : Nat) (len : Nat) (write : Option Nat)
  /-- BAR4_BASE_COMMIT (15 R412). -/
  | bar4BaseCommit (v : Word)
  /-- MAILBOX_SELECT (15 R419). -/
  | mailboxSelect (v : Word)
  /-- MAILBOX_DATA_READ (15 R419): data word `n`. -/
  | mailboxDataRead (n : Nat)
  /-- ALIAS_WRITE (15 R421): bit `b` of word `w` of the DEV block. -/
  | aliasWrite (w : Nat) (b : Nat) (v : Word)
  /-- MSIX_PENDING_SEND (15 R415). -/
  | msixPendingSend (vector : Nat)
  /-- SQ_DOORBELL (08 R223): by the host or by device firmware. -/
  | sqDoorbell (q : Nat) (v : QueueWrite)
  /-- CQ_DOORBELL (08 R223): by the host or by device firmware. -/
  | cqDoorbell (q : Nat) (v : QueueWrite)
  /-- DESCRIPTOR_FETCH (08 R224). -/
  | descriptorFetch (q : Nat)
  /-- STEP (08 R234): the head of queue `q`. -/
  | step (q : Nat)
  /-- COPY (08 R233): the head of queue `q`. -/
  | copy (q : Nat)
  /-- COPY_COMPLETE (08 R233): what the check of the data read from DRAM finds. -/
  | copyComplete (q : Nat) (ecc : EccEvent)
  /-- FILL (08 R233): the head of queue `q`. -/
  | fill (q : Nat)
  /-- FENCE (08 R233): the head of queue `q`. -/
  | fence (q : Nat)
  /-- FENCE_COMPLETE (08 R233). -/
  | fenceComplete (q : Nat)
  /-- SIGNAL (08 R233): the head of queue `q`. -/
  | signal (q : Nat)
  /-- WAIT (08 R233): the head of queue `q`. -/
  | wait (q : Nat)
  /-- WAIT_SATISFIED (08 R233). -/
  | waitSatisfied (q : Nat)
  /-- WAIT_TIMEOUT (08 R233). -/
  | waitTimeout (q : Nat)
  /-- TIMESTAMP (08 R233): the head of queue `q`. -/
  | timestamp (q : Nat)
  /-- SEQ_ADMIT (08 R242): the head of queue `q`. -/
  | seqAdmit (q : Nat)
  /-- SEQ_RETIRE (08 R240): the head of queue `q`. -/
  | seqRetire (q : Nat)
  /-- SEQ_STEP (08 R250): the head of queue `q`. -/
  | seqStep (q : Nat)
  /-- PREFIX_PIN (07 R211): the head of queue `q`. -/
  | prefixPin (q : Nat)
  /-- PREFIX_UNPIN (07 R211): the head of queue `q`. -/
  | prefixUnpin (q : Nat)
  /-- PAGE_EDIT_SHADOW (07 R194): the head of queue `q`. -/
  | pageEditShadow (q : Nat)
  /-- PAGE_EDIT_LIVE (07 R194): the head of queue `q`. -/
  | pageEditLive (q : Nat)
  /-- SWAP_IN (07 R218): the head of queue `q`. -/
  | swapIn (q : Nat)
  /-- LOOP_LOAD (10 R300): the head of queue `q`. -/
  | loopLoad (q : Nat)
  /-- LOOP_LOAD_SETPOINTS (10 R302): the head of queue `q`. -/
  | loopLoadSetpoints (q : Nat)
  /-- LOOP_ARM (10 R301): the head of queue `q`. -/
  | loopArm (q : Nat)
  /-- LOOP_DISARM (10 R301): the head of queue `q`. -/
  | loopDisarm (q : Nat)
  /-- KILL (08 R251): the head of queue `q`. -/
  | kill (q : Nat)
  /-- SCRUB (03 R91): the head of queue `q`. -/
  | scrub (q : Nat)
  /-- GOLDEN_RUN (14 R399): the head of queue `q`. -/
  | goldenRun (q : Nat)
  /-- AGEING_PROMOTION (08 R239). -/
  | ageingPromotion (q : Nat)
  /-- STARVATION (08 R239). -/
  | starvation (q : Nat)
  /-- PAUSE (08 R247). -/
  | pause (q : Nat)
  /-- RESUME (08 R247). -/
  | resume (q : Nat)
  /-- CLEAR_HALT (08 R230). -/
  | clearHalt (q : Nat)
  /-- QUEUE_ENABLE (08 R222): CK_Q_CFG takes `v` with ENABLE = 1. -/
  | queueEnable (q : Nat) (v : Word)
  /-- QUEUE_DISABLE (08 R224): CK_Q_CFG takes `v` with ENABLE = 0. -/
  | queueDisable (q : Nat) (v : Word)
  /-- QUEUE_DISABLE_EFFECT (08 R224). -/
  | queueDisableEffect (q : Nat)
  /-- COALESCE_TIMEOUT (08 R255). -/
  | coalesceTimeout (q : Nat)
  /-- STEP_START (05 R133). -/
  | stepStart (q : Nat)
  /-- SEGMENT_START (05 R141). -/
  | segmentStart (q : Nat) (seg : Nat)
  /-- SEGMENT_COMPLETE (05 R141). -/
  | segmentComplete (q : Nat) (seg : Nat)
  /-- STEP_END (05 R143). -/
  | stepEnd (q : Nat)
  /-- WATCHDOG_OVERRUN (05 R144). -/
  | watchdogOverrun (q : Nat) (seg : Nat) (p : Nat)
  /-- DEV_MODE_WRITE (05 R148). -/
  | devModeWrite (v : Word)
  /-- TILE (02 R37): the next instruction of pavilion `p`; what happens on the rows. -/
  | tile (p : PavRows)
  /-- STREAM (02 R36): the next instruction of pavilion `p`; what happens on the rows. -/
  | stream (p : PavRows)
  /-- ACC_INIT (02 R38): the next instruction of pavilion `p`; what happens on the rows. -/
  | accInit (p : PavRows)
  /-- MOVE (05 R130): the next instruction of pavilion `p`. -/
  | move (p : Nat)
  /-- RELEASE (03 R85): the next instruction of pavilion `p`. -/
  | release (p : Nat)
  /-- MICROCODE_SIGNAL (05 R129): the next instruction of pavilion `p`. -/
  | microcodeSignal (p : Nat)
  /-- SIGNAL_FENCE_ADVANCE (04 R111): pavilion `p`. -/
  | signalFenceAdvance (p : Nat)
  /-- MICROCODE_WAIT (05 R129): the next instruction of pavilion `p`. -/
  | microcodeWait (p : Nat)
  /-- MICROCODE_WAIT_RELEASE (05 R130): pavilion `p`. -/
  | microcodeWaitRelease (p : Nat)
  /-- END (05 R129): the next instruction of pavilion `p`. -/
  | microcodeEnd (p : Nat)
  /-- CONVERT (02 R48): the next instruction of pavilion `p`; what happens on the rows. -/
  | convert (p : PavRows)
  /-- REQUANT (02 R51): the next instruction of pavilion `p`; what happens on the rows. -/
  | requant (p : PavRows)
  /-- ELEMENT (05 R495): the next instruction of pavilion `p`; what happens on the rows. -/
  | element (p : PavRows)
  /-- REDUCE (02 R61): the next instruction of pavilion `p`. -/
  | reduce (p : Nat)
  /-- TRANSC (02 R60): the next instruction of pavilion `p`; what happens on the rows. -/
  | transc (p : PavRows)
  /-- CRC (02 R62): the next instruction of pavilion `p`; what happens on the rows. -/
  | crc (p : PavRows)
  /-- LOADV (05 R495): the next instruction of pavilion `p`; what happens on the rows. -/
  | loadv (p : PavRows)
  /-- STOREV (05 R495): the next instruction of pavilion `p`; what happens on the rows. -/
  | storev (p : PavRows)
  /-- CREDIT_OPEN (05 R139): grant entry `g` of the step of queue `q`. -/
  | creditOpen (q : Nat) (g : Nat)
  /-- CREDIT_ACQUIRE (05 R139): grant entry `g` of the step of queue `q`. -/
  | creditAcquire (q : Nat) (g : Nat)
  /-- CREDIT_RELEASE (05 R139): grant entry `g` of the step of queue `q`. -/
  | creditRelease (q : Nat) (g : Nat)
  /-- CREDIT_CLOSE (05 R139): grant entry `g` of the step of queue `q`. -/
  | creditClose (q : Nat) (g : Nat)
  /-- CROSSING_ENTRY (05 R137). -/
  | crossingEntry (q : Nat) (c : Nat)
  /-- CROSSING_RELEASE (05 R137): rows that the crossing of Glasshouse `g` took in beat `b`; those on which it meets
  another access. -/
  | crossingRelease (g : Nat) (b : CrossingBeat)
  /-- ICEHOUSE_REPLY (05 R138). -/
  | icehouseReply (ev : ReplyEvents)
  /-- REFRESH_WINDOW (05 R138). -/
  | refreshWindow (ice : Nat) (c : Nat)
  /-- POWER_GRANT (05 R140). -/
  | powerGrant (q : Nat) (g : Nat)
  /-- MOVER_ROW_SEND (03 R79): mover `m` of pavilion `p`. -/
  | moverRowSend (p : Nat) (m : Nat) (ecc : EccEvent) (meets : MoveMeets)
  /-- REMOTE_ROW_ARRIVAL (03 R84): the `k`-th row in flight. -/
  | remoteRowArrival (k : Nat) (ecc : EccEvent) (meets : Bool)
  /-- MOVER_DESCRIPTOR_COMPLETE (04 R111). -/
  | moverDescriptorComplete (id : Nat)
  /-- CREDIT_RETURN (03 R85). -/
  | creditReturn (g : Nat) (src : Nat)
  /-- POOL_FREE_WRITE (03 R85). -/
  | poolFreeWrite (g : Nat) (src : Nat) (v : Word)
  /-- SCRUB_COMPLETE (03 R89). -/
  | scrubComplete (g : Nat)
  /-- LOCAL_CLEAR_COMPLETE (04 R118). -/
  | localClearComplete (g : Nat)
  /-- THREAD_START (04 R100): thread-start entry `k` of the step of queue `q`. -/
  | threadStart (q : Nat) (k : Nat)
  /-- KIOSK_INSTRUCTION (04 R102): core `c` of cluster `p`; `ready`: the threads that may issue. -/
  | kioskInstruction (p : Nat) (c : Nat) (ready : Nat) (parity : Bool)
  /-- KIOSK_LOAD_STORE (04 R107): core `c` of cluster `p`; `ready`: the threads that may issue. -/
  | kioskLoadStore (p : Nat) (c : Nat) (ready : Nat) (ecc : EccEvent)
  /-- ROW_LOAD_STORE (04 R108): core `c` of cluster `p`; `ready`: the threads that may issue. -/
  | rowLoadStore (p : Nat) (c : Nat) (ready : Nat) (meets : Bool)
  /-- KIOSK_AMO (04 R114): core `c` of cluster `p`; `ready`: the threads that may issue. -/
  | kioskAmo (p : Nat) (c : Nat) (ready : Nat) (ecc : EccEvent)
  /-- LOAD_REPLY (04 R109): thread `t` of core `c` of cluster `p`. -/
  | loadReply (p : Nat) (c : Nat) (t : Nat) (ecc : EccEvent) (meets : Bool)
  /-- RESERVATION_TIMEOUT (04 R114): thread `t` of core `c` of cluster `p`. -/
  | reservationTimeout (p : Nat) (c : Nat) (t : Nat)
  /-- KCALL (04 R112): core `c` of cluster `p`; the check is that of the call block. -/
  | kcall (p : Nat) (c : Nat) (ev : IssueEvents)
  /-- KWAIT (04 R111): core `c` of cluster `p`; `ready`: the threads that may issue. -/
  | kwait (p : Nat) (c : Nat) (ready : Nat)
  /-- KWAIT_COMPLETE (04 R111): thread `t` of core `c` of cluster `p`. -/
  | kwaitComplete (p : Nat) (c : Nat) (t : Nat)
  /-- KCRED (04 R115): core `c` of cluster `p`; `ready`: the threads that may issue. -/
  | kcred (p : Nat) (c : Nat) (ready : Nat)
  /-- KCRED_GRANTED (03 R83): thread `t` of core `c` of cluster `p`. -/
  | kcredGranted (p : Nat) (c : Nat) (t : Nat)
  /-- KDFENCE (04 R110): core `c` of cluster `p`; `ready`: the threads that may issue. -/
  | kdfence (p : Nat) (c : Nat) (ready : Nat)
  /-- KDFENCE_COMPLETE (04 R110): thread `t` of core `c` of cluster `p`. -/
  | kdfenceComplete (p : Nat) (c : Nat) (t : Nat)
  /-- KEXIT (04 R117): core `c` of cluster `p`; `ready`: the threads that may issue. -/
  | kexit (p : Nat) (c : Nat) (ready : Nat)
  /-- KIOSK_WATCHDOG_REFRESH (04 R119). -/
  | kioskWatchdogRefresh (p : Nat)
  /-- KIOSK_WATCHDOG_TIMEOUT (04 R119). -/
  | kioskWatchdogTimeout (p : Nat) (c : Nat)
  /-- CODE_SET_LOAD (04 R99). -/
  | codeSetLoad (p : Nat)
  /-- CODE_SET_LOAD_COMPLETE (04 R99). -/
  | codeSetLoadComplete (p : Nat)
  /-- INPUT_CORRUPT_REPORT (09 R287). -/
  | inputCorruptReport (p : Nat) (slot : Nat)
  /-- E2E_REPORT (14 R404). -/
  | e2eReport (p : Nat) (v : Word)
  /-- KV_ENABLE (07 R184). -/
  | kvEnable (v : Word)
  /-- KV_DISABLE (07 R184). -/
  | kvDisable (v : Word)
  /-- PREFIX_KEY_WRITE (07 R207): key word `n`. -/
  | prefixKeyWrite (n : Nat) (v : Word)
  /-- KEY_WALK (07 R201). -/
  | keyWalk (p : Nat) (ev : ReadEvents)
  /-- VALUE_WALK (07 R201). -/
  | valueWalk (p : Nat) (ev : ReadEvents)
  /-- WALK_COMPLETE (07 R201). -/
  | walkComplete (p : Nat)
  /-- FRAME_START (09 R262): receiver `r`, virtual channel `vc`; what the header check finds. -/
  | frameStart (r : Nat) (vc : Nat) (hdr : EccEvent)
  /-- LINE_PACKET (09 R259): receiver `r`, virtual channel `vc`; what the header check finds; the codes of the pixels.
  -/
  | linePacket (r : Nat) (vc : Nat) (dt : Nat) (hdr : EccEvent) (crcErr : Bool) (codes : List Nat)
  /-- EMBEDDED_DATA_PACKET (09 R258): receiver `r`, virtual channel `vc`; what the header check finds. -/
  | embeddedDataPacket (r : Nat) (vc : Nat) (hdr : EccEvent) (crcErr : Bool) (bytes : List Byte)
  /-- SHORT_PACKET (09 R257): receiver `r`, virtual channel `vc`; what the header check finds. -/
  | shortPacket (r : Nat) (vc : Nat) (hdr : EccEvent)
  /-- FRAME_END (09 R259): receiver `r`, virtual channel `vc`; what the header check finds. -/
  | frameEnd (r : Nat) (vc : Nat) (hdr : EccEvent)
  /-- HS_EXIT (09 R259). -/
  | hsExit (r : Nat)
  /-- STRIPE_WRITE (09 R273): Drape engine `e`. -/
  | stripeWrite (e : EngineRows)
  /-- HOLD_TIMEOUT (09 R274). -/
  | holdTimeout (cam : Nat) (view : Nat)
  /-- SET_TIMEOUT (09 R277). -/
  | setTimeout (slot : Nat)
  /-- STREAM_DESC_WRITE (09 R261). -/
  | streamDescWrite (cam : Nat) (v : Word)
  /-- STREAM_ENABLE (09 R262). -/
  | streamEnable (cam : Nat) (v : Word)
  /-- REPLAY_TAIL_WRITE (09 R289). -/
  | replayTailWrite (cam : Nat) (v : Word)
  /-- REPLAY_READY_POLL (09 R289): the ring entry `k` places after the head. -/
  | replayReadyPoll (cam : Nat) (k : Nat)
  /-- HEAD_AUTHENTICATION (09 R280): what the head gives of its record and certificate, if it acknowledges. -/
  | headAuthentication (cam : Nat) (record : Option (List Byte))
  /-- HEAD_RESPONSE (09 R280). -/
  | headResponse (cam : Nat) (sig : List Byte)
  /-- HEAD_RESPONSE_TIMEOUT (09 R280). -/
  | headResponseTimeout (cam : Nat)
  /-- LIFE_UPDATE (09 R283): the serial that the head gives, if it acknowledges. -/
  | lifeUpdate (cam : Nat) (serial : Option Nat)
  /-- TEMPERATURE_POLL (09 R283). -/
  | temperaturePoll (cam : Nat) (temp : Int)
  /-- LOCKED_RISE (09 R285). -/
  | lockedRise (r : Nat)
  /-- SERIAL_RECHECK (09 R285). -/
  | serialRecheck (cam : Nat) (serial : Option Nat)
  /-- CLOCHE_ENABLE (10 R296). -/
  | clocheEnable (v : Word)
  /-- CLOCHE_DISABLE (10 R294). -/
  | clocheDisable (v : Word)
  /-- CLOCHE_PASS (10 R294): the errors that the storage shows. -/
  | clochePass (errs : List ClocheErr)
  /-- STALE_LIMIT (10 R307): loop slot `n`. -/
  | staleLimit (n : Nat)
  /-- FRAME_DELIVERY (10 R312). -/
  | frameDelivery (f : Nat)
  /-- FRAME_ENABLE (10 R311). -/
  | frameEnable (f : Nat) (v : Word)
  /-- ADC_TRIGGER (11 R322). -/
  | adcTrigger (a : Nat)
  /-- ADC_SLOT_COMPLETE (11 R322): the conversions. -/
  | adcSlotComplete (a : Nat) (samples : List AdcSample)
  /-- SENT_FRAME (11 R325): the calibration pulse in ns, the nibble pulses and a pause pulse, if any. -/
  | sentFrame (j : Nat) (cal : Nat) (pulses : List SentPulse)
  /-- SENT_TIMEOUT (11 R326). -/
  | sentTimeout (j : Nat)
  /-- SPI_TRIGGER (11 R328). -/
  | spiTrigger (m : Nat) (t : Nat)
  /-- SPI_TRANSFER_COMPLETE (11 R329): the bytes received. -/
  | spiTransferComplete (m : Nat) (rx : List Byte)
  /-- CAPTURE_EDGE (11 R330): `level`: the pin levels. -/
  | captureEdge (c : Nat) (rising : Bool) (level : Nat)
  /-- CAPTURE_TIMEOUT (11 R331). -/
  | captureTimeout (c : Nat)
  /-- ROUTE_WRITE (11 R319). -/
  | routeWrite (n : Nat) (v : Word)
  /-- CAN_ENABLE (12 R335). -/
  | canEnable (c : Nat) (v : Word)
  /-- CAN_MODE_CHANGE (12 R336). -/
  | canModeChange (c : Nat)
  /-- CAN_FRAME_RECEIVED (12 R341): the frame, the age of its start in ns, and what message RAM shows. -/
  | canFrameReceived (c : Nat) (f : CanFrame) (ago : Nat) (bads : List Nat) (corrected : Nat)
  /-- HP_BUFFER_RELEASE (12 R342). -/
  | hpBufferRelease (c : Nat) (v : Word)
  /-- RX_FIFO_RELEASE (12 R343): FIFO 0 or 1. -/
  | rxFifoRelease (c : Nat) (n : Nat) (v : Word)
  /-- TX_REQUEST (12 R345). -/
  | txRequest (c : Nat) (v : Word)
  /-- TX_CANCEL (12 R347). -/
  | txCancel (c : Nat) (v : Word)
  /-- TX_CHOICE (12 R346): what message RAM shows. -/
  | txChoice (c : Nat) (bads : List Nat) (corrected : Nat)
  /-- TX_END (12 R347). -/
  | txEnd (c : Nat) (out : CanEnd)
  /-- BO_RESTART (12 R338). -/
  | boRestart (c : Nat) (v : Word)
  /-- BUS_OFF_RECOVERY_END (12 R338). -/
  | busOffRecoveryEnd (c : Nat)
  /-- TT_ENABLE (12 R349). -/
  | ttEnable (c : Nat) (v : Word)
  /-- REFERENCE_INSTANT (12 R350). -/
  | referenceInstant (c : Nat)
  /-- TX_WINDOW_OPEN (12 R352). -/
  | txWindowOpen (c : Nat) (b : Nat)
  /-- COUNTER_STEP (13 R360). -/
  | counterStep (v : Word)
  /-- NEXT_BASE_COMMIT (13 R362). -/
  | nextBaseCommit (v : Word)
  /-- LOAD_NOW (13 R363). -/
  | loadNow (v : Word)
  /-- SERVO_OFFSET (13 R365). -/
  | servoOffset (v : Word)
  /-- SERVO_RESET (13 R365). -/
  | servoReset (v : Word)
  /-- TT_OUT_ENABLE (13 R366). -/
  | ttOutEnable (n : Nat) (v : Word)
  /-- TT_OUT_EDGE (13 R366). -/
  | ttOutEdge (n : Nat)
  /-- TT_OUT_PULSE_END (13 R366). -/
  | ttOutPulseEnd (n : Nat)
  /-- TT_CAPTURE (13 R367). -/
  | ttCapture (n : Nat) (rising : Bool) (level : Nat)
  /-- ETH_TX_TAIL (13 R373). -/
  | ethTxTail (p : Nat) (q : Nat) (v : Word)
  /-- ETH_FRAME_SENT (13 R373): `bad`: a byte read was uncorrectable. -/
  | ethFrameSent (p : Nat) (bad : Bool)
  /-- ETH_RX_TAIL (13 R374). -/
  | ethRxTail (p : Nat) (q : Nat) (v : Word)
  /-- ETH_FRAME_RECEIVED (13 R374): the frame with its FCS; `bad`: it is in error. -/
  | ethFrameReceived (p : Nat) (frame : List Byte) (bad : Bool)
  /-- ETH_LINK_CHANGE (13 R378). -/
  | ethLinkChange (p : Nat) (up : Bool) (rate : Nat)
  /-- FAULT_ASSERTION (14 R383): the commands and pavilions it concerns, and DETAIL. -/
  | faultAssertion (src : Nat) (queues : List Nat) (pavs : List Nat) (detail : Nat)
  /-- STATUS_CLEAR (14 R380). -/
  | statusClear (w : Nat) (v : Word)
  /-- PAVILION_RELEASE (14 R386). -/
  | pavilionRelease (v : Word)
  /-- BELVEDERE_WATCHDOG_EXPIRY (14 R388). -/
  | belvedereWatchdogExpiry (pc : Nat)
  /-- SAFE_STATE_READY (14 R389): the self-test that fails, if any; `ecc`: the weight region shows an uncorrectable
  burst. -/
  | safeStateReady (failed : Option Nat) (ecc : Bool)
  /-- DIGEST_ARM (14 R392). -/
  | digestArm (v : Word)
  /-- SIGNATURE_RECORD (14 R395): an uncorrectable error of the path, if any. -/
  | signatureRecord (bad : Option Nat)
  /-- GOLDEN_DUE (14 R401). -/
  | goldenDue (p : Nat)
  /-- GOLDEN_SLOT_START (14 R400). -/
  | goldenSlotStart (p : Nat)
  /-- GOLDEN_RESULT (14 R399): what happens on the rows. -/
  | goldenResult (p : PavRows)
  /-- GOLDEN_SLOT_END (14 R400). -/
  | goldenSlotEnd (p : Nat)
  /-- COLD_BOOT_READY (16 R432): the self-test that fails, if any. -/
  | coldBootReady (failed : Option Nat)
  /-- LODGE_FAULT (16 R436). -/
  | lodgeFault (pc : Nat)
  /-- SERVICE_RING_TAIL (16 R437): the estimated backlog in microseconds. -/
  | serviceRingTail (v : Word) (backlog : Nat)
  /-- ACTIVATE_BOOT (16 R441): `n`: phases that run now. -/
  | activateBoot (n : Nat)
  /-- ACTIVATE_LIVE (16 R441): `n`: phases that run now. -/
  | activateLive (n : Nat)
  /-- FUSE_COMMIT (16 R443): the read-back that fails, if any. -/
  | fuseCommit (failAt : Option Nat)
  /-- TELEMETRY_SAMPLE (16 R438): load in 1/1,000 and estimated backlog. -/
  | telemetrySample (load : Nat) (backlog : Nat)
  /-- SATCHEL_HELLO (16 R439). -/
  | satchelHello (pkt : List Byte)
  /-- SATCHEL_BEGIN (16 R440): sender and packet. -/
  | satchelBegin (peer : Nat) (pkt : List Byte)
  /-- SATCHEL_DATA (16 R440). -/
  | satchelData (peer : Nat) (backlog : Nat) (pkt : List Byte)
  /-- SATCHEL_END (16 R440). -/
  | satchelEnd (peer : Nat) (flashFail : Bool) (pkt : List Byte)
  /-- SATCHEL_ACTIVATE (16 R440): `n`: phases that run now. -/
  | satchelActivate (n : Nat) (pkt : List Byte)
  /-- ACTIVATION_RESUME (16 R442): `n`: phases that run now. -/
  | activationResume (n : Nat)
  /-- EMERGENCY_CLEAR (16 R444). -/
  | emergencyClear (n : Nat) (failAt : Option Nat)
  /-- EPOCH_BOUNDARY (17 R452): readings, requests, estimates by requester, and fixed-base power. -/
  | epochBoundary (temps : List Int) (reqs : List Nat) (ests : List Nat) (base : Nat)
  /-- POWER_LIMIT_WRITE (17 R451). -/
  | powerLimitWrite (v : Word)
  /-- RESERVE_WRITE (17 R451). -/
  | reserveWrite (v : Word)
  /-- STRICT_GRANT_WRITE (17 R456): GT_STRICT_IO or GT_STRICT_DRAPE. -/
  | strictGrantWrite (io : Bool) (v : Word)
  /-- AVS_EVALUATION (17 R468): lowest voltage at which every monitor passes, in mV. -/
  | avsEvaluation (mv : Nat)
  /-- SPEED_MONITOR_FAIL (17 R468): the voltage requested, in mV. -/
  | speedMonitorFail (mv : Nat)
  /-- SYSCLK_LOSS (17 R470): absent, or out of ±2 %. -/
  | sysclkLoss (absent : Bool)
  /-- PLL_UNLOCK (17 R470). -/
  | pllUnlock (n : Nat)
  /-- SYSTEM_RESET (18 R482): `low`: the pin goes low, or high. -/
  | systemReset (low : Bool)
  /-- RAIL_OUT_OF_TOLERANCE (18 R482): 1 VDD_CORE, 2 VDD_SRAM. -/
  | railOutOfTolerance (rail : Nat)
  /-- EXTEST (18 R491): what the cells capture, and what is updated, if anything. -/
  | extest (pins : Nat) (cells : Option Nat)
  /-- SAMPLE_PRELOAD (18 R488): what the cells capture, and what is updated, if anything. -/
  | samplePreload (pins : Nat) (cells : Option Nat)
  /-- EXTEST_PULSE (18 R492): what the cells capture, and what is updated, if anything. -/
  | extestPulse (pins : Nat) (cells : Option Nat)
  /-- EXTEST_TRAIN (18 R492): what the cells capture, and what is updated, if anything. -/
  | extestTrain (pins : Nat) (cells : Option Nat)
  /-- BYPASS (18 R488): the opcode. -/
  | bypass (op : Nat)
  /-- RC_READ (00 R10). -/
  | rcRead (x : WordRead)
  /-- CONFIGURATION_REQUEST (15 R408). -/
  | configurationRequest (op : ConfigOp)
  /-- CAN_ERROR_DETECTED (12 R353). -/
  | canErrorDetected (c : Nat) (e : CanRxError)
  /-- BANK_IN_TOLERANCE (18 R481): 0 VDDIO_18, 1 VDDIO_33, 2 SerDes. -/
  | bankInTolerance (b : Nat)
  /-- LINK_DOWN (15 R409). -/
  | linkDown
  /-- HOT_RESET (15 R409). -/
  | hotReset
  /-- MAILBOX_SNAPSHOT (15 R419). -/
  | mailboxSnapshot
  /-- FEATURE_COMMIT (15 R423). -/
  | featureCommit
  /-- FEATURE_NEGOTIATION_DONE (15 R423). -/
  | featureNegotiationDone
  /-- DISPATCH (08 R238). -/
  | dispatch
  /-- MODE_APPLY (05 R148). -/
  | modeApply
  /-- KV_INIT_COMPLETE (07 R184). -/
  | kvInitComplete
  /-- STEP_BOUNDARY (08 R241). -/
  | stepBoundary
  /-- SUB_PERIOD_BOUNDARY (10 R296). -/
  | subPeriodBoundary
  /-- NS_WRAP (13 R358). -/
  | nsWrap
  /-- PPS_EDGE (13 R368). -/
  | ppsEdge
  /-- PPS_LOST (13 R368). -/
  | ppsLost
  /-- EPISODE_CLOSE (14 R383). -/
  | episodeClose
  /-- LOCK (14 R382). -/
  | lock
  /-- ALIVE_TOGGLE (14 R388). -/
  | aliveToggle
  /-- SAFE_STATE_ENTRY (14 R389). -/
  | safeStateEntry
  /-- COLD_BOOT (16 R432). -/
  | coldBoot
  /-- LODGE_WATCHDOG_TIMEOUT (16 R436). -/
  | lodgeWatchdogTimeout
  /-- LODGE_RESTART_COMPLETE (16 R436). -/
  | lodgeRestartComplete
  /-- MESH (09 R282). -/
  | mesh
  /-- CLEAN (09 R283). -/
  | clean
  /-- ATTEST (16 R446). -/
  | attest
  /-- TELEMETRY (16 R438). -/
  | telemetry
  /-- SATCHEL_ACK_TIMER (16 R440). -/
  | satchelAckTimer
  /-- GRANT_APPLY (17 R452). -/
  | grantApply
  /-- THERMAL_TRIP (17 R463). -/
  | thermalTrip
  /-- SUPPLY_ALERT (17 R464). -/
  | supplyAlert
  /-- SUPPLY_ALERT_EXIT (17 R460). -/
  | supplyAlertExit
  /-- AVS_ACK (18 R487). -/
  | avsAck
  /-- AVS_TIMEOUT (18 R487). -/
  | avsTimeout
  /-- POWER_LOSS (18 R482). -/
  | powerLoss
  /-- TAP_RESET (18 R488). -/
  | tapReset
  /-- IDCODE (18 R489). -/
  | idcode
  /-- CLAMP (18 R491). -/
  | clamp
  /-- HIGHZ (18 R491). -/
  | highz
  /-- SYSCLK_RESTORED (17 R470). -/
  | sysclkRestored
  /-- LODGE_OVERLOAD_END (16 R435). -/
  | lodgeOverloadEnd
  deriving DecidableEq, Repr

end Sys2Proof
end

