-- ==== Sys2Proof/WellFormed.lean ====
section
/-! DEFINITION. The well-formed commands: every number within what the spec counts of its kind. -/
namespace Sys2Proof

/-- The operands of a command that number units, with how many there are of the kind. -/
def Instr.bounds : Instr → List (Nat × Nat)
  | .perst _ => []
  | .linkDown => []
  | .linkUp rate _ _ _ _ _ => [(rate, 7)]
  | .hotReset => []
  | .bar4Read _ _ _ => []
  | .bar4Write _ _ => []
  | .registerWrite off _ => [(off, 2 ^ 28)]
  | .badRegisterAccess _ _ _ _ => []
  | .bar4BaseCommit _ => []
  | .mailboxSelect _ => []
  | .mailboxSnapshot => []
  | .mailboxDataRead n => [(n, 16)]
  | .aliasWrite w b _ => [(w, 131072), (b, 32)]
  | .featureCommit => []
  | .featureNegotiationDone => []
  | .msixPendingSend vector => [(vector, 2048)]
  | .sqDoorbell q _ => [(q, 8192)]
  | .cqDoorbell q _ => [(q, 8192)]
  | .descriptorFetch q => [(q, 8192)]
  | .dispatch => []
  | .step q => [(q, 8192)]
  | .copy q => [(q, 8192)]
  | .copyComplete q _ => [(q, 8192)]
  | .fill q => [(q, 8192)]
  | .fence q => [(q, 8192)]
  | .fenceComplete q => [(q, 8192)]
  | .signal q => [(q, 8192)]
  | .wait q => [(q, 8192)]
  | .waitSatisfied q => [(q, 8192)]
  | .waitTimeout q => [(q, 8192)]
  | .timestamp q => [(q, 8192)]
  | .seqAdmit q => [(q, 8192)]
  | .seqRetire q => [(q, 8192)]
  | .seqStep q => [(q, 8192)]
  | .prefixPin q => [(q, 8192)]
  | .prefixUnpin q => [(q, 8192)]
  | .pageEditShadow q => [(q, 8192)]
  | .pageEditLive q => [(q, 8192)]
  | .swapIn q => [(q, 8192)]
  | .loopLoad q => [(q, 8192)]
  | .loopLoadSetpoints q => [(q, 8192)]
  | .loopArm q => [(q, 8192)]
  | .loopDisarm q => [(q, 8192)]
  | .kill q => [(q, 8192)]
  | .scrub q => [(q, 8192)]
  | .goldenRun q => [(q, 8192)]
  | .ageingPromotion q => [(q, 8192)]
  | .starvation q => [(q, 8192)]
  | .pause q => [(q, 8192)]
  | .resume q => [(q, 8192)]
  | .clearHalt q => [(q, 8192)]
  | .queueEnable q _ => [(q, 8192)]
  | .queueDisable q _ => [(q, 8192)]
  | .queueDisableEffect q => [(q, 8192)]
  | .coalesceTimeout q => [(q, 8192)]
  | .stepStart q => [(q, 8192)]
  | .segmentStart q _ => [(q, 8192)]
  | .segmentComplete q _ => [(q, 8192)]
  | .stepEnd q => [(q, 8192)]
  | .watchdogOverrun q _ p => [(q, 8192), (p, 8)]
  | .devModeWrite _ => []
  | .modeApply => []
  | .tile p => [(p.pav, 8)]
  | .stream p => [(p.pav, 8)]
  | .accInit p => [(p.pav, 8)]
  | .move p => [(p, 8)]
  | .release p => [(p, 8)]
  | .microcodeSignal p => [(p, 8)]
  | .signalFenceAdvance p => [(p, 8)]
  | .microcodeWait p => [(p, 8)]
  | .microcodeWaitRelease p => [(p, 8)]
  | .microcodeEnd p => [(p, 8)]
  | .convert p => [(p.pav, 8)]
  | .requant p => [(p.pav, 8)]
  | .element p => [(p.pav, 8)]
  | .reduce p => [(p, 8)]
  | .transc p => [(p.pav, 8)]
  | .crc p => [(p.pav, 8)]
  | .loadv p => [(p.pav, 8)]
  | .storev p => [(p.pav, 8)]
  | .creditOpen q _ => [(q, 8192)]
  | .creditAcquire q _ => [(q, 8192)]
  | .creditRelease q _ => [(q, 8192)]
  | .creditClose q _ => [(q, 8192)]
  | .crossingEntry q _ => [(q, 8192)]
  | .crossingRelease g _ => [(g, 8)]
  | .icehouseReply _ => []
  | .refreshWindow ice c => [(ice, 12), (c, 16)]
  | .powerGrant q _ => [(q, 8192)]
  | .moverRowSend p m _ _ => [(p, 8), (m, 4)]
  | .remoteRowArrival _ _ _ => []
  | .moverDescriptorComplete _ => []
  | .creditReturn g src => [(g, 8), (src, 11)]
  | .poolFreeWrite g src _ => [(g, 8), (src, 11)]
  | .scrubComplete g => [(g, 8)]
  | .localClearComplete g => [(g, 8)]
  | .threadStart q _ => [(q, 8192)]
  | .kioskInstruction p c ready _ => [(p, 8), (c, 4), (ready, 65536)]
  | .kioskLoadStore p c ready _ => [(p, 8), (c, 4), (ready, 65536)]
  | .rowLoadStore p c ready _ => [(p, 8), (c, 4), (ready, 65536)]
  | .kioskAmo p c ready _ => [(p, 8), (c, 4), (ready, 65536)]
  | .loadReply p c t _ _ => [(p, 8), (c, 4), (t, 16)]
  | .reservationTimeout p c t => [(p, 8), (c, 4), (t, 16)]
  | .kcall p c ev => [(p, 8), (c, 4), (ev.ready, 65536)]
  | .kwait p c ready => [(p, 8), (c, 4), (ready, 65536)]
  | .kwaitComplete p c t => [(p, 8), (c, 4), (t, 16)]
  | .kcred p c ready => [(p, 8), (c, 4), (ready, 65536)]
  | .kcredGranted p c t => [(p, 8), (c, 4), (t, 16)]
  | .kdfence p c ready => [(p, 8), (c, 4), (ready, 65536)]
  | .kdfenceComplete p c t => [(p, 8), (c, 4), (t, 16)]
  | .kexit p c ready => [(p, 8), (c, 4), (ready, 65536)]
  | .kioskWatchdogRefresh p => [(p, 8)]
  | .kioskWatchdogTimeout p c => [(p, 8), (c, 4)]
  | .codeSetLoad p => [(p, 8)]
  | .codeSetLoadComplete p => [(p, 8)]
  | .inputCorruptReport p slot => [(p, 8), (slot, 2 ^ 32)]
  | .e2eReport p _ => [(p, 8)]
  | .kvEnable _ => []
  | .kvDisable _ => []
  | .kvInitComplete => []
  | .prefixKeyWrite n _ => [(n, 4)]
  | .keyWalk p _ => [(p, 8)]
  | .valueWalk p _ => [(p, 8)]
  | .walkComplete p => [(p, 8)]
  | .stepBoundary => []
  | .frameStart r vc _ => [(r, 8), (vc, 4)]
  | .linePacket r vc dt _ _ _ => [(r, 8), (vc, 4), (dt, 64)]
  | .embeddedDataPacket r vc _ _ _ => [(r, 8), (vc, 4)]
  | .shortPacket r vc _ => [(r, 8), (vc, 4)]
  | .frameEnd r vc _ => [(r, 8), (vc, 4)]
  | .hsExit r => [(r, 8)]
  | .stripeWrite e => [(e.engine, 2)]
  | .holdTimeout cam view => [(cam, 32), (view, 8)]
  | .setTimeout slot => [(slot, 2 ^ 32)]
  | .streamDescWrite cam _ => [(cam, 32)]
  | .streamEnable cam _ => [(cam, 32)]
  | .replayTailWrite cam _ => [(cam, 32)]
  | .replayReadyPoll cam _ => [(cam, 32)]
  | .headAuthentication cam _ => [(cam, 32)]
  | .headResponse cam _ => [(cam, 32)]
  | .headResponseTimeout cam => [(cam, 32)]
  | .lifeUpdate cam _ => [(cam, 32)]
  | .temperaturePoll cam _ => [(cam, 32)]
  | .lockedRise r => [(r, 8)]
  | .serialRecheck cam _ => [(cam, 32)]
  | .clocheEnable _ => []
  | .clocheDisable _ => []
  | .clochePass _ => []
  | .subPeriodBoundary => []
  | .staleLimit n => [(n, 64)]
  | .frameDelivery f => [(f, 16)]
  | .frameEnable f _ => [(f, 16)]
  | .adcTrigger a => [(a, 2)]
  | .adcSlotComplete a _ => [(a, 2)]
  | .sentFrame j _ _ => [(j, 8)]
  | .sentTimeout j => [(j, 8)]
  | .spiTrigger m t => [(m, 4), (t, 4)]
  | .spiTransferComplete m _ => [(m, 4)]
  | .captureEdge c _ _ => [(c, 8)]
  | .captureTimeout c => [(c, 8)]
  | .routeWrite n _ => [(n, 128)]
  | .canEnable c _ => [(c, 8)]
  | .canModeChange c => [(c, 8)]
  | .canFrameReceived c _ _ _ _ => [(c, 8)]
  | .hpBufferRelease c _ => [(c, 8)]
  | .rxFifoRelease c n _ => [(c, 8), (n, 2)]
  | .txRequest c _ => [(c, 8)]
  | .txCancel c _ => [(c, 8)]
  | .txChoice c _ _ => [(c, 8)]
  | .txEnd c _ => [(c, 8)]
  | .boRestart c _ => [(c, 8)]
  | .busOffRecoveryEnd c => [(c, 8)]
  | .ttEnable c _ => [(c, 8)]
  | .referenceInstant c => [(c, 8)]
  | .txWindowOpen c b => [(c, 8), (b, 3)]
  | .nsWrap => []
  | .counterStep _ => []
  | .nextBaseCommit _ => []
  | .loadNow _ => []
  | .servoOffset _ => []
  | .servoReset _ => []
  | .ppsEdge => []
  | .ppsLost => []
  | .ttOutEnable n _ => [(n, 4)]
  | .ttOutEdge n => [(n, 4)]
  | .ttOutPulseEnd n => [(n, 4)]
  | .ttCapture n _ _ => [(n, 4)]
  | .ethTxTail p q _ => [(p, 4), (q, 8)]
  | .ethFrameSent p _ => [(p, 4)]
  | .ethRxTail p q _ => [(p, 4), (q, 64)]
  | .ethFrameReceived p _ _ => [(p, 5)]
  | .ethLinkChange p _ _ => [(p, 4)]
  | .faultAssertion src _ _ _ => [(src, 86)]
  | .episodeClose => []
  | .statusClear w _ => [(w, 4)]
  | .pavilionRelease _ => []
  | .lock => []
  | .aliveToggle => []
  | .belvedereWatchdogExpiry _ => []
  | .safeStateEntry => []
  | .safeStateReady _ _ => []
  | .digestArm _ => []
  | .signatureRecord _ => []
  | .goldenDue p => [(p, 8)]
  | .goldenSlotStart p => [(p, 8)]
  | .goldenResult p => [(p.pav, 8)]
  | .goldenSlotEnd p => [(p, 8)]
  | .coldBoot => []
  | .coldBootReady _ => []
  | .lodgeFault pc => [(pc, 2 ^ 32)]
  | .lodgeWatchdogTimeout => []
  | .lodgeRestartComplete => []
  | .serviceRingTail _ _ => []
  | .mesh => []
  | .clean => []
  | .attest => []
  | .activateBoot n => [(n, 4)]
  | .activateLive n => [(n, 4)]
  | .fuseCommit _ => []
  | .telemetry => []
  | .telemetrySample _ _ => []
  | .satchelHello _ => []
  | .satchelBegin _ _ => []
  | .satchelData _ _ _ => []
  | .satchelAckTimer => []
  | .satchelEnd _ _ _ => []
  | .satchelActivate n _ => [(n, 4)]
  | .activationResume n => [(n, 4)]
  | .emergencyClear _ _ => []
  | .epochBoundary _ _ _ _ => []
  | .grantApply => []
  | .thermalTrip => []
  | .supplyAlert => []
  | .supplyAlertExit => []
  | .powerLimitWrite _ => []
  | .reserveWrite _ => []
  | .strictGrantWrite _ _ => []
  | .avsEvaluation _ => []
  | .avsAck => []
  | .avsTimeout => []
  | .speedMonitorFail _ => []
  | .sysclkLoss _ => []
  | .pllUnlock _ => []
  | .powerLoss => []
  | .systemReset _ => []
  | .railOutOfTolerance rail => [(rail, 3)]
  | .tapReset => []
  | .extest _ _ => []
  | .idcode => []
  | .samplePreload _ _ => []
  | .clamp => []
  | .highz => []
  | .extestPulse _ _ => []
  | .extestTrain _ _ => []
  | .bypass op => [(op, 256)]
  | .rcRead x => [(x.off, 2 ^ 28)]
  | .configurationRequest _ => []
  | .canErrorDetected c _ => [(c, 8)]
  | .sysclkRestored => []
  | .bankInTolerance b => [(b, 3)]
  | .lodgeOverloadEnd => []

/-- What a command must keep beyond the bounds: word-aligned register offsets, link widths of Table 15.1, BAR 0 (where a single
aligned word is REGISTER_WRITE's) or 2 for an access by byte range, window sizes of Table 15.3, a write of at least one byte. -/
def Instr.shapeOk : Instr → Bool
  | .registerWrite off _ => off % 4 == 0
  | .rcRead x => x.off % 4 == 0
  | .linkUp rate width flit _ _ _ => decide (1 ≤ rate) && [1, 2, 4].contains width && (flit || rate != 6)
  | .badRegisterAccess bar off len _ => (bar == 0 && !(len == 4 && off % 4 == 0)) || bar == 2
  | .bar4Write _ x => !x.bytes.isEmpty
  | .configurationRequest (.bar4Size g) => [4, 8, 16, 32, 64, 128, 256].contains g
  | _ => true

/-- The well-formed commands. -/
def Instr.wellFormed (i : Instr) : Bool := i.bounds.all (fun b => decide (b.1 < b.2)) && i.shapeOk

end Sys2Proof
end

