-- ==== Sys2Proof/Decode.lean ====
section
/-! DEFINITION. The command that a word spells: the opcode table gives no row any bits, so no word spells a command. -/
namespace Sys2Proof

/-- The command whose `nbits` bits are `w`: none, since no row of the opcode table gives bits (Assumption 3). -/
def decodeTableWord (nbits w : Nat) : Option Instr :=
  match nbits, w with
  | _, _ => none

end Sys2Proof
end

