-- ==== Sys2Proof/Machine/Bits.lean ====
section
/-! DEFINITION. Bit fields, two's complement, byte order, and bounded iteration. -/
namespace Sys2Proof.Machine

/-- Field [hi:lo] of a value (00 Table 0.3). -/
def fieldOf (v hi lo : Nat) : Nat := v / 2 ^ lo % 2 ^ (hi + 1 - lo)

/-- `v` with field [hi:lo] replaced by `x`. -/
def putField (v hi lo x : Nat) : Nat :=
  v - fieldOf v hi lo * 2 ^ lo + x % 2 ^ (hi + 1 - lo) * 2 ^ lo

/-- Bit `i` of a value. -/
def bitOf (v i : Nat) : Bool := Nat.testBit v i

/-- `v` with bit `i` set to `b`. -/
def putBit (v i : Nat) (b : Bool) : Nat := putField v i i (if b then 1 else 0)

/-- The bits of `v` that `mask` names. -/
def maskBits (v mask : Nat) : Nat := v &&& mask

/-- `v` without the bits that `mask` names. -/
def clearBits (v mask : Nat) : Nat := v - (v &&& mask)

/-- The number of ones among the low `n` bits. -/
def onesBelow (v n : Nat) : Nat := ((List.range n).filter (bitOf v)).length

/-- The indices below `n` of the ones of `v`, ascending. -/
def bitsSet (v n : Nat) : List Nat := (List.range n).filter (bitOf v)

/-- The least power of two exponent `e` with `n ≤ 2 ^ e`, at most `fuel`. -/
def log2Up (n : Nat) : Nat := if n ≤ 1 then 0 else Nat.log2 (n - 1) + 1

/-- The value of a `w`-bit pattern read in two's complement. -/
def signedOf (w v : Nat) : Int :=
  if v % 2 ^ w < 2 ^ (w - 1) then (v % 2 ^ w : Nat) else ((v % 2 ^ w : Nat) : Int) - (2 ^ w : Nat)

/-- The `w`-bit two's complement pattern of an integer. -/
def patternOf (w : Nat) (x : Int) : Nat := (x % (2 ^ w : Nat)).toNat

/-- Clamp an integer into [lo, hi]. -/
def clampInt (lo hi x : Int) : Int := if x < lo then lo else if hi < x then hi else x

/-- Little-endian value of a list of bytes (00 R9). -/
def leNat : List Byte → Nat
  | [] => 0
  | b :: bs => b.toNat + 256 * leNat bs

/-- The `n` little-endian bytes of a value (00 R9). -/
def leBytes : Nat → Nat → List Byte
  | 0, _ => []
  | n + 1, v => BitVec.ofNat 8 v :: leBytes n (v / 256)

/-- The `n` big-endian bytes of a value. -/
def beBytes (n v : Nat) : List Byte := (leBytes n v).reverse

/-- Big-endian value of a list of bytes. -/
def beNat (bs : List Byte) : Nat := leNat bs.reverse

/-- `len` bytes of a list from byte `off`, zero where the list is shorter. -/
def sliceBytes (bs : List Byte) (off len : Nat) : List Byte :=
  let part := (bs.drop off).take len
  part ++ List.replicate (len - part.length) 0

/-- The little-endian field of `len` bytes at byte `off` of a record (00 R9). -/
def leField (bs : List Byte) (off len : Nat) : Nat := leNat (sliceBytes bs off len)

/-- Replace `new.length` bytes from byte `off` of a record. -/
def overlay (bs : List Byte) (off : Nat) (new : List Byte) : List Byte :=
  sliceBytes bs 0 off ++ new ++ bs.drop (off + new.length)

/-- Are all bytes zero? -/
def allZero (bs : List Byte) : Bool := bs.all (fun b => b == 0)

/-- A sum that saturates at 0xFFFF_FFFF. -/
def satAdd32 (a b : Nat) : Nat := if a + b < 2 ^ 32 then a + b else 2 ^ 32 - 1

/-- Apply `f` for each element, first to last. -/
def forEach {α δ : Type} (xs : List α) (f : α → δ → δ) (d : δ) : δ :=
  xs.foldl (fun acc x => f x acc) d

/-- Apply `f` `n` times. -/
def iterN {δ : Type} (n : Nat) (f : δ → δ) (d : δ) : δ :=
  match n with
  | 0 => d
  | n + 1 => iterN n f (f d)

/-- Apply `f` when `c` holds. -/
def applyIf {δ : Type} (c : Bool) (f : δ → δ) (d : δ) : δ := if c then f d else d

/-- The first element of a range for which `f` answers true. -/
def firstBelow (n : Nat) (f : Nat → Bool) : Option Nat := (List.range n).find? f

/-- Stable insertion into a list sorted by `le`. -/
def insertSorted {α : Type} (le : α → α → Bool) (x : α) : List α → List α
  | [] => [x]
  | y :: ys => if le x y then x :: y :: ys else y :: insertSorted le x ys

/-- Stable insertion sort. -/
def sortBy {α : Type} (le : α → α → Bool) : List α → List α
  | [] => []
  | x :: xs => insertSorted le x (sortBy le xs)

end Sys2Proof.Machine
end

