-- ==== Sys2Proof/Machine/Crc.lean ====
section
/-! DEFINITION. Check codes and the published functions the spec cites: CRC-64 (02 R62), CRC-32C (09 R276), CRC-16
(10 R311), Philox-4x32-10 (02 R53), SHA-512 (05 R121), SipHash-1-3 (07 R207). PRESUMED: the bodies of the functions
that the spec only names follow their published definitions. -/
namespace Sys2Proof.Machine

/-- One bit of a reflected CRC with reflected polynomial `poly`. -/
def crcReflBit (poly c : Nat) : Nat := if c % 2 = 1 then c / 2 ^^^ poly else c / 2

/-- One byte of a reflected CRC. -/
def crcReflByte (poly : Nat) (c : Nat) (b : Byte) : Nat := iterN 8 (crcReflBit poly) (c ^^^ b.toNat)

/-- CRC-64 of 02 R62: polynomial 0x42F0_E1EB_A9EA_3693, reflected, initial value and final XOR all ones. -/
def crc64 (bs : List Byte) : Nat :=
  bs.foldl (crcReflByte 0xC96C5795D7870F42) (2 ^ 64 - 1) ^^^ (2 ^ 64 - 1)

/-- The CRC-64 of a concatenation from the CRC-64 of its parts, `n` the bytes of the second part (14 R395). -/
def crc64Combine (a b n : Nat) : Nat := iterN (8 * n) (crcReflBit 0xC96C5795D7870F42) a ^^^ b

/-- CRC-32C (Castagnoli), reflected, initial value and final XOR all ones (09 R276). -/
def crc32c (bs : List Byte) : Nat := bs.foldl (crcReflByte 0x82F63B78) (2 ^ 32 - 1) ^^^ (2 ^ 32 - 1)

/-- One bit of CRC-16 with polynomial 0x1021, most significant bit first. -/
def crc16Bit (c : Nat) : Nat := if 0x8000 ≤ c then (c * 2 % 0x10000) ^^^ 0x1021 else c * 2

/-- CRC-16, polynomial 0x1021, most significant bit first, from an initial value (10 R311). -/
def crc16 (init : Nat) (bs : List Byte) : Nat :=
  bs.foldl (fun c b => iterN 8 crc16Bit (c ^^^ b.toNat * 256)) init

/-! Philox-4x32-10 (02 R53, 05 R155). -/

/-- One Philox round on counter (c0, c1, c2, c3) with key (k0, k1). -/
def philoxRound (c : Nat × Nat × Nat × Nat) (k0 k1 : Nat) : Nat × Nat × Nat × Nat :=
  let p0 := 0xD2511F53 * c.1
  let p1 := 0xCD9E8D57 * c.2.2.1
  (p1 / 2 ^ 32 ^^^ c.2.1 ^^^ k0, p1 % 2 ^ 32, p0 / 2 ^ 32 ^^^ c.2.2.2 ^^^ k1, p0 % 2 ^ 32)

/-- `n` Philox rounds. -/
def philoxRounds : Nat → Nat × Nat × Nat × Nat → Nat → Nat → Nat × Nat × Nat × Nat
  | 0, c, _, _ => c
  | n + 1, c, k0, k1 =>
    philoxRounds n (philoxRound c k0 k1) ((k0 + 0x9E3779B9) % 2 ^ 32) ((k1 + 0xBB67AE85) % 2 ^ 32)

/-- Word `w` of Philox-4x32-10 under a 64-bit seed at counter (c0, c1, c2, c3). -/
def philoxWord (seed c0 c1 c2 c3 w : Nat) : Nat :=
  let r := philoxRounds 10 (c0 % 2 ^ 32, c1 % 2 ^ 32, c2 % 2 ^ 32, c3 % 2 ^ 32) (seed % 2 ^ 32) (seed / 2 ^ 32 % 2 ^ 32)
  match w with
  | 0 => r.1
  | 1 => r.2.1
  | 2 => r.2.2.1
  | _ => r.2.2.2

/-- The word W of element `i` of tensor `t` (02 R53). -/
def roundingWord (seed t i : Nat) : Nat := philoxWord seed (i / 4) t 0 1 (i % 4)

/-! SHA-512 (16 R428, 05 R121), by its published definition. Its constants are computed: the fractions of the square and
cube roots of the first primes, in 64 bits. -/

/-- Rotate a 64-bit value right. -/
def rotr64 (v n : Nat) : Nat := v / 2 ^ n + v % 2 ^ n * 2 ^ (64 - n)

/-- The largest `r` below `2 ^ bits` with `r ^ k` at most `n`, one bit at a time from the top. -/
def rootBelow (k n : Nat) : Nat → Nat → Nat
  | 0, r => r
  | bits + 1, r => rootBelow k n bits (if (r + 2 ^ bits) ^ k ≤ n then r + 2 ^ bits else r)

/-- The 64-bit fraction of the `k`-th root of `p`. -/
def rootFraction (k p : Nat) : Nat := rootBelow k (p * 2 ^ (64 * k)) 70 0 % 2 ^ 64

/-- The primes below `n`. -/
def primesBelow (n : Nat) : List Nat :=
  (List.range n).filter (fun p => decide (2 ≤ p) && (List.range 20).all (fun q => decide (q < 2 ∨ p ≤ q ∨ p % q ≠ 0)))

/-- The exclusive or of three numbers. -/
def parity3 (x y z : Nat) : Nat := x ^^^ y ^^^ z

/-- The running value of SHA-512: the eight chained words, first to last, and the 16 newest schedule words, oldest
first. -/
structure ShaRun where
  chain : List Nat
  window : List Nat

/-- One step with a round constant: the chain takes the oldest word of the window, the window its successor. -/
def shaStep (r : ShaRun) (k : Nat) : ShaRun :=
  match r.chain, r.window with
  | [a, b, c, d, e, f, g, h], w :: rest =>
    let choice := g ^^^ e &&& (f ^^^ g)
    let most := a &&& b ||| c &&& (a ||| b)
    let mixed := w + k + h + choice + parity3 (rotr64 e 14) (rotr64 e 18) (rotr64 e 41)
    let top := mixed + most + parity3 (rotr64 a 28) (rotr64 a 34) (rotr64 a 39)
    let near := rest.getD 0 0
    let far := rest.getD 13 0
    let next := w + parity3 (rotr64 near 1) (rotr64 near 8) (near / 2 ^ 7) + rest.getD 8 0 +
      parity3 (rotr64 far 19) (rotr64 far 61) (far / 2 ^ 6)
    { chain := [top % 2 ^ 64, a, b, c, (d + mixed) % 2 ^ 64, e, f, g], window := rest ++ [next % 2 ^ 64] }
  | _, _ => r

/-- `n` blocks of 128 bytes into a chain, under the round constants `ks`. -/
def shaBlocks (ks : List Nat) : Nat → List Nat → List Byte → List Nat
  | 0, chain, _ => chain
  | n + 1, chain, bs =>
    let start : ShaRun := { chain := chain, window := (List.range 16).map (fun i => beNat (sliceBytes bs (8 * i) 8)) }
    let r := ks.foldl shaStep start
    shaBlocks ks n (chain.zipWith (fun x y => (x + y) % 2 ^ 64) r.chain) (bs.drop 128)

/-- SHA-512: 64 bytes. -/
def sha512 (bs : List Byte) : List Byte :=
  let n := bs.length
  let msg := bs ++ 0x80 :: List.replicate ((239 - n % 128) % 128) 0 ++ beBytes 16 (8 * n)
  let primes := primesBelow 410
  let chain := shaBlocks (primes.map (rootFraction 3)) (msg.length / 128) ((primes.take 8).map (rootFraction 2)) msg
  chain.flatMap (beBytes 8)

/-! SipHash-1-3. -/

/-- Rotate a 64-bit value left. -/
def rotl64 (v n : Nat) : Nat := rotr64 v (64 - n)

/-- One SipRound on (v0, v1, v2, v3). -/
def sipRound (v : Nat × Nat × Nat × Nat) : Nat × Nat × Nat × Nat :=
  let m := 2 ^ 64
  let v0 := (v.1 + v.2.1) % m
  let v1 := rotl64 v.2.1 13 ^^^ v0
  let v0 := rotl64 v0 32
  let v2 := (v.2.2.1 + v.2.2.2) % m
  let v3 := rotl64 v.2.2.2 16 ^^^ v2
  let v0 := (v0 + v3) % m
  let v3 := rotl64 v3 21 ^^^ v0
  let v2 := (v2 + v1) % m
  let v1 := rotl64 v1 17 ^^^ v2
  (v0, v1, rotl64 v2 32, v3)

/-- Absorb one 64-bit word with one round. -/
def sipAbsorb (v : Nat × Nat × Nat × Nat) (w : Nat) : Nat × Nat × Nat × Nat :=
  let r := sipRound (v.1, v.2.1, v.2.2.1, v.2.2.2 ^^^ w)
  (r.1 ^^^ w, r.2.1, r.2.2.1, r.2.2.2)

/-- SipHash-1-3 of bytes under a 128-bit key (k0 low, k1 high). -/
def sipHash13 (k0 k1 : Nat) (bs : List Byte) : Nat :=
  let n := bs.length
  let v : Nat × Nat × Nat × Nat :=
    (k0 ^^^ 0x736f6d6570736575, k1 ^^^ 0x646f72616e646f6d, k0 ^^^ 0x6c7967656e657261, k1 ^^^ 0x7465646279746573)
  let v := (List.range (n / 8)).foldl (fun v i => sipAbsorb v (leField bs (8 * i) 8)) v
  let last := leNat (bs.drop (8 * (n / 8))) + n % 256 * 2 ^ 56
  let v := sipAbsorb v last
  let v := iterN 3 sipRound (v.1, v.2.1, v.2.2.1 ^^^ 0xff, v.2.2.2)
  v.1 ^^^ v.2.1 ^^^ v.2.2.1 ^^^ v.2.2.2

end Sys2Proof.Machine
end

