-- ==== Sys2Proof/Config.lean ====
section
/-! DEFINITION. What an implementation fixes and the spec leaves open: the free values. None has a body; nothing can be
proved of a value. -/
namespace Sys2Proof.Config

/-- FP32 code of a transcendental primitive where the spec bounds the result without fixing it (02 R60): `op` is the
SUBOP of TRANSC, `x` the operand's code. Assumption 5. -/
opaque transcValue : (op x : Nat) → Nat

/-- Error in units of the last place that a reciprocal or inverse square root takes within its bound (02 R60).
Assumption 5. -/
opaque transcUlp : (op x : Nat) → Int

/-- Whether element `elem` of the vector register group at `reg`, agnostic under vtype, is overwritten with ones by the
instruction at the `n`-th open point of a run; for a mask register, the bit's new value (04 Table 4.1: V 1.0).
Assumption 85. -/
opaque agnostic : (n reg elem : Nat) → Bool

/-- A free value: what the device gives at the `n`-th open point of a run (Device.freeCtr counts them). Assumption 7. -/
opaque free : (n : Nat) → Nat

/-- What accumulator entries and sums through weight registers hold that the command has not written, at the `n`-th open point
of a run (02 R39). Assumption 93. -/
opaque unwritten : (n key : Nat) → BitVec 48

/-- The issuer key that a set of head issuer keys, given by its digest, names by identifier (09 R280). Assumption 8. -/
opaque issuerKey : (digest : List Byte) → (id : Nat) → Option (List Byte)

/-- The binary64 arc tangent of a code (09 R282), whose last bit the spec does not fix. Assumption 9. -/
opaque atan64 : (x : Nat) → Nat

end Sys2Proof.Config
end

