-- ==== Sys2Proof/Machine/Map.lean ====
section
/-! DEFINITION. Sparse tables: lists of (key, value) pairs, keys strictly rising. -/
namespace Sys2Proof.Machine

/-- The value listed for a key, if any. -/
def tabFind {α : Type} (k : Nat) : List (Nat × α) → Option α
  | [] => none
  | (j, v) :: rest => if j = k then some v else tabFind k rest

/-- List `v` for `k`, replacing what was listed, keys kept rising. -/
def tabPut {α : Type} (k : Nat) (v : α) : List (Nat × α) → List (Nat × α)
  | [] => [(k, v)]
  | (j, w) :: rest =>
    if k < j then (k, v) :: (j, w) :: rest
    else if j = k then (k, v) :: rest
    else (j, w) :: tabPut k v rest

/-- Remove what is listed for `k`. -/
def tabErase {α : Type} (k : Nat) : List (Nat × α) → List (Nat × α)
  | [] => []
  | (j, w) :: rest => if j = k then tabErase k rest else (j, w) :: tabErase k rest

/-- The value of a key, `dflt` where none is listed. -/
def tabGet {α : Type} (dflt : α) (t : List (Nat × α)) (k : Nat) : α := (tabFind k t).getD dflt

/-- Set a key in canonical form: the default value is never listed. -/
def tabSet {α : Type} [DecidableEq α] (dflt : α) (t : List (Nat × α)) (k : Nat) (v : α) : List (Nat × α) :=
  if v = dflt then tabErase k t else tabPut k v t

/-- Change the value of a key. -/
def tabMod {α : Type} (dflt : α) (t : List (Nat × α)) (k : Nat) (f : α → α) : List (Nat × α) :=
  tabPut k (f (tabGet dflt t k)) t

/-- Are the keys strictly rising, all above `lo`? -/
def tabRising {α : Type} : List (Nat × α) → Bool
  | [] => true
  | [_] => true
  | (j, _) :: (k, w) :: rest => decide (j < k) && tabRising ((k, w) :: rest)

end Sys2Proof.Machine
end

