-- ==== Sys2Proof/Machine/Mem.lean ====
section
/-! DEFINITION. Byte memories as sparse lists of cells: an unlisted byte reads as the memory's default. -/
namespace Sys2Proof.Machine

/-- A byte memory: listed cells, addresses strictly rising, none equal to the default byte. -/
abbrev Memory := List Host.Cell

/-- The canonical form of a memory with default byte `dflt`. -/
def Memory.wf (dflt : Byte) (m : Memory) : Bool := tabRising m && m.all (fun c => c.2 != dflt)

/-- One byte of a memory. -/
def memRead (dflt : Byte) (m : Memory) (a : Nat) : Byte := tabGet dflt m a

/-- Write one byte, keeping the canonical form. -/
def memWrite (dflt : Byte) (m : Memory) (a : Nat) (b : Byte) : Memory := tabSet dflt m a b

/-- `n` bytes from address `a`, ascending. -/
def memReadN (dflt : Byte) (m : Memory) (a n : Nat) : List Byte :=
  (List.range n).map (fun i => memRead dflt m (a + i))

/-- Write a list of bytes from address `a`, ascending. -/
def memWriteN (dflt : Byte) (m : Memory) (a : Nat) : List Byte → Memory
  | [] => m
  | b :: bs => memWriteN dflt (memWrite dflt m a b) (a + 1) bs

/-- Return the bytes of [lo, hi) to the default. -/
def memClear (m : Memory) (lo hi : Nat) : Memory := m.filter (fun c => decide (c.1 < lo) || decide (hi ≤ c.1))

end Sys2Proof.Machine
end

