-- ==== Sys2Proof/Machine/RegMap.lean ====
section
/-! DEFINITION. The register map: every register of chapters 02 to 17 of spec/, its BAR0 offset, the access
type of each of its bits (R10), its reset value and whether it is retained (R11). -/
namespace Sys2Proof.Machine

/-- One register family of a register table of spec/: `dims` lists (count, stride), largest stride first.
The masks say which bits have which access type of R10; `ranges` are the R494 ranges (hi, lo, min, max), `legal` the
fields that take only listed values (hi, lo, values). -/
structure RegFam where
  base : Nat
  dims : List (Nat × Nat) := []
  rw : Nat := 0
  w1c : Nat := 0
  w1s : Nat := 0
  wo : Nat := 0
  rc : Nat := 0
  ro : Nat := 0
  reset : Nat := 0
  retained : Bool := false
  ranges : List (Nat × Nat × Nat × Nat) := []
  legal : List (Nat × Nat × List Nat) := []
  deriving DecidableEq, Repr

/-- Does `delta` name an instance of a family with these dimensions? -/
def regInDims (dims : List (Nat × Nat)) (delta : Nat) : Bool :=
  match dims with
  | [] => delta == 0
  | (count, stride) :: rest => decide (delta / stride < count) && regInDims rest (delta % stride)

/-- Does the family hold the word at BAR0 offset `off`? -/
def RegFam.holds (f : RegFam) (off : Nat) : Bool :=
  decide (f.base ≤ off) && regInDims f.dims (off - f.base)

/-- Registers of BAR0 block 0x0 (chapter 15), part 1. -/
def regBlock0Part1 : List RegFam :=
  [
   { base := 0x0, ro := 0xFFFFFFFF, reset := 0x8801F8E },
   { base := 0x4, ro := 0xFF, reset := 0x10 },
   { base := 0x8, ro := 0xFFFFFF01 },
   { base := 0xC, ro := 0xFFFFFFFF },
   { base := 0x10, ro := 0xFFFFFFFF },
   { base := 0x14, ro := 0xFFFF },
   { base := 0x18, rw := 0x3 },
   { base := 0x1C, ro := 0x7F },
   { base := 0x20, w1c := 0x1F, retained := true },
   { base := 0x24, rw := 0x1F, retained := true },
   { base := 0x28, rw := 0xFFF, retained := true },
   { base := 0x2C, ro := 0x7F },
   { base := 0x30, rc := 0xFFFFFFFF },
   { base := 0x34, ro := 0xFFFFFFFF },
   { base := 0x38, ro := 0xFFFFFFFF },
   { base := 0x100, rw := 0xFFFFFFFF },
   { base := 0x104, ro := 0xE000001F },
   { base := 0x140, dims := [(16, 0x4)], ro := 0xFFFFFFFF },
   { base := 0x200, dims := [(8, 0x4)], wo := 0xFFFFFFFF },
   { base := 0x220, wo := 0x1, ro := 0x300 } ]

/-- Registers of BAR0 block 0x0 (chapter 15), part 2. -/
def regBlock0Part2 : List RegFam :=
  [
   { base := 0x300, wo := 0xC0000000, retained := true },
   { base := 0x304, wo := 0xFFFF, retained := true },
   { base := 0x1000, dims := [(256, 0x4)], ro := 0xFFFFFFFF },
   { base := 0x1400, dims := [(256, 0x4)], ro := 0xFFFFFFFF } ]

/-- Registers of BAR0 block 0x0. -/
def regBlock0 : List RegFam := regBlock0Part1 ++ regBlock0Part2

/-- Registers of BAR0 block 0x1 (chapters 07, 08), part 1. -/
def regBlock1Part1 : List RegFam :=
  [
   { base := 0x1000000, ro := 0x1FFFFF },
   { base := 0x1000004, rw := 0xFFFF, reset := 0x32, ranges := [(15, 0, 1, 65535)] },
   { base := 0x1000008, rw := 0xFFFF, reset := 0x64, ranges := [(15, 0, 1, 65535)] },
   { base := 0x100000C, rw := 0xFFFF, reset := 0x3E8, ranges := [(15, 0, 1, 65535)] },
   { base := 0x1000010, ro := 0x7FFFFF },
   { base := 0x1000014, ro := 0xFFFFFFFF },
   { base := 0x1000018, ro := 0x1FF },
   { base := 0x1100000, dims := [(4096, 0x4)], rw := 0xFFFFFFFF },
   { base := 0x1010000, dims := [(8192, 0x40)], rw := 0x1F003F, reset := 0x6, retained := true },
   { base := 0x1010004, dims := [(8192, 0x40)], wo := 0x7 },
   { base := 0x1010008, dims := [(8192, 0x40)], w1c := 0x18, ro := 0xFF07, retained := true },
   { base := 0x101000C, dims := [(8192, 0x40)], rw := 0xFFFF0FFF, retained := true },
   { base := 0x1010010, dims := [(8192, 0x40)], wo := 0xFFFFF000, retained := true },
   { base := 0x1010014, dims := [(8192, 0x40)], wo := 0xFFFFFFFF, retained := true },
   { base := 0x1010018, dims := [(8192, 0x40)], wo := 0xFFFFF000, retained := true },
   { base := 0x101001C, dims := [(8192, 0x40)], wo := 0xFFFFFFFF, retained := true },
   { base := 0x1010020, dims := [(8192, 0x40)], rw := 0xFFFF, retained := true },
   { base := 0x1010024, dims := [(8192, 0x40)], ro := 0xFFFF, retained := true },
   { base := 0x1010028, dims := [(8192, 0x40)], rw := 0x1FFFF, reset := 0x10000, retained := true },
   { base := 0x101002C, dims := [(8192, 0x40)], ro := 0xFFFF, retained := true } ]

/-- Registers of BAR0 block 0x1 (chapters 07, 08), part 2. -/
def regBlock1Part2 : List RegFam :=
  [
   { base := 0x1010030, dims := [(8192, 0x40)], rw := 0xFFFFFFFF, retained := true },
   { base := 0x1400000, rw := 0x3 },
   { base := 0x1400004, w1c := 0x4, ro := 0x3 },
   { base := 0x1400008, rw := 0xFFFFFFFF },
   { base := 0x140000C, rw := 0x3FFFFF, ranges := [(21, 0, 1, 2621440)] },
   { base := 0x1400010, rw := 0xFFFFFFFF },
   { base := 0x1400014, ro := 0x3FFFFF },
   { base := 0x1400018, wo := 0xFFFF0000 },
   { base := 0x140001C, wo := 0xFFFFFFFF },
   { base := 0x1400020, rw := 0x1FFFFF, ranges := [(20, 0, 0, 1048576)] },
   { base := 0x1400024, ro := 0x1FFFFF },
   { base := 0x1400028, dims := [(4, 0x4)], wo := 0xFFFFFFFF },
   { base := 0x1400038, ro := 0x1FFFF },
   { base := 0x140003C, rc := 0xFFFFFFFF },
   { base := 0x1400040, rc := 0xFFFFFFFF },
   { base := 0x1400044, rc := 0xFFFFFFFF } ]

/-- Registers of BAR0 block 0x1. -/
def regBlock1 : List RegFam := regBlock1Part1 ++ regBlock1Part2

/-- Registers of BAR0 block 0x2 (chapters 02, 05). -/
def regBlock2 : List RegFam :=
  [
   { base := 0x2010000, dims := [(8, 0x200000)], w1c := 0xFF },
   { base := 0x2010004, dims := [(8, 0x200000)], rw := 0xFF, reset := 0xE3 },
   { base := 0x2010008, dims := [(8, 0x200000)], ro := 0xFF },
   { base := 0x2020000, dims := [(8, 0x200000)], rw := 0xF, reset := 0x4 },
   { base := 0x2020004, dims := [(8, 0x200000)], ro := 0xC000FFFF } ]

/-- Registers of BAR0 block 0x3 (chapter 03). -/
def regBlock3 : List RegFam :=
  [
   { base := 0x3000000, dims := [(8, 0x200000)], rw := 0x1 },
   { base := 0x3000004, dims := [(8, 0x200000)], ro := 0x3FFF0007, reset := 0x4 },
   { base := 0x3000008, dims := [(8, 0x200000)], rc := 0xFFFFFFFF },
   { base := 0x300000C, dims := [(8, 0x200000)], ro := 0xC03FFFFF },
   { base := 0x3000010, dims := [(8, 0x200000)], rc := 0xFFFFFFFF },
   { base := 0x3000014, dims := [(8, 0x200000)], ro := 0xFFFF },
   { base := 0x3000018, dims := [(8, 0x200000)], rc := 0xFFFFFFFF },
   { base := 0x3000100, dims := [(8, 0x200000), (11, 0x10)], ro := 0x1FFFFFFF },
   { base := 0x3000104, dims := [(8, 0x200000), (11, 0x10)], ro := 0xFFFFFFFF },
   { base := 0x3000108, dims := [(8, 0x200000), (11, 0x10)], ro := 0xFFFFFFFF },
   { base := 0x300010C, dims := [(8, 0x200000), (11, 0x10)], wo := 0x1FFF } ]

/-- Registers of BAR0 block 0x4 (chapters 04, 09, 14). -/
def regBlock4 : List RegFam :=
  [
   { base := 0x4000000, dims := [(8, 0x200000)], ro := 0x3FFF000E, reset := 0x8 },
   { base := 0x4000004, dims := [(8, 0x200000), (4, 0x4)], ro := 0xFFFF },
   { base := 0x4000014, dims := [(8, 0x200000)], ro := 0x80000FFF },
   { base := 0x4000018, dims := [(8, 0x200000)], ro := 0x7FFFF },
   { base := 0x400001C, dims := [(8, 0x200000)], ro := 0xFFFFFFFF },
   { base := 0x4000020, dims := [(8, 0x200000)], rc := 0xFFFFFFFF },
   { base := 0x4000024, dims := [(8, 0x200000)], ro := 0x8000FFFF },
   { base := 0x4000028, dims := [(8, 0x200000)], wo := 0xFFFF },
   { base := 0x400002C, dims := [(8, 0x200000)], wo := 0xFFFF },
   { base := 0x4001000, dims := [(8, 0x200000), (1024, 0x4)], rw := 0xFFFFFFFF } ]

/-- Registers of BAR0 block 0x7 (chapter 09), part 1. -/
def regBlock7Part1 : List RegFam :=
  [
   { base := 0x7000000, dims := [(8, 0x100)], rw := 0xF7, legal := [(2, 1, [0, 1, 3])] },
   { base := 0x7000004, dims := [(8, 0x100)], ro := 0xF1 },
   { base := 0x7000008, dims := [(8, 0x100)], rc := 0xFFFFFFFF },
   { base := 0x700000C, dims := [(8, 0x100)], rc := 0xFFFFFFFF },
   { base := 0x7000010, dims := [(8, 0x100)], rc := 0xFFFFFFFF },
   { base := 0x7000014, dims := [(8, 0x100)], rc := 0xFFFFFFFF },
   { base := 0x7010000, rw := 0xBFFFFFFF },
   { base := 0x7010004, rw := 0xFFFFFFFF },
   { base := 0x7010008, wo := 0xFFFFFFF0 },
   { base := 0x701000C, wo := 0xFFFFFFFF },
   { base := 0x7010010, rw := 0xFFFF, legal := [(15, 0, [16, 32, 64, 128, 256, 512, 1024, 2048, 4096, 8192, 16384, 32768])] },
   { base := 0x7010014, ro := 0xFFFF },
   { base := 0x7010018, ro := 0xFFFFFFFF },
   { base := 0x701001C, dims := [(2, 0x4)], rc := 0xFFFFFFFF },
   { base := 0x7020000, dims := [(32, 0x40)], rw := 0x3 },
   { base := 0x7020004, dims := [(32, 0x40)], w1c := 0x80, ro := 0xF7F, reset := 0x4 },
   { base := 0x7020008, dims := [(32, 0x40)], wo := 0xFFFFFF80 },
   { base := 0x702000C, dims := [(32, 0x40)], wo := 0xFFFF },
   { base := 0x7020010, dims := [(32, 0x40)], ro := 0xFFFFFFFF },
   { base := 0x7020014, dims := [(32, 0x40)], rc := 0xFFFFFFFF } ]

/-- Registers of BAR0 block 0x7 (chapter 09), part 2. -/
def regBlock7Part2 : List RegFam :=
  [
   { base := 0x7020018, dims := [(32, 0x40)], wo := 0xFFF },
   { base := 0x702001C, dims := [(32, 0x40)], ro := 0xFFF },
   { base := 0x7020020, dims := [(32, 0x40)], rc := 0xFFFFFFFF } ]

/-- Registers of BAR0 block 0x7. -/
def regBlock7 : List RegFam := regBlock7Part1 ++ regBlock7Part2

/-- Registers of BAR0 block 0x9 (chapters 10, 11, 12), part 1. -/
def regBlock9Part1 : List RegFam :=
  [
   { base := 0x9000000, rw := 0x1 },
   { base := 0x9000004, w1c := 0x6, ro := 0x1 },
   { base := 0x9000008, rw := 0xFFFFFFFF, reset := 0xF4240 },
   { base := 0x900000C, rw := 0xFF, reset := 0x1 },
   { base := 0x9000010, rw := 0xFFFFFFFF },
   { base := 0x9000014, ro := 0xFFFFFFFF },
   { base := 0x9000018, rc := 0xFFFFFFFF },
   { base := 0x900001C, rc := 0xFFFFFFFF },
   { base := 0x9000020, ro := 0xFFFFFFFF },
   { base := 0x9000024, ro := 0xFFFFFFFF },
   { base := 0x9000028, ro := 0xFFFFFFFF },
   { base := 0x900002C, ro := 0xFFFFFFFF },
   { base := 0x9000030, ro := 0xFFFFFFFF },
   { base := 0x9000034, ro := 0xFFFFFFFF },
   { base := 0x9000038, rc := 0xFFFFFFFF },
   { base := 0x9000100, dims := [(32, 0x4)], ro := 0x70FFFFFF, reset := 0x40000000 },
   { base := 0x9000200, dims := [(32, 0x10)], rw := 0x8F01FF01 },
   { base := 0x9000204, dims := [(32, 0x10)], rw := 0xFFFFFFFF },
   { base := 0x9000208, dims := [(32, 0x10)], rw := 0xFFFF },
   { base := 0x9001000, dims := [(16, 0x100)], rw := 0xFFFFF8FF, reset := 0x20008, ranges := [(24, 17, 1, 200)] } ]

/-- Registers of BAR0 block 0x9 (chapters 10, 11, 12), part 2. -/
def regBlock9Part2 : List RegFam :=
  [
   { base := 0x9001004, dims := [(16, 0x100)], rw := 0xFFFFFFFF, reset := 0xFFFF0000 },
   { base := 0x9001008, dims := [(16, 0x100)], ro := 0xFF },
   { base := 0x900100C, dims := [(16, 0x100)], rw := 0xFFFFFFFF },
   { base := 0x9001080, dims := [(16, 0x100), (32, 0x4)], rw := 0xFFFFFFFF },
   { base := 0x9800000, rw := 0xFF0FFF07 },
   { base := 0x9800004, w1c := 0x1 },
   { base := 0x9800010, dims := [(4, 0x4)], w1c := 0xFFFFFFFF },
   { base := 0x9800100, dims := [(2, 0x100)], rw := 0xF0F },
   { base := 0x9800104, dims := [(2, 0x100)], rc := 0xFFFFFFFF },
   { base := 0x9800110, dims := [(2, 0x100), (16, 0x4)], rw := 0x7F, ranges := [(6, 4, 0, 4)] },
   { base := 0x9800150, dims := [(2, 0x100), (16, 0x4)], ro := 0xFFFF },
   { base := 0x9800400, dims := [(8, 0x20)], rw := 0x3DFBFF, reset := 0x4F01E, ranges := [(13, 11, 1, 6), (9, 0, 30, 900)] },
   { base := 0x9800404, dims := [(8, 0x20)], rw := 0xFFFF },
   { base := 0x9800408, dims := [(8, 0x20)], ro := 0xFFFFFFFF },
   { base := 0x980040C, dims := [(8, 0x20)], ro := 0xFFFFFFFF },
   { base := 0x9800410, dims := [(8, 0x20)], rc := 0xFFFFFFFF },
   { base := 0x9800414, dims := [(8, 0x20)], ro := 0x1F },
   { base := 0x9800800, dims := [(4, 0x200)], rw := 0xFFF3, reset := 0x710, ranges := [(15, 8, 3, 255)] },
   { base := 0x9800804, dims := [(4, 0x200)], rc := 0xFFFFFFFF },
   { base := 0x9800808, dims := [(4, 0x200)], rc := 0xFFFFFFFF } ]

/-- Registers of BAR0 block 0x9 (chapters 10, 11, 12), part 3. -/
def regBlock9Part3 : List RegFam :=
  [
   { base := 0x9800810, dims := [(4, 0x200), (4, 0x4)], rw := 0xFFFFFFFF },
   { base := 0x9800820, dims := [(4, 0x200), (16, 0x4)], rw := 0x8000FF83, reset := 0x181 },
   { base := 0x9800860, dims := [(4, 0x200), (16, 0x4)], ro := 0xFFFFFFFF },
   { base := 0x9800900, dims := [(4, 0x200), (4, 0x20), (8, 0x4)], rw := 0xFFFFFFFF },
   { base := 0x9801000, dims := [(8, 0x10)], rw := 0xFFFFFF03, reset := 0xA00FA00, ranges := [(23, 8, 1, 65535)] },
   { base := 0x9801004, dims := [(8, 0x10)], ro := 0xFFFFFFFF },
   { base := 0x9801008, dims := [(8, 0x10)], ro := 0xFFFFFFFF },
   { base := 0x9802000, dims := [(128, 0x10)], rw := 0x8000FFFF },
   { base := 0x9802004, dims := [(128, 0x10)], rw := 0xFFFFFFFF },
   { base := 0x9802008, dims := [(128, 0x10)], rw := 0xFFFFFFFF, reset := 0x10000 },
   { base := 0x9400000, dims := [(8, 0x10000)], rw := 0x7D, wo := 0x80, reset := 0x10 },
   { base := 0x9400004, dims := [(8, 0x10000)], w1c := 0xE20, ro := 0x1CF },
   { base := 0x9400008, dims := [(8, 0x10000)], ro := 0xFFFF },
   { base := 0x940000C, dims := [(8, 0x10000)], rw := 0xFFFFFCFF },
   { base := 0x9400010, dims := [(8, 0x10000)], rw := 0xFFFFF81F },
   { base := 0x9400014, dims := [(8, 0x10000)], w1c := 0x7FFFF },
   { base := 0x9400018, dims := [(8, 0x10000)], rw := 0x7FFFF },
   { base := 0x940001C, dims := [(8, 0x10000)], rw := 0xFFF0FFF },
   { base := 0x9400020, dims := [(8, 0x10000)], rw := 0x3F3F03, reset := 0x3, ranges := [(13, 8, 0, 32), (21, 16, 0, 32)] },
   { base := 0x9400024, dims := [(8, 0x10000)], ro := 0xFF003F1F } ]

/-- Registers of BAR0 block 0x9 (chapters 10, 11, 12), part 4. -/
def regBlock9Part4 : List RegFam :=
  [
   { base := 0x9400028, dims := [(8, 0x10000)], wo := 0x3F },
   { base := 0x940002C, dims := [(8, 0x10000)], ro := 0xFF003F1F },
   { base := 0x9400030, dims := [(8, 0x10000)], wo := 0x3F },
   { base := 0x9400034, dims := [(8, 0x10000)], w1c := 0x1, ro := 0xFF00 },
   { base := 0x9400038, dims := [(8, 0x10000)], rw := 0x71 },
   { base := 0x940003C, dims := [(8, 0x10000)], w1s := 0x7 },
   { base := 0x9400040, dims := [(8, 0x10000)], w1s := 0x7 },
   { base := 0x9400050, dims := [(8, 0x10000), (3, 0x10)], ro := 0x7 },
   { base := 0x9400054, dims := [(8, 0x10000), (3, 0x10)], ro := 0xFFFFFFFF },
   { base := 0x9400058, dims := [(8, 0x10000), (3, 0x10)], rw := 0xFF01FFFF, ranges := [(30, 24, 1, 127)] },
   { base := 0x9400080, dims := [(8, 0x10000)], rc := 0xFFFFFFFF },
   { base := 0x9400084, dims := [(8, 0x10000)], rc := 0xFFFFFFFF },
   { base := 0x9400100, dims := [(8, 0x10000)], rw := 0x800FFF07, reset := 0x10000, ranges := [(19, 16, 1, 8), (2, 0, 0, 6)] },
   { base := 0x9400104, dims := [(8, 0x10000)], rw := 0x9FFFFFFF },
   { base := 0x9400108, dims := [(8, 0x10000)], rw := 0xFFFFFFFF, ranges := [(31, 0, 100000, 100000000)] },
   { base := 0x940010C, dims := [(8, 0x10000)], rw := 0xFFFFFFFF },
   { base := 0x9400110, dims := [(8, 0x10000), (2, 0x4)], rw := 0xFFFFFFFF },
   { base := 0x9400118, dims := [(8, 0x10000)], ro := 0x3F0001 },
   { base := 0x940011C, dims := [(8, 0x10000)], ro := 0xFFFFFFFF },
   { base := 0x9400120, dims := [(8, 0x10000)], rc := 0xFFFFFFFF } ]

/-- Registers of BAR0 block 0x9 (chapters 10, 11, 12), part 5. -/
def regBlock9Part5 : List RegFam :=
  [
   { base := 0x9400124, dims := [(8, 0x10000)], rc := 0xFFFFFFFF },
   { base := 0x9408000, dims := [(8, 0x10000), (2048, 0x4)], rw := 0xFFFFFFFF },
   { base := 0x9480000, w1c := 0xFF },
   { base := 0x9480004, ro := 0xF } ]

/-- Registers of BAR0 block 0x9. -/
def regBlock9 : List RegFam := regBlock9Part1 ++ regBlock9Part2 ++ regBlock9Part3 ++ regBlock9Part4 ++ regBlock9Part5

/-- Registers of BAR0 block 0xA (chapter 13), part 1. -/
def regBlockAPart1 : List RegFam :=
  [
   { base := 0xA000000, rw := 0x2, wo := 0x1 },
   { base := 0xA000004, w1c := 0x79, ro := 0x86 },
   { base := 0xA000008, ro := 0xFFFFFFFF },
   { base := 0xA00000C, ro := 0xFFFFFFFF },
   { base := 0xA000010, ro := 0xFFFFFFFF },
   { base := 0xA000014, rw := 0xFFFFFFFF },
   { base := 0xA000018, wo := 0xFFFFFFFF },
   { base := 0xA00001C, rc := 0xFFFFFFFF },
   { base := 0xA000020, wo := 0xFFFFFFFF },
   { base := 0xA000024, wo := 0xFFFFFFFF },
   { base := 0xA000028, wo := 0xFFFF },
   { base := 0xA000030, rw := 0x5, wo := 0x2 },
   { base := 0xA000034, rw := 0xFFFFFFFF },
   { base := 0xA000038, wo := 0xFFFFFFFF },
   { base := 0xA00003C, rw := 0xFFFFFFFF, reset := 0xF4240 },
   { base := 0xA000040, ro := 0xFFFFFFFF },
   { base := 0xA000050, ro := 0xFFFFFFFF },
   { base := 0xA000054, ro := 0xFFFFFFFF },
   { base := 0xA000058, ro := 0xFFFFFFFF },
   { base := 0xA000100, dims := [(4, 0x20)], rw := 0xC0000000 } ]

/-- Registers of BAR0 block 0xA (chapter 13), part 2. -/
def regBlockAPart2 : List RegFam :=
  [
   { base := 0xA000104, dims := [(4, 0x20)], rw := 0xFFFFFFFF },
   { base := 0xA000108, dims := [(4, 0x20)], rw := 0xFFFFFFFF },
   { base := 0xA00010C, dims := [(4, 0x20)], rw := 0xFFFFFFFF },
   { base := 0xA000110, dims := [(4, 0x20)], rc := 0xFFFFFFFF },
   { base := 0xA000200, dims := [(4, 0x10)], rw := 0x3FF, reset := 0x28 },
   { base := 0xA000204, dims := [(4, 0x10)], ro := 0xFFFFFFFF },
   { base := 0xA000208, dims := [(4, 0x10)], ro := 0xFFFFFFFF },
   { base := 0xA00020C, dims := [(4, 0x10)], w1c := 0x80000000, ro := 0xFFFF },
   { base := 0xA100000, dims := [(4, 0x10000)], rw := 0x3 },
   { base := 0xA100004, dims := [(4, 0x10000)], w1c := 0x8, ro := 0x7 },
   { base := 0xA100008, dims := [(4, 0x10000)], rw := 0x3FFF, reset := 0x5EE, ranges := [(13, 0, 1518, 9216)] },
   { base := 0xA10000C, dims := [(4, 0x10000)], rw := 0xFFFFFFFF, ranges := [(31, 0, 0, 65535)] },
   { base := 0xA100010, dims := [(4, 0x10000)], rw := 0xFFFFFFFF, ranges := [(31, 0, 0, 65535)] },
   { base := 0xA100014, dims := [(4, 0x10000)], rw := 0x3F },
   { base := 0xA100018, dims := [(4, 0x10000)], rw := 0xFFF },
   { base := 0xA100020, dims := [(4, 0x10000)], rw := 0xFFFFFFFF },
   { base := 0xA100024, dims := [(4, 0x10000)], rw := 0xFFFFFFFF },
   { base := 0xA100028, dims := [(4, 0x10000)], rw := 0x7F },
   { base := 0xA100030, dims := [(4, 0x10000)], rc := 0xFFFFFFFF },
   { base := 0xA100034, dims := [(4, 0x10000)], rc := 0xFFFFFFFF } ]

/-- Registers of BAR0 block 0xA (chapter 13), part 3. -/
def regBlockAPart3 : List RegFam :=
  [
   { base := 0xA100038, dims := [(4, 0x10000)], rc := 0xFFFFFFFF },
   { base := 0xA10003C, dims := [(4, 0x10000)], rc := 0xFFFFFFFF },
   { base := 0xA101000, dims := [(4, 0x10000), (64, 0x20)], wo := 0xFFFFFFC0 },
   { base := 0xA101004, dims := [(4, 0x10000), (64, 0x20)], wo := 0xFFFF },
   { base := 0xA101008, dims := [(4, 0x10000), (64, 0x20)], rw := 0x8000000F, ranges := [(3, 0, 6, 12)] },
   { base := 0xA10100C, dims := [(4, 0x10000), (64, 0x20)], wo := 0xFFF },
   { base := 0xA101010, dims := [(4, 0x10000), (64, 0x20)], ro := 0xFFF },
   { base := 0xA101014, dims := [(4, 0x10000), (64, 0x20)], rc := 0xFFFFFFFF },
   { base := 0xA102000, dims := [(4, 0x10000), (7, 0x20)], wo := 0xFFFFFFC0 },
   { base := 0xA102004, dims := [(4, 0x10000), (7, 0x20)], wo := 0xFFFF },
   { base := 0xA102008, dims := [(4, 0x10000), (7, 0x20)], rw := 0x8000000F, ranges := [(3, 0, 6, 12)] },
   { base := 0xA10200C, dims := [(4, 0x10000), (7, 0x20)], wo := 0xFFF },
   { base := 0xA102010, dims := [(4, 0x10000), (7, 0x20)], ro := 0xFFF },
   { base := 0xA102014, dims := [(4, 0x10000), (7, 0x20)], rc := 0xFFFFFFFF },
   { base := 0xA103000, dims := [(4, 0x10000), (32, 0x10)], rw := 0xFF00001F },
   { base := 0xA103004, dims := [(4, 0x10000), (32, 0x10)], rw := 0xFFFFFFFF },
   { base := 0xA103008, dims := [(4, 0x10000), (32, 0x10)], rw := 0xFFFFFFFF },
   { base := 0xA10300C, dims := [(4, 0x10000), (32, 0x10)], rw := 0xFFFF7FFF },
   { base := 0xA140030, rc := 0xFFFFFFFF },
   { base := 0xA140034, rc := 0xFFFFFFFF } ]

/-- Registers of BAR0 block 0xA (chapter 13), part 4. -/
def regBlockAPart4 : List RegFam :=
  [
   { base := 0xA140038, rc := 0xFFFFFFFF },
   { base := 0xA14003C, rc := 0xFFFFFFFF } ]

/-- Registers of BAR0 block 0xA. -/
def regBlockA : List RegFam := regBlockAPart1 ++ regBlockAPart2 ++ regBlockAPart3 ++ regBlockAPart4

/-- Registers of BAR0 block 0xB (chapter 14), part 1. -/
def regBlockBPart1 : List RegFam :=
  [
   { base := 0xB000000, rw := 0xFFFFFFFF, reset := 0xAAAAAAAA, retained := true },
   { base := 0xB000004, rw := 0xFFFFFFFF, reset := 0xAAAAAAAA, retained := true },
   { base := 0xB000008, rw := 0x3FFFFFFF, ro := 0xC0000000, reset := 0xD5AAAAAA, retained := true },
   { base := 0xB00000C, rw := 0xFFFFFFFF, reset := 0x55555555, retained := true },
   { base := 0xB000010, rw := 0xC300FFFF, ro := 0x3CFF0000, reset := 0x7EFF6159, retained := true },
   { base := 0xB000014, rw := 0xC30, ro := 0x3CF, reset := 0x7EF, retained := true },
   { base := 0xB000018, retained := true },
   { base := 0xB00001C, retained := true },
   { base := 0xB000020, rw := 0xF, reset := 0x7, retained := true, ranges := [(3, 1, 1, 7)] },
   { base := 0xB000024, ro := 0xE07FFFFF },
   { base := 0xB000028, rc := 0xFFFFFFFF },
   { base := 0xB000030, dims := [(4, 0x4)], wo := 0xFFFFFFFF },
   { base := 0xB000040, rw := 0x3FFF, reset := 0x3E8, retained := true, ranges := [(13, 0, 100, 10000)] },
   { base := 0xB000044, ro := 0xFFFF },
   { base := 0xB000048, wo := 0xFF },
   { base := 0xB00004C, rw := 0x7F0F, reset := 0xA02, retained := true, ranges := [(14, 8, 2, 64), (3, 0, 2, 8)] },
   { base := 0xB000050, rc := 0xFFFFFFFF },
   { base := 0xB000054, rw := 0x3FFF, reset := 0x64, retained := true, ranges := [(13, 0, 10, 10000)] },
   { base := 0xB000058, ro := 0xFFFFFF },
   { base := 0xB00005C, rc := 0xFFFFFFFF } ]

/-- Registers of BAR0 block 0xB (chapter 14), part 2. -/
def regBlockBPart2 : List RegFam :=
  [
   { base := 0xB000060, rw := 0xFFFFF000, retained := true },
   { base := 0xB000064, rw := 0xFFFF, retained := true },
   { base := 0xB000068, rw := 0x1FFFFFF, retained := true, ranges := [(24, 0, 0, 16777216)] },
   { base := 0xB00006C, rw := 0xFFFFFFFF, retained := true },
   { base := 0xB000070, rw := 0xFFFFFFFF, retained := true },
   { base := 0xB000074, rw := 0x1, ro := 0x6, retained := true },
   { base := 0xB000078, ro := 0xC00000FF, retained := true },
   { base := 0xB00007C, ro := 0xFFFFFFFF, retained := true },
   { base := 0xB000080, ro := 0x7F, retained := true },
   { base := 0xB000084, rw := 0xFFF, retained := true },
   { base := 0xB000088, ro := 0x7FF, retained := true },
   { base := 0xB000090, w1s := 0x1, retained := true },
   { base := 0xB100000, dims := [(2048, 0x20), (8, 0x4)], ro := 0xFFFFFFFF, retained := true } ]

/-- Registers of BAR0 block 0xB. -/
def regBlockB : List RegFam := regBlockBPart1 ++ regBlockBPart2

/-- Registers of BAR0 block 0xC (chapter 17). -/
def regBlockC : List RegFam :=
  [
   { base := 0xC000000, rw := 0x6, reset := 0x6 },
   { base := 0xC000004, w1c := 0xC0, ro := 0x3E },
   { base := 0xC000008, rw := 0x7FF, reset := 0x370 },
   { base := 0xC00000C, ro := 0x7FF, reset := 0x370 },
   { base := 0xC000010, rw := 0x7FF, reset := 0x90 },
   { base := 0xC000014, rw := 0xFF, reset := 0x24 },
   { base := 0xC000018, rw := 0xFF, reset := 0x2C },
   { base := 0xC00001C, rw := 0xFF, reset := 0x76 },
   { base := 0xC000020, ro := 0xFFFFFFFF },
   { base := 0xC000024, ro := 0x7FF },
   { base := 0xC000028, ro := 0x1FFFFF },
   { base := 0xC000100, dims := [(30, 0x4)], ro := 0x7FF07FF },
   { base := 0xC000200, dims := [(30, 0x4)], ro := 0x7FF },
   { base := 0xC000300, dims := [(24, 0x4)], ro := 0x8000FFFF },
   { base := 0xC000400, dims := [(48, 0x4)], ro := 0x3 } ]

/-- Registers of BAR0 block 0xD (chapter 16). -/
def regBlockD : List RegFam :=
  [
   { base := 0xD000000, ro := 0x3F9E },
   { base := 0xD000004, w1c := 0x7 },
   { base := 0xD000008, rw := 0xFFF },
   { base := 0xD00000C, ro := 0x1FF7F },
   { base := 0xD000010, wo := 0xFFFFF000 },
   { base := 0xD000014, wo := 0xFFFF },
   { base := 0xD000018, rw := 0x8000000F, ranges := [(3, 0, 4, 8)] },
   { base := 0xD00001C, wo := 0xFF },
   { base := 0xD000020, ro := 0xFF },
   { base := 0xD000024, rc := 0xFFFFFFFF },
   { base := 0xD000028, rc := 0xFFFFFFFF },
   { base := 0xD00002C, ro := 0xFF },
   { base := 0xD000030, rc := 0xFFFFFFFF } ]

/-- Registers of BAR0 block 0xE (chapter 15). -/
def regBlockE : List RegFam :=
  [
   { base := 0xE000000, ro := 0x301FF, retained := true },
   { base := 0xE000004, rc := 0xFFFFFFFF, retained := true },
   { base := 0xE000008, rc := 0xFFFFFFFF, retained := true },
   { base := 0xE00000C, rc := 0xFFFFFFFF, retained := true },
   { base := 0xE100000, dims := [(2048, 0x10)], rw := 0xFFFFFFFF, retained := true },
   { base := 0xE100004, dims := [(2048, 0x10)], rw := 0xFFFFFFFF, retained := true },
   { base := 0xE100008, dims := [(2048, 0x10)], rw := 0xFFFFFFFF, retained := true },
   { base := 0xE10000C, dims := [(2048, 0x10)], rw := 0x1, reset := 0x1, retained := true },
   { base := 0xE180000, dims := [(64, 0x4)], ro := 0xFFFFFFFF, retained := true } ]

/-- The families of the block that holds `off` (Table 15.4). -/
def regBlockOf (off : Nat) : List RegFam :=
  match off / 0x1000000 with
  | 0x0 => regBlock0
  | 0x1 => regBlock1
  | 0x2 => regBlock2
  | 0x3 => regBlock3
  | 0x4 => regBlock4
  | 0x7 => regBlock7
  | 0x9 => regBlock9
  | 0xA => regBlockA
  | 0xB => regBlockB
  | 0xC => regBlockC
  | 0xD => regBlockD
  | 0xE => regBlockE
  | _ => []

/-- The register that lies at BAR0 offset `off`, if any (R417). -/
def regFam? (off : Nat) : Option RegFam := (regBlockOf off).find? (fun f => f.holds off)

/-- The value of the word at `off` when the device is released from reset (R11). -/
def regReset (off : Nat) : Word :=
  match regFam? off with
  | some f => BitVec.ofNat 32 f.reset
  | none => 0

/-- Does the word at `off` survive a safe-state restart (R390)? -/
def regRetained (off : Nat) : Bool :=
  match regFam? off with
  | some f => f.retained
  | none => false

/-! The names of the registers, as functions of the unit, queue or slot number. -/

/-- DEV_ID (15 R422). -/
abbrev DEV_ID : Nat := 0x0
/-- DEV_REV (15 R422). -/
abbrev DEV_REV : Nat := 0x4
/-- DEV_CONFIG (15 R422). -/
abbrev DEV_CONFIG : Nat := 0x8
/-- DEV_PLACE_PAV (15 R422). -/
abbrev DEV_PLACE_PAV : Nat := 0xC
/-- DEV_PLACE_IH0 (15 R422). -/
abbrev DEV_PLACE_IH0 : Nat := 0x10
/-- DEV_PLACE_IH1 (15 R422). -/
abbrev DEV_PLACE_IH1 : Nat := 0x14
/-- DEV_MODE (15 R422). -/
abbrev DEV_MODE : Nat := 0x18
/-- DEV_STATUS (15 R422). -/
abbrev DEV_STATUS : Nat := 0x1C
/-- DEV_EVENT (15 R422). -/
abbrev DEV_EVENT : Nat := 0x20
/-- DEV_EVENT_EN (15 R422). -/
abbrev DEV_EVENT_EN : Nat := 0x24
/-- DEV_IRQ (15 R422). -/
abbrev DEV_IRQ : Nat := 0x28
/-- DEV_SUMMARY (15 R422). -/
abbrev DEV_SUMMARY : Nat := 0x2C
/-- DEV_BADACC (15 R422). -/
abbrev DEV_BADACC : Nat := 0x30
/-- DEV_BADACC_ADDR (15 R422). -/
abbrev DEV_BADACC_ADDR : Nat := 0x34
/-- DEV_FW_VERSION (15 R422). -/
abbrev DEV_FW_VERSION : Nat := 0x38
/-- DEV_MBOX_SEL (15 R422). -/
abbrev DEV_MBOX_SEL : Nat := 0x100
/-- DEV_MBOX_STATUS (15 R422). -/
abbrev DEV_MBOX_STATUS : Nat := 0x104
/-- DEV_MBOX_DATA (15 R422). -/
abbrev DEV_MBOX_DATA (i : Nat) : Nat := 0x140 + i * 0x4
/-- DEV_FEAT_REQ (15 R422). -/
abbrev DEV_FEAT_REQ (i : Nat) : Nat := 0x200 + i * 0x4
/-- DEV_FEAT_CTRL (15 R422). -/
abbrev DEV_FEAT_CTRL : Nat := 0x220
/-- DEV_BAR4_BASE_LO (15 R422). -/
abbrev DEV_BAR4_BASE_LO : Nat := 0x300
/-- DEV_BAR4_BASE_HI (15 R422). -/
abbrev DEV_BAR4_BASE_HI : Nat := 0x304
/-- DEV_QHALT (15 R422). -/
abbrev DEV_QHALT (i : Nat) : Nat := 0x1000 + i * 0x4
/-- DEV_QBUSY (15 R422). -/
abbrev DEV_QBUSY (i : Nat) : Nat := 0x1400 + i * 0x4
/-- PCI_LINK (15 R425). -/
abbrev PCI_LINK : Nat := 0xE000000
/-- PCI_REPLAY (15 R425). -/
abbrev PCI_REPLAY : Nat := 0xE000004
/-- PCI_RECOVERY (15 R425). -/
abbrev PCI_RECOVERY : Nat := 0xE000008
/-- PCI_LINKDOWN (15 R425). -/
abbrev PCI_LINKDOWN : Nat := 0xE00000C
/-- CK_STATUS (08 R256). -/
abbrev CK_STATUS : Nat := 0x1000000
/-- CK_AGE_BULK (08 R256). -/
abbrev CK_AGE_BULK : Nat := 0x1000004
/-- CK_AGE_PLAN (08 R256). -/
abbrev CK_AGE_PLAN : Nat := 0x1000008
/-- CK_AGE_LIMIT (08 R256). -/
abbrev CK_AGE_LIMIT : Nat := 0x100000C
/-- CK_SB_STATUS (08 R256). -/
abbrev CK_SB_STATUS : Nat := 0x1000010
/-- CK_SB_SEQNEXT (08 R256). -/
abbrev CK_SB_SEQNEXT : Nat := 0x1000014
/-- CK_SB_RETRY (08 R256). -/
abbrev CK_SB_RETRY : Nat := 0x1000018
/-- CK_SEM (08 R256). -/
abbrev CK_SEM (i : Nat) : Nat := 0x1100000 + i * 0x4
/-- CK_Q_CFG (08 R256). -/
abbrev CK_Q_CFG (i : Nat) : Nat := 0x1010000 + i * 0x40
/-- CK_Q_CTRL (08 R256). -/
abbrev CK_Q_CTRL (i : Nat) : Nat := 0x1010004 + i * 0x40
/-- CK_Q_STATUS (08 R256). -/
abbrev CK_Q_STATUS (i : Nat) : Nat := 0x1010008 + i * 0x40
/-- CK_Q_IRQ (08 R256). -/
abbrev CK_Q_IRQ (i : Nat) : Nat := 0x101000C + i * 0x40
/-- CK_Q_SQ_BASE_LO (08 R256). -/
abbrev CK_Q_SQ_BASE_LO (i : Nat) : Nat := 0x1010010 + i * 0x40
/-- CK_Q_SQ_BASE_HI (08 R256). -/
abbrev CK_Q_SQ_BASE_HI (i : Nat) : Nat := 0x1010014 + i * 0x40
/-- CK_Q_CQ_BASE_LO (08 R256). -/
abbrev CK_Q_CQ_BASE_LO (i : Nat) : Nat := 0x1010018 + i * 0x40
/-- CK_Q_CQ_BASE_HI (08 R256). -/
abbrev CK_Q_CQ_BASE_HI (i : Nat) : Nat := 0x101001C + i * 0x40
/-- CK_Q_SQ_HEAD (08 R256). -/
abbrev CK_Q_SQ_HEAD (i : Nat) : Nat := 0x1010020 + i * 0x40
/-- CK_Q_SQ_TAIL (08 R256). -/
abbrev CK_Q_SQ_TAIL (i : Nat) : Nat := 0x1010024 + i * 0x40
/-- CK_Q_CQ_TAIL (08 R256). -/
abbrev CK_Q_CQ_TAIL (i : Nat) : Nat := 0x1010028 + i * 0x40
/-- CK_Q_CQ_HEAD (08 R256). -/
abbrev CK_Q_CQ_HEAD (i : Nat) : Nat := 0x101002C + i * 0x40
/-- CK_Q_CMDSEQ (08 R256). -/
abbrev CK_Q_CMDSEQ (i : Nat) : Nat := 0x1010030 + i * 0x40
/-- CK_KV_CTRL (07 R220). -/
abbrev CK_KV_CTRL : Nat := 0x1400000
/-- CK_KV_STATUS (07 R220). -/
abbrev CK_KV_STATUS : Nat := 0x1400004
/-- CK_KV_POOL_BASE (07 R220). -/
abbrev CK_KV_POOL_BASE : Nat := 0x1400008
/-- CK_KV_POOL_PAGES (07 R220). -/
abbrev CK_KV_POOL_PAGES : Nat := 0x140000C
/-- CK_KV_CTRL_BASE (07 R220). -/
abbrev CK_KV_CTRL_BASE : Nat := 0x1400010
/-- CK_KV_FREE_PAGES (07 R220). -/
abbrev CK_KV_FREE_PAGES : Nat := 0x1400014
/-- CK_KV_SWAP_BASE_LO (07 R220). -/
abbrev CK_KV_SWAP_BASE_LO : Nat := 0x1400018
/-- CK_KV_SWAP_BASE_HI (07 R220). -/
abbrev CK_KV_SWAP_BASE_HI : Nat := 0x140001C
/-- CK_KV_SWAP_SLOTS (07 R220). -/
abbrev CK_KV_SWAP_SLOTS : Nat := 0x1400020
/-- CK_KV_SWAP_FREE (07 R220). -/
abbrev CK_KV_SWAP_FREE : Nat := 0x1400024
/-- CK_PFX_KEY (07 R220). -/
abbrev CK_PFX_KEY (i : Nat) : Nat := 0x1400028 + i * 0x4
/-- CK_PFX_NODES (07 R220). -/
abbrev CK_PFX_NODES : Nat := 0x1400038
/-- CK_PFX_INSERT_FAIL (07 R220). -/
abbrev CK_PFX_INSERT_FAIL : Nat := 0x140003C
/-- CK_PFX_FALSE_HIT (07 R220). -/
abbrev CK_PFX_FALSE_HIT : Nat := 0x1400040
/-- CK_KV_SWAP_CRC_ERR (07 R220). -/
abbrev CK_KV_SWAP_CRC_ERR : Nat := 0x1400044
/-- PV_ARITH_FLAGS (02 R63). -/
abbrev PV_ARITH_FLAGS (i : Nat) : Nat := 0x2010000 + i * 0x200000
/-- PV_FLAG_REPORT (02 R63). -/
abbrev PV_FLAG_REPORT (i : Nat) : Nat := 0x2010004 + i * 0x200000
/-- PV_FLAG_LAST (02 R63). -/
abbrev PV_FLAG_LAST (i : Nat) : Nat := 0x2010008 + i * 0x200000
/-- PV_WDOG_CFG (05 R145). -/
abbrev PV_WDOG_CFG (i : Nat) : Nat := 0x2020000 + i * 0x200000
/-- PV_SEG_STATUS (05 R145). -/
abbrev PV_SEG_STATUS (i : Nat) : Nat := 0x2020004 + i * 0x200000
/-- GH_CTRL (03 R94). -/
abbrev GH_CTRL (i : Nat) : Nat := 0x3000000 + i * 0x200000
/-- GH_STATUS (03 R94). -/
abbrev GH_STATUS (i : Nat) : Nat := 0x3000004 + i * 0x200000
/-- GH_ECC_CORR (03 R94). -/
abbrev GH_ECC_CORR (i : Nat) : Nat := 0x3000008 + i * 0x200000
/-- GH_ECC_ADDR (03 R94). -/
abbrev GH_ECC_ADDR (i : Nat) : Nat := 0x300000C + i * 0x200000
/-- GH_CONFLICT (03 R94). -/
abbrev GH_CONFLICT (i : Nat) : Nat := 0x3000010 + i * 0x200000
/-- GH_CONFLICT_ROW (03 R94). -/
abbrev GH_CONFLICT_ROW (i : Nat) : Nat := 0x3000014 + i * 0x200000
/-- GH_CREDIT_ERR (03 R94). -/
abbrev GH_CREDIT_ERR (i : Nat) : Nat := 0x3000018 + i * 0x200000
/-- GH_POOL_CFG (03 R94). -/
abbrev GH_POOL_CFG (i : Nat) (j : Nat) : Nat := 0x3000100 + i * 0x200000 + j * 0x10
/-- GH_POOL_ACQ (03 R94). -/
abbrev GH_POOL_ACQ (i : Nat) (j : Nat) : Nat := 0x3000104 + i * 0x200000 + j * 0x10
/-- GH_POOL_REL (03 R94). -/
abbrev GH_POOL_REL (i : Nat) (j : Nat) : Nat := 0x3000108 + i * 0x200000 + j * 0x10
/-- GH_POOL_FREE (03 R94). -/
abbrev GH_POOL_FREE (i : Nat) (j : Nat) : Nat := 0x300010C + i * 0x200000 + j * 0x10
/-- KS_STATUS (04 R120). -/
abbrev KS_STATUS (i : Nat) : Nat := 0x4000000 + i * 0x200000
/-- KS_THREADS (04 R120). -/
abbrev KS_THREADS (i : Nat) (j : Nat) : Nat := 0x4000004 + i * 0x200000 + j * 0x4
/-- KS_EXC_INFO (04 R120). -/
abbrev KS_EXC_INFO (i : Nat) : Nat := 0x4000014 + i * 0x200000
/-- KS_EXC_PC (04 R120). -/
abbrev KS_EXC_PC (i : Nat) : Nat := 0x4000018 + i * 0x200000
/-- KS_EXIT_LAST (04 R120). -/
abbrev KS_EXIT_LAST (i : Nat) : Nat := 0x400001C + i * 0x200000
/-- KS_ECC_CORR (04 R120). -/
abbrev KS_ECC_CORR (i : Nat) : Nat := 0x4000020 + i * 0x200000
/-- KS_ECC_ADDR (04 R120). -/
abbrev KS_ECC_ADDR (i : Nat) : Nat := 0x4000024 + i * 0x200000
/-- KS_INPUT_CORRUPT (09 R293). -/
abbrev KS_INPUT_CORRUPT (i : Nat) : Nat := 0x4000028 + i * 0x200000
/-- KS_E2E_REPORT (14 R404). -/
abbrev KS_E2E_REPORT (i : Nat) : Nat := 0x400002C + i * 0x200000
/-- KS_FENCE (04 R120). -/
abbrev KS_FENCE (i : Nat) (j : Nat) : Nat := 0x4001000 + i * 0x200000 + j * 0x4
/-- CSI_CTRL (09 R293). -/
abbrev CSI_CTRL (i : Nat) : Nat := 0x7000000 + i * 0x100
/-- CSI_STATUS (09 R293). -/
abbrev CSI_STATUS (i : Nat) : Nat := 0x7000004 + i * 0x100
/-- CSI_ECC_CORR (09 R293). -/
abbrev CSI_ECC_CORR (i : Nat) : Nat := 0x7000008 + i * 0x100
/-- CSI_HDR_ERR (09 R293). -/
abbrev CSI_HDR_ERR (i : Nat) : Nat := 0x700000C + i * 0x100
/-- CSI_CRC_ERR (09 R293). -/
abbrev CSI_CRC_ERR (i : Nat) : Nat := 0x7000010 + i * 0x100
/-- CSI_DT_DROP (09 R293). -/
abbrev CSI_DT_DROP (i : Nat) : Nat := 0x7000014 + i * 0x100
/-- DR_SET_CFG (09 R293). -/
abbrev DR_SET_CFG : Nat := 0x7010000
/-- DR_SET_MASK (09 R293). -/
abbrev DR_SET_MASK : Nat := 0x7010004
/-- DR_SET_RING_LO (09 R293). -/
abbrev DR_SET_RING_LO : Nat := 0x7010008
/-- DR_SET_RING_HI (09 R293). -/
abbrev DR_SET_RING_HI : Nat := 0x701000C
/-- DR_SET_RING_LEN (09 R293). -/
abbrev DR_SET_RING_LEN : Nat := 0x7010010
/-- DR_SET_HEAD (09 R293). -/
abbrev DR_SET_HEAD : Nat := 0x7010014
/-- DR_SLOT (09 R293). -/
abbrev DR_SLOT : Nat := 0x7010018
/-- DR_OVERRUN (09 R293). -/
abbrev DR_OVERRUN (i : Nat) : Nat := 0x701001C + i * 0x4
/-- DR_STREAM_CTRL (09 R293). -/
abbrev DR_STREAM_CTRL (i : Nat) : Nat := 0x7020000 + i * 0x40
/-- DR_STREAM_STATUS (09 R293). -/
abbrev DR_STREAM_STATUS (i : Nat) : Nat := 0x7020004 + i * 0x40
/-- DR_STREAM_DESC_LO (09 R293). -/
abbrev DR_STREAM_DESC_LO (i : Nat) : Nat := 0x7020008 + i * 0x40
/-- DR_STREAM_DESC_HI (09 R293). -/
abbrev DR_STREAM_DESC_HI (i : Nat) : Nat := 0x702000C + i * 0x40
/-- DR_FRAME_COUNT (09 R293). -/
abbrev DR_FRAME_COUNT (i : Nat) : Nat := 0x7020010 + i * 0x40
/-- DR_DROP (09 R293). -/
abbrev DR_DROP (i : Nat) : Nat := 0x7020014 + i * 0x40
/-- DR_REPLAY_TAIL (09 R293). -/
abbrev DR_REPLAY_TAIL (i : Nat) : Nat := 0x7020018 + i * 0x40
/-- DR_REPLAY_HEAD (09 R293). -/
abbrev DR_REPLAY_HEAD (i : Nat) : Nat := 0x702001C + i * 0x40
/-- DR_REPLAY_CRC_ERR (09 R293). -/
abbrev DR_REPLAY_CRC_ERR (i : Nat) : Nat := 0x7020020 + i * 0x40
/-- CL_CTRL (10 R316). -/
abbrev CL_CTRL : Nat := 0x9000000
/-- CL_STATUS (10 R316). -/
abbrev CL_STATUS : Nat := 0x9000004
/-- CL_CYCLE_NS (10 R316). -/
abbrev CL_CYCLE_NS : Nat := 0x9000008
/-- CL_SUB (10 R316). -/
abbrev CL_SUB : Nat := 0x900000C
/-- CL_CYCLE_START (10 R316). -/
abbrev CL_CYCLE_START : Nat := 0x9000010
/-- CL_PASS_COUNT (10 R316). -/
abbrev CL_PASS_COUNT : Nat := 0x9000014
/-- CL_SLIP (10 R316). -/
abbrev CL_SLIP : Nat := 0x9000018
/-- CL_TX_REPLACED (10 R316). -/
abbrev CL_TX_REPLACED : Nat := 0x900001C
/-- CL_ARMED_LO (10 R316). -/
abbrev CL_ARMED_LO : Nat := 0x9000020
/-- CL_ARMED_HI (10 R316). -/
abbrev CL_ARMED_HI : Nat := 0x9000024
/-- CL_SAT_LO (10 R316). -/
abbrev CL_SAT_LO : Nat := 0x9000028
/-- CL_SAT_HI (10 R316). -/
abbrev CL_SAT_HI : Nat := 0x900002C
/-- CL_STALE_LO (10 R316). -/
abbrev CL_STALE_LO : Nat := 0x9000030
/-- CL_STALE_HI (10 R316). -/
abbrev CL_STALE_HI : Nat := 0x9000034
/-- CL_ECC_CORR (10 R316). -/
abbrev CL_ECC_CORR : Nat := 0x9000038
/-- CL_OUT (10 R316). -/
abbrev CL_OUT (i : Nat) : Nat := 0x9000100 + i * 0x4
/-- CL_BIND (10 R316). -/
abbrev CL_BIND (i : Nat) : Nat := 0x9000200 + i * 0x10
/-- CL_MAP (10 R316). -/
abbrev CL_MAP (i : Nat) : Nat := 0x9000204 + i * 0x10
/-- CL_SAFE (10 R316). -/
abbrev CL_SAFE (i : Nat) : Nat := 0x9000208 + i * 0x10
/-- CL_FRAME_CFG (10 R316). -/
abbrev CL_FRAME_CFG (i : Nat) : Nat := 0x9001000 + i * 0x100
/-- CL_FRAME_ID (10 R316). -/
abbrev CL_FRAME_ID (i : Nat) : Nat := 0x9001004 + i * 0x100
/-- CL_FRAME_CNT (10 R316). -/
abbrev CL_FRAME_CNT (i : Nat) : Nat := 0x9001008 + i * 0x100
/-- CL_FRAME_CANID (10 R316). -/
abbrev CL_FRAME_CANID (i : Nat) : Nat := 0x900100C + i * 0x100
/-- CL_FRAME_TPL (10 R316). -/
abbrev CL_FRAME_TPL (i : Nat) (j : Nat) : Nat := 0x9001080 + i * 0x100 + j * 0x4
/-- SN_CTRL (11 R332). -/
abbrev SN_CTRL : Nat := 0x9800000
/-- SN_STATUS (11 R332). -/
abbrev SN_STATUS : Nat := 0x9800004
/-- SN_CLIP (11 R332). -/
abbrev SN_CLIP (i : Nat) : Nat := 0x9800010 + i * 0x4
/-- SN_ADC_CFG (11 R332). -/
abbrev SN_ADC_CFG (i : Nat) : Nat := 0x9800100 + i * 0x100
/-- SN_ADC_OVR (11 R332). -/
abbrev SN_ADC_OVR (i : Nat) : Nat := 0x9800104 + i * 0x100
/-- SN_ADC_SEQ (11 R332). -/
abbrev SN_ADC_SEQ (i : Nat) (j : Nat) : Nat := 0x9800110 + i * 0x100 + j * 0x4
/-- SN_ADC_LAST (11 R332). -/
abbrev SN_ADC_LAST (i : Nat) (j : Nat) : Nat := 0x9800150 + i * 0x100 + j * 0x4
/-- SN_SENT_CFG (11 R332). -/
abbrev SN_SENT_CFG (i : Nat) : Nat := 0x9800400 + i * 0x20
/-- SN_SENT_TIMEOUT (11 R332). -/
abbrev SN_SENT_TIMEOUT (i : Nat) : Nat := 0x9800404 + i * 0x20
/-- SN_SENT_FC1 (11 R332). -/
abbrev SN_SENT_FC1 (i : Nat) : Nat := 0x9800408 + i * 0x20
/-- SN_SENT_FC2 (11 R332). -/
abbrev SN_SENT_FC2 (i : Nat) : Nat := 0x980040C + i * 0x20
/-- SN_SENT_ERR (11 R332). -/
abbrev SN_SENT_ERR (i : Nat) : Nat := 0x9800410 + i * 0x20
/-- SN_SENT_STATUS (11 R332). -/
abbrev SN_SENT_STATUS (i : Nat) : Nat := 0x9800414 + i * 0x20
/-- SN_SPI_CFG (11 R332). -/
abbrev SN_SPI_CFG (i : Nat) : Nat := 0x9800800 + i * 0x200
/-- SN_SPI_ERR (11 R332). -/
abbrev SN_SPI_ERR (i : Nat) : Nat := 0x9800804 + i * 0x200
/-- SN_SPI_DROP (11 R332). -/
abbrev SN_SPI_DROP (i : Nat) : Nat := 0x9800808 + i * 0x200
/-- SN_SPI_XFER (11 R332). -/
abbrev SN_SPI_XFER (i : Nat) (j : Nat) : Nat := 0x9800810 + i * 0x200 + j * 0x4
/-- SN_SPI_FIELD (11 R332). -/
abbrev SN_SPI_FIELD (i : Nat) (j : Nat) : Nat := 0x9800820 + i * 0x200 + j * 0x4
/-- SN_SPI_VAL (11 R332). -/
abbrev SN_SPI_VAL (i : Nat) (j : Nat) : Nat := 0x9800860 + i * 0x200 + j * 0x4
/-- SN_SPI_TX (11 R332). -/
abbrev SN_SPI_TX (i : Nat) (j : Nat) (k : Nat) : Nat := 0x9800900 + i * 0x200 + j * 0x20 + k * 0x4
/-- SN_CAP_CFG (11 R332). -/
abbrev SN_CAP_CFG (i : Nat) : Nat := 0x9801000 + i * 0x10
/-- SN_CAP_PERIOD (11 R332). -/
abbrev SN_CAP_PERIOD (i : Nat) : Nat := 0x9801004 + i * 0x10
/-- SN_CAP_COUNT (11 R332). -/
abbrev SN_CAP_COUNT (i : Nat) : Nat := 0x9801008 + i * 0x10
/-- SN_ROUTE (11 R332). -/
abbrev SN_ROUTE (i : Nat) : Nat := 0x9802000 + i * 0x10
/-- SN_OFFS (11 R332). -/
abbrev SN_OFFS (i : Nat) : Nat := 0x9802004 + i * 0x10
/-- SN_GAIN (11 R332). -/
abbrev SN_GAIN (i : Nat) : Nat := 0x9802008 + i * 0x10
/-- CAN_CTRL (12 R356). -/
abbrev CAN_CTRL (i : Nat) : Nat := 0x9400000 + i * 0x10000
/-- CAN_STATUS (12 R356). -/
abbrev CAN_STATUS (i : Nat) : Nat := 0x9400004 + i * 0x10000
/-- CAN_ERRCNT (12 R356). -/
abbrev CAN_ERRCNT (i : Nat) : Nat := 0x9400008 + i * 0x10000
/-- CAN_NBT (12 R356). -/
abbrev CAN_NBT (i : Nat) : Nat := 0x940000C + i * 0x10000
/-- CAN_DBT (12 R356). -/
abbrev CAN_DBT (i : Nat) : Nat := 0x9400010 + i * 0x10000
/-- CAN_IR (12 R356). -/
abbrev CAN_IR (i : Nat) : Nat := 0x9400014 + i * 0x10000
/-- CAN_IE (12 R356). -/
abbrev CAN_IE (i : Nat) : Nat := 0x9400018 + i * 0x10000
/-- CAN_IRQ (12 R356). -/
abbrev CAN_IRQ (i : Nat) : Nat := 0x940001C + i * 0x10000
/-- CAN_RX_CFG (12 R356). -/
abbrev CAN_RX_CFG (i : Nat) : Nat := 0x9400020 + i * 0x10000
/-- CAN_RXQ0_STAT (12 R356). -/
abbrev CAN_RXQ0_STAT (i : Nat) : Nat := 0x9400024 + i * 0x10000
/-- CAN_RXQ0_REL (12 R356). -/
abbrev CAN_RXQ0_REL (i : Nat) : Nat := 0x9400028 + i * 0x10000
/-- CAN_RXQ1_STAT (12 R356). -/
abbrev CAN_RXQ1_STAT (i : Nat) : Nat := 0x940002C + i * 0x10000
/-- CAN_RXQ1_REL (12 R356). -/
abbrev CAN_RXQ1_REL (i : Nat) : Nat := 0x9400030 + i * 0x10000
/-- CAN_HP_STATUS (12 R356). -/
abbrev CAN_HP_STATUS (i : Nat) : Nat := 0x9400034 + i * 0x10000
/-- CAN_TX_CFG (12 R356). -/
abbrev CAN_TX_CFG (i : Nat) : Nat := 0x9400038 + i * 0x10000
/-- CAN_TXREQ (12 R356). -/
abbrev CAN_TXREQ (i : Nat) : Nat := 0x940003C + i * 0x10000
/-- CAN_TXCANCEL (12 R356). -/
abbrev CAN_TXCANCEL (i : Nat) : Nat := 0x9400040 + i * 0x10000
/-- CAN_TXB_STAT (12 R356). -/
abbrev CAN_TXB_STAT (i : Nat) (j : Nat) : Nat := 0x9400050 + i * 0x10000 + j * 0x10
/-- CAN_TXB_STAMP (12 R356). -/
abbrev CAN_TXB_STAMP (i : Nat) (j : Nat) : Nat := 0x9400054 + i * 0x10000 + j * 0x10
/-- CAN_TXB_WIN (12 R356). -/
abbrev CAN_TXB_WIN (i : Nat) (j : Nat) : Nat := 0x9400058 + i * 0x10000 + j * 0x10
/-- CAN_ECC_CORR (12 R356). -/
abbrev CAN_ECC_CORR (i : Nat) : Nat := 0x9400080 + i * 0x10000
/-- CAN_BO_COUNT (12 R356). -/
abbrev CAN_BO_COUNT (i : Nat) : Nat := 0x9400084 + i * 0x10000
/-- CAN_TT_CFG (12 R356). -/
abbrev CAN_TT_CFG (i : Nat) : Nat := 0x9400100 + i * 0x10000
/-- CAN_TT_REF_ID (12 R356). -/
abbrev CAN_TT_REF_ID (i : Nat) : Nat := 0x9400104 + i * 0x10000
/-- CAN_TT_CYCLE_NS (12 R356). -/
abbrev CAN_TT_CYCLE_NS (i : Nat) : Nat := 0x9400108 + i * 0x10000
/-- CAN_TT_START (12 R356). -/
abbrev CAN_TT_START (i : Nat) : Nat := 0x940010C + i * 0x10000
/-- CAN_TT_DATA (12 R356). -/
abbrev CAN_TT_DATA (i : Nat) (j : Nat) : Nat := 0x9400110 + i * 0x10000 + j * 0x4
/-- CAN_TT_STATUS (12 R356). -/
abbrev CAN_TT_STATUS (i : Nat) : Nat := 0x9400118 + i * 0x10000
/-- CAN_TT_MARK (12 R356). -/
abbrev CAN_TT_MARK (i : Nat) : Nat := 0x940011C + i * 0x10000
/-- CAN_TT_MISS (12 R356). -/
abbrev CAN_TT_MISS (i : Nat) : Nat := 0x9400120 + i * 0x10000
/-- CAN_TT_FOREIGN (12 R356). -/
abbrev CAN_TT_FOREIGN (i : Nat) : Nat := 0x9400124 + i * 0x10000
/-- CAN_RAM (12 R339). -/
abbrev CAN_RAM (i : Nat) (j : Nat) : Nat := 0x9408000 + i * 0x10000 + j * 0x4
/-- CAN_FAULT (12 R356). -/
abbrev CAN_FAULT : Nat := 0x9480000
/-- CAN_TT_MASTER (12 R356). -/
abbrev CAN_TT_MASTER : Nat := 0x9480004
/-- CT_CTRL (13 R379). -/
abbrev CT_CTRL : Nat := 0xA000000
/-- CT_STATUS (13 R379). -/
abbrev CT_STATUS : Nat := 0xA000004
/-- CT_NS (13 R379). -/
abbrev CT_NS : Nat := 0xA000008
/-- CT_FRAC (13 R379). -/
abbrev CT_FRAC : Nat := 0xA00000C
/-- CT_WRAPS (13 R379). -/
abbrev CT_WRAPS : Nat := 0xA000010
/-- CT_FREQ_ADJ (13 R379). -/
abbrev CT_FREQ_ADJ : Nat := 0xA000014
/-- CT_STEP (13 R379). -/
abbrev CT_STEP : Nat := 0xA000018
/-- CT_STEP_COUNT (13 R379). -/
abbrev CT_STEP_COUNT : Nat := 0xA00001C
/-- CT_NEXT_NS (13 R379). -/
abbrev CT_NEXT_NS : Nat := 0xA000020
/-- CT_NEXT_SEC_LO (13 R379). -/
abbrev CT_NEXT_SEC_LO : Nat := 0xA000024
/-- CT_NEXT_SEC_HI (13 R379). -/
abbrev CT_NEXT_SEC_HI : Nat := 0xA000028
/-- CT_SERVO_CTRL (13 R379). -/
abbrev CT_SERVO_CTRL : Nat := 0xA000030
/-- CT_SERVO_GAIN (13 R379). -/
abbrev CT_SERVO_GAIN : Nat := 0xA000034
/-- CT_SERVO_OFS (13 R379). -/
abbrev CT_SERVO_OFS : Nat := 0xA000038
/-- CT_SERVO_LIMIT (13 R379). -/
abbrev CT_SERVO_LIMIT : Nat := 0xA00003C
/-- CT_SERVO_C (13 R379). -/
abbrev CT_SERVO_C : Nat := 0xA000040
/-- CT_PPS_NS (13 R379). -/
abbrev CT_PPS_NS : Nat := 0xA000050
/-- CT_PPS_FRAC (13 R379). -/
abbrev CT_PPS_FRAC : Nat := 0xA000054
/-- CT_PPS_OFS (13 R379). -/
abbrev CT_PPS_OFS : Nat := 0xA000058
/-- CT_TT_CFG (13 R379). -/
abbrev CT_TT_CFG (i : Nat) : Nat := 0xA000100 + i * 0x20
/-- CT_TT_START (13 R379). -/
abbrev CT_TT_START (i : Nat) : Nat := 0xA000104 + i * 0x20
/-- CT_TT_PERIOD (13 R379). -/
abbrev CT_TT_PERIOD (i : Nat) : Nat := 0xA000108 + i * 0x20
/-- CT_TT_WIDTH (13 R379). -/
abbrev CT_TT_WIDTH (i : Nat) : Nat := 0xA00010C + i * 0x20
/-- CT_TT_MISS (13 R379). -/
abbrev CT_TT_MISS (i : Nat) : Nat := 0xA000110 + i * 0x20
/-- CT_CAP_CFG (13 R379). -/
abbrev CT_CAP_CFG (i : Nat) : Nat := 0xA000200 + i * 0x10
/-- CT_CAP_NS (13 R379). -/
abbrev CT_CAP_NS (i : Nat) : Nat := 0xA000204 + i * 0x10
/-- CT_CAP_FRAC (13 R379). -/
abbrev CT_CAP_FRAC (i : Nat) : Nat := 0xA000208 + i * 0x10
/-- CT_CAP_STAT (13 R379). -/
abbrev CT_CAP_STAT (i : Nat) : Nat := 0xA00020C + i * 0x10
/-- ETH_CTRL (13 R379). -/
abbrev ETH_CTRL (i : Nat) : Nat := 0xA100000 + i * 0x10000
/-- ETH_STATUS (13 R379). -/
abbrev ETH_STATUS (i : Nat) : Nat := 0xA100004 + i * 0x10000
/-- ETH_MAX_LEN (13 R379). -/
abbrev ETH_MAX_LEN (i : Nat) : Nat := 0xA100008 + i * 0x10000
/-- ETH_TX_LAT (13 R379). -/
abbrev ETH_TX_LAT (i : Nat) : Nat := 0xA10000C + i * 0x10000
/-- ETH_RX_LAT (13 R379). -/
abbrev ETH_RX_LAT (i : Nat) : Nat := 0xA100010 + i * 0x10000
/-- ETH_RX_CFG (13 R379). -/
abbrev ETH_RX_CFG (i : Nat) : Nat := 0xA100014 + i * 0x10000
/-- ETH_IRQ (13 R379). -/
abbrev ETH_IRQ (i : Nat) : Nat := 0xA100018 + i * 0x10000
/-- ETH_IRQ_MASK_LO (13 R379). -/
abbrev ETH_IRQ_MASK_LO (i : Nat) : Nat := 0xA100020 + i * 0x10000
/-- ETH_IRQ_MASK_HI (13 R379). -/
abbrev ETH_IRQ_MASK_HI (i : Nat) : Nat := 0xA100024 + i * 0x10000
/-- ETH_IRQ_TXMASK (13 R379). -/
abbrev ETH_IRQ_TXMASK (i : Nat) : Nat := 0xA100028 + i * 0x10000
/-- ETH_RX_BAD (13 R379). -/
abbrev ETH_RX_BAD (i : Nat) : Nat := 0xA100030 + i * 0x10000
/-- ETH_RX_RULEDROP (13 R379). -/
abbrev ETH_RX_RULEDROP (i : Nat) : Nat := 0xA100034 + i * 0x10000
/-- ETH_RX_FRAMES (13 R379). -/
abbrev ETH_RX_FRAMES (i : Nat) : Nat := 0xA100038 + i * 0x10000
/-- ETH_TX_FRAMES (13 R379). -/
abbrev ETH_TX_FRAMES (i : Nat) : Nat := 0xA10003C + i * 0x10000
/-- ETH_RXQ_BASE_LO (13 R379). -/
abbrev ETH_RXQ_BASE_LO (i : Nat) (j : Nat) : Nat := 0xA101000 + i * 0x10000 + j * 0x20
/-- ETH_RXQ_BASE_HI (13 R379). -/
abbrev ETH_RXQ_BASE_HI (i : Nat) (j : Nat) : Nat := 0xA101004 + i * 0x10000 + j * 0x20
/-- ETH_RXQ_CFG (13 R379). -/
abbrev ETH_RXQ_CFG (i : Nat) (j : Nat) : Nat := 0xA101008 + i * 0x10000 + j * 0x20
/-- ETH_RXQ_TAIL (13 R379). -/
abbrev ETH_RXQ_TAIL (i : Nat) (j : Nat) : Nat := 0xA10100C + i * 0x10000 + j * 0x20
/-- ETH_RXQ_HEAD (13 R379). -/
abbrev ETH_RXQ_HEAD (i : Nat) (j : Nat) : Nat := 0xA101010 + i * 0x10000 + j * 0x20
/-- ETH_RXQ_DROP (13 R379). -/
abbrev ETH_RXQ_DROP (i : Nat) (j : Nat) : Nat := 0xA101014 + i * 0x10000 + j * 0x20
/-- ETH_TXQ_BASE_LO (13 R379). -/
abbrev ETH_TXQ_BASE_LO (i : Nat) (j : Nat) : Nat := 0xA102000 + i * 0x10000 + j * 0x20
/-- ETH_TXQ_BASE_HI (13 R379). -/
abbrev ETH_TXQ_BASE_HI (i : Nat) (j : Nat) : Nat := 0xA102004 + i * 0x10000 + j * 0x20
/-- ETH_TXQ_CFG (13 R379). -/
abbrev ETH_TXQ_CFG (i : Nat) (j : Nat) : Nat := 0xA102008 + i * 0x10000 + j * 0x20
/-- ETH_TXQ_TAIL (13 R379). -/
abbrev ETH_TXQ_TAIL (i : Nat) (j : Nat) : Nat := 0xA10200C + i * 0x10000 + j * 0x20
/-- ETH_TXQ_HEAD (13 R379). -/
abbrev ETH_TXQ_HEAD (i : Nat) (j : Nat) : Nat := 0xA102010 + i * 0x10000 + j * 0x20
/-- ETH_TXQ_DROP (13 R379). -/
abbrev ETH_TXQ_DROP (i : Nat) (j : Nat) : Nat := 0xA102014 + i * 0x10000 + j * 0x20
/-- ETH_RULE0 (13 R379). -/
abbrev ETH_RULE0 (i : Nat) (j : Nat) : Nat := 0xA103000 + i * 0x10000 + j * 0x10
/-- ETH_RULE1 (13 R379). -/
abbrev ETH_RULE1 (i : Nat) (j : Nat) : Nat := 0xA103004 + i * 0x10000 + j * 0x10
/-- ETH_RULE2 (13 R379). -/
abbrev ETH_RULE2 (i : Nat) (j : Nat) : Nat := 0xA103008 + i * 0x10000 + j * 0x10
/-- ETH_RULE3 (13 R379). -/
abbrev ETH_RULE3 (i : Nat) (j : Nat) : Nat := 0xA10300C + i * 0x10000 + j * 0x10
/-- ETH_MGMT_RX_BAD (13 R377). -/
abbrev ETH_MGMT_RX_BAD : Nat := 0xA140030
/-- ETH_MGMT_RX_RULEDROP (13 R377). -/
abbrev ETH_MGMT_RX_RULEDROP : Nat := 0xA140034
/-- ETH_MGMT_RX_FRAMES (13 R377). -/
abbrev ETH_MGMT_RX_FRAMES : Nat := 0xA140038
/-- ETH_MGMT_TX_FRAMES (13 R377). -/
abbrev ETH_MGMT_TX_FRAMES : Nat := 0xA14003C
/-- BV_SEV0 (14 R381). -/
abbrev BV_SEV0 : Nat := 0xB000000
/-- BV_SEV1 (14 R381). -/
abbrev BV_SEV1 : Nat := 0xB000004
/-- BV_SEV2 (14 R381). -/
abbrev BV_SEV2 : Nat := 0xB000008
/-- BV_SEV3 (14 R381). -/
abbrev BV_SEV3 : Nat := 0xB00000C
/-- BV_SEV4 (14 R381). -/
abbrev BV_SEV4 : Nat := 0xB000010
/-- BV_SEV5 (14 R381). -/
abbrev BV_SEV5 : Nat := 0xB000014
/-- BV_SEV6 (14 R381). -/
abbrev BV_SEV6 : Nat := 0xB000018
/-- BV_SEV7 (14 R381). -/
abbrev BV_SEV7 : Nat := 0xB00001C
/-- BV_CTRL (14 R406). -/
abbrev BV_CTRL : Nat := 0xB000020
/-- BV_EPISODE (14 R406). -/
abbrev BV_EPISODE : Nat := 0xB000024
/-- BV_MERGED (14 R406). -/
abbrev BV_MERGED : Nat := 0xB000028
/-- BV_CLEAR (14 R406). -/
abbrev BV_CLEAR (i : Nat) : Nat := 0xB000030 + i * 0x4
/-- BV_ALIVE_PERIOD (14 R406). -/
abbrev BV_ALIVE_PERIOD : Nat := 0xB000040
/-- BV_PAV_STATE (14 R406). -/
abbrev BV_PAV_STATE : Nat := 0xB000044
/-- BV_PAV_RELEASE (14 R406). -/
abbrev BV_PAV_RELEASE : Nat := 0xB000048
/-- BV_RED_CFG (14 R406). -/
abbrev BV_RED_CFG : Nat := 0xB00004C
/-- BV_RED_COUNT (14 R406). -/
abbrev BV_RED_COUNT : Nat := 0xB000050
/-- BV_GOLD_CFG (14 R406). -/
abbrev BV_GOLD_CFG : Nat := 0xB000054
/-- BV_GOLD_DEFER (14 R406). -/
abbrev BV_GOLD_DEFER : Nat := 0xB000058
/-- BV_GOLD_FAIL (14 R406). -/
abbrev BV_GOLD_FAIL : Nat := 0xB00005C
/-- BV_WREGION_BASE_LO (14 R406). -/
abbrev BV_WREGION_BASE_LO : Nat := 0xB000060
/-- BV_WREGION_BASE_HI (14 R406). -/
abbrev BV_WREGION_BASE_HI : Nat := 0xB000064
/-- BV_WREGION_GRANULES (14 R406). -/
abbrev BV_WREGION_GRANULES : Nat := 0xB000068
/-- BV_WDIGEST_LO (14 R406). -/
abbrev BV_WDIGEST_LO : Nat := 0xB00006C
/-- BV_WDIGEST_HI (14 R406). -/
abbrev BV_WDIGEST_HI : Nat := 0xB000070
/-- BV_WDIGEST_STATUS (14 R406). -/
abbrev BV_WDIGEST_STATUS : Nat := 0xB000074
/-- BV_SELFTEST (14 R406). -/
abbrev BV_SELFTEST : Nat := 0xB000078
/-- BV_RESTARTS (14 R406). -/
abbrev BV_RESTARTS : Nat := 0xB00007C
/-- BV_LAST_CRIT (14 R406). -/
abbrev BV_LAST_CRIT : Nat := 0xB000080
/-- BV_IRQ (14 R406). -/
abbrev BV_IRQ : Nat := 0xB000084
/-- BV_LOG_HEAD (14 R406). -/
abbrev BV_LOG_HEAD : Nat := 0xB000088
/-- BV_LOCK (14 R406). -/
abbrev BV_LOCK : Nat := 0xB000090
/-- BV_LOG (14 R406). -/
abbrev BV_LOG (i : Nat) (j : Nat) : Nat := 0xB100000 + i * 0x20 + j * 0x4
/-- GT_CTRL (17 R471). -/
abbrev GT_CTRL : Nat := 0xC000000
/-- GT_STATUS (17 R471). -/
abbrev GT_STATUS : Nat := 0xC000004
/-- GT_LIMIT (17 R471). -/
abbrev GT_LIMIT : Nat := 0xC000008
/-- GT_EFF_LIMIT (17 R471). -/
abbrev GT_EFF_LIMIT : Nat := 0xC00000C
/-- GT_RESERVE (17 R471). -/
abbrev GT_RESERVE : Nat := 0xC000010
/-- GT_STRICT_DRAPE (17 R471). -/
abbrev GT_STRICT_DRAPE : Nat := 0xC000014
/-- GT_STRICT_IO (17 R471). -/
abbrev GT_STRICT_IO : Nat := 0xC000018
/-- GT_THR_THROTTLE (17 R471). -/
abbrev GT_THR_THROTTLE : Nat := 0xC00001C
/-- GT_EPOCH (17 R471). -/
abbrev GT_EPOCH : Nat := 0xC000020
/-- GT_PKG_POWER (17 R471). -/
abbrev GT_PKG_POWER : Nat := 0xC000024
/-- GT_HOT (17 R471). -/
abbrev GT_HOT : Nat := 0xC000028
/-- GT_GRANT (17 R471). -/
abbrev GT_GRANT (i : Nat) : Nat := 0xC000100 + i * 0x4
/-- GT_MEAS (17 R471). -/
abbrev GT_MEAS (i : Nat) : Nat := 0xC000200 + i * 0x4
/-- GT_TEMP (17 R471). -/
abbrev GT_TEMP (i : Nat) : Nat := 0xC000300 + i * 0x4
/-- GT_FREQ (17 R471). -/
abbrev GT_FREQ (i : Nat) : Nat := 0xC000400 + i * 0x4
/-- LD_STATUS (16 R447). -/
abbrev LD_STATUS : Nat := 0xD000000
/-- LD_EVENT (16 R447). -/
abbrev LD_EVENT : Nat := 0xD000004
/-- LD_IRQ (16 R447). -/
abbrev LD_IRQ : Nat := 0xD000008
/-- LD_FUSE_STATE (16 R447). -/
abbrev LD_FUSE_STATE : Nat := 0xD00000C
/-- LD_RING_BASE_LO (16 R447). -/
abbrev LD_RING_BASE_LO : Nat := 0xD000010
/-- LD_RING_BASE_HI (16 R447). -/
abbrev LD_RING_BASE_HI : Nat := 0xD000014
/-- LD_RING_CFG (16 R447). -/
abbrev LD_RING_CFG : Nat := 0xD000018
/-- LD_RING_TAIL (16 R447). -/
abbrev LD_RING_TAIL : Nat := 0xD00001C
/-- LD_RING_HEAD (16 R447). -/
abbrev LD_RING_HEAD : Nat := 0xD000020
/-- LD_TELEM_DROP (16 R447). -/
abbrev LD_TELEM_DROP : Nat := 0xD000024
/-- LD_BUSY_COUNT (16 R447). -/
abbrev LD_BUSY_COUNT : Nat := 0xD000028
/-- LD_RESTARTS (16 R447). -/
abbrev LD_RESTARTS : Nat := 0xD00002C
/-- LD_SATCHEL_ERR (16 R447). -/
abbrev LD_SATCHEL_ERR : Nat := 0xD000030
/-- MSIX_TABLE_ADDR_LO (15 R414). -/
abbrev MSIX_TABLE_ADDR_LO (i : Nat) : Nat := 0xE100000 + i * 0x10
/-- MSIX_TABLE_ADDR_HI (15 R414). -/
abbrev MSIX_TABLE_ADDR_HI (i : Nat) : Nat := 0xE100004 + i * 0x10
/-- MSIX_TABLE_DATA (15 R414). -/
abbrev MSIX_TABLE_DATA (i : Nat) : Nat := 0xE100008 + i * 0x10
/-- MSIX_TABLE_CTRL (15 R414). -/
abbrev MSIX_TABLE_CTRL (i : Nat) : Nat := 0xE10000C + i * 0x10
/-- MSIX_PBA (15 R414). -/
abbrev MSIX_PBA (i : Nat) : Nat := 0xE180000 + i * 0x4

/-- BV_SEV_w (14 R381). -/
abbrev BV_SEV (i : Nat) : Nat := 0xB000000 + i * 4

end Sys2Proof.Machine
end

