-- ==== Sys2Proof/Machine/State.lean ====
section
/-! DEFINITION. The state of the block: plain data, every piece of state the spec names. Registers with a BAR0
offset are one sparse store (Device.regs, Machine/RegMap.lean); this file holds what the spec names beside them. -/
namespace Sys2Proof.Machine

/-- The sparse memories: bytes not listed read as the memory's default byte. -/
structure Memories where
  /-- The 48-bit device address space: DRAM, Glasshouse rows, Kiosk local memories (01 R27); default 0x00 -/
  dev : List Host.Cell := []
  /-- Host memory as the device reaches it over PCIe (15 R409), by bus address; default 0x00 -/
  host : List Host.Cell := []
  /-- The attached flash (16 R429); default 0xFF -/
  flash : List Host.Cell := []
  /-- Kiosk code memories (04 R98): core c of cluster p at p * 0x100000 + c * 0x10000, code RAM of cluster p at p * 0x100000 + 0x40000; default 0x00 -/
  code : List Host.Cell := []
  /-- LR reservations: thread p * 64 + c * 16 + t and the address of its 64-byte granule (04 R114) -/
  resv : List (Nat × Nat) := []
  deriving DecidableEq, Repr

/-- A request to host memory that waits for the link (15 R409). -/
inductive HostReq where
  /-- A write of bytes at a bus address. -/
  | write (addr : Nat) (bytes : List Byte)
  /-- An MSI-X message of a vector. -/
  | message (vector : Nat)
  deriving DecidableEq, Repr

/-- The PCIe function and its link (15 R407 to R415). -/
structure Link where
  /-- The link is in L0 (15 R409) -/
  l0 : Bool := false
  /-- The endpoint answers configuration requests (15 R408) -/
  configReady : Bool := false
  /-- Bus Master Enable (15 R409) -/
  busMaster : Bool := false
  /-- MSI-X Enable (15 R415) -/
  msixEnable : Bool := false
  /-- The function's MSI-X mask (15 R415) -/
  functionMask : Bool := false
  /-- The function is in D3hot (15 R409) -/
  d3hot : Bool := false
  /-- BAR4 window size in GiB (15 R411), reset 64 -/
  bar4GiB : Nat := 64
  /-- DEV_BAR4_BASE as committed by the latest DEV_BAR4_BASE_HI write (15 R412) -/
  bar4Base : Nat := 0
  /-- Base address of BAR0, BAR2 and BAR4 as the host wrote them (15 R411) -/
  bars : List Nat := [0, 0, 0]
  /-- ASPM L1 is enabled; disabled at reset (15 R407) -/
  aspmL1 : Bool := false
  /-- Max Payload Size, code (15 R407) -/
  maxPayload : Nat := 0
  /-- Max Read Request Size, code (15 R407) -/
  maxReadRequest : Nat := 2
  /-- Advanced Error Reporting: Uncorrectable Error Status (15 R407, R409) -/
  aerStatus : Nat := 0
  /-- Subsystem Vendor ID and Subsystem ID, taken from the Boot Configuration Block (15 R410) -/
  subsystem : Nat := 0
  /-- Requests to host memory that wait for the link, oldest first (15 R409) -/
  waiting : List HostReq := []
  /-- MSI-X messages sent, oldest first: the vectors (15 R415) -/
  messages : List Nat := []
  deriving DecidableEq, Repr

/-- What the device last answered to a host access. -/
structure HostAnswer where
  /-- The data of the completion, ascending bytes (15 R412, R416) -/
  data : List Byte := []
  /-- The completion carries the poisoned bit EP (15 R412) -/
  poisoned : Bool := false
  /-- The request received Configuration Request Retry Status (15 R408) -/
  retry : Bool := false
  /-- The request received the standard's answer of D3hot, Unsupported Request (15 R409) -/
  unsupported : Bool := false
  deriving DecidableEq, Repr

/-- The host interface beside the link: mailbox, features, answers (15 R419 to R424). -/
structure HostIf where
  /-- The selector request not yet served (15 R419) -/
  mboxPending : Bool := false
  /-- The request latched at the COMMIT write, 256 bits (15 R423) -/
  featRequest : Nat := 0
  /-- The accepted feature set, 256 bits (15 R423), reset bit 0 alone -/
  featAccepted : Nat := 1
  /-- The latest answer to a host access -/
  answer : HostAnswer := {}
  deriving DecidableEq, Repr

/-- A command in flight (08 R224). -/
structure Command where
  /-- The 64-byte descriptor (08 R227) -/
  desc : List Byte := []
  /-- The ticket (08 R225) -/
  ticket : Nat := 0
  /-- Beat counter when the command started (08 R228) -/
  startBeat : Nat := 0
  /-- The class its queue had when it became head: promotion ends at the start (08 R239) -/
  cls : Nat := 3
  /-- The command was promoted (08 R228) -/
  aged : Bool := false
  /-- The age limit passed (08 R239) -/
  starved : Bool := false
  /-- Its results are withheld (08 Table 8.3, RESULT_WITHHELD) -/
  withheld : Bool := false
  /-- Corrupt input met (08 Table 8.3, INPUT_CORRUPT) -/
  corrupt : Bool := false
  /-- Writes of KS_INPUT_CORRUPT by its threads (09 R287) -/
  corruptWrites : Nat := 0
  /-- The first batch slot so written (09 R287) -/
  corruptSlot : Nat := 0
  /-- DETAIL0 and DETAIL1 on DONE (08 R229) -/
  detail : Nat × Nat := (0, 0)
  /-- A reported flag, a non-zero exit or a partial pin (08 Table 8.3, DONE_FLAGGED) -/
  flagged : Bool := false
  /-- STRICT_LOST of the completion (05 R156) -/
  strictLost : Bool := false
  /-- The step watchdog passed: the segment index (05 R144) -/
  overrun : Option Nat := none
  /-- Ended by KILL (08 R251) -/
  killed : Bool := false
  /-- The command is being ended as a KILL ends it: it completes once its fences are released (03 R92) -/
  ending : Bool := false
  /-- A FENCE: the tickets started before it and not yet complete (08 R233) -/
  fenceOn : List Nat := []
  /-- A COPY or FILL: its channel (08 R233) -/
  channel : Option Nat := none
  /-- A SCRUB: the Glasshouses whose scrub is not yet complete (03 R91) -/
  scrubbing : List Nat := []
  /-- A SEQ_STEP: steps committed (08 R250) -/
  committed : Nat := 0
  /-- A SEQ_STEP: a sequence was swapped out during the command (08 R250) -/
  swapped : Bool := false
  /-- A SEQ_STEP: it stopped early at a boundary (08 R250) -/
  preempted : Bool := false
  /-- A serving command: the SEQNO it orders by (08 R240, R242) -/
  seqno : Nat := 0
  /-- A GOLDEN_RUN on behalf of Belvedere (14 R400) -/
  byBelvedere : Bool := false
  deriving DecidableEq, Repr

/-- The Cloakroom's hold on one queue beside its registers (08 R222 to R255). -/
structure Queue where
  /-- The fetched head that has not started: its descriptor (08 R224) -/
  head : Option (List Byte) := none
  /-- Belvedere entered the head: it lies in no ring (14 R400) -/
  belvHead : Bool := false
  /-- Beat at which the head became head (08 R239) -/
  headBeat : Nat := 0
  /-- Beat since which the head has its effective class (08 R239) -/
  classBeat : Nat := 0
  /-- Order in which heads became heads (08 R238) -/
  headOrder : Nat := 0
  /-- Class of the queue when its head became head (08 Table 8.13) -/
  baseClass : Nat := 3
  /-- Effective class of the head (08 R237, R239) -/
  effClass : Nat := 3
  /-- The head was promoted at least once (08 R239) -/
  aged : Bool := false
  /-- Starvation of the head was reported (08 R239) -/
  starved : Bool := false
  /-- A PAUSE waits for the running command (08 R247) -/
  pausing : Bool := false
  /-- A write of ENABLE = 0 waits for the command in flight (08 Table 8.13) -/
  disabling : Bool := false
  /-- The command in flight (08 R224) -/
  cmd : Option Command := none
  /-- Completions written since the last message (08 R255) -/
  uncoalesced : Nat := 0
  /-- Beat in which the first of them was written (08 R255) -/
  coalBeat : Nat := 0
  deriving DecidableEq, Repr

/-- A loaded image (05 R122, 08 R234). -/
structure Image where
  /-- Device address of the image -/
  addr : Nat := 0
  /-- IMAGE_ID under which it was recorded (05 R122) -/
  imageId : Nat := 0
  /-- Order in which images were last named (08 R234) -/
  named : Nat := 0
  deriving DecidableEq, Repr

/-- A running segment of a step (05 R141). -/
structure SegRun where
  /-- Identifier, unlike that of any other run -/
  id : Nat := 0
  /-- Segment index within the segment section of the image (05 R125) -/
  seg : Nat := 0
  /-- Pavilions taking part (05 Table 5.4, 04 Table 4.8) -/
  pavs : Nat := 0
  /-- First beat of the segment (05 R133) -/
  startBeat : Nat := 0
  /-- Tick of 2 ns at which the segment started, from which its watchdog counts (05 R144) -/
  startTick : Nat := 0
  /-- The listed segment that it is, or for which it runs as an alternative (05 R147); none: a called segment -/
  head : Option Nat := none
  /-- Credit-grant entries not yet applied, by index in the credit section (05 R139) -/
  grantsLeft : List Nat := []
  /-- A call with NOTIFY: cluster and fence to advance (04 R111) -/
  notify : Option (Nat × Nat) := none
  /-- The calling thread: cluster, core, thread, and the identifier of its run (04 R110) -/
  caller : Option (Nat × Nat × Nat × Nat) := none
  /-- Thread-start entries whose thread has started in this run (04 R100) -/
  threadsStarted : List Nat := []
  /-- The beat in which `slotUse` counts (05 R496) -/
  slotBeat : Nat := 0
  /-- Reserved slots taken in that beat, by place of the carrying entry in the segment's list (05 R496) -/
  slotUse : List (Nat × Nat) := []
  /-- ARG0 to ARG2 of a call (04 Table 4.8) -/
  args : List Nat := []
  /-- Release offsets raised by crossing entries: (source * 256 + destination, k) (05 R137) -/
  crossings : List (Nat × Nat) := []
  /-- Static power grants in effect: (requester, units) (05 R140) -/
  grants : List (Nat × Nat) := []
  deriving DecidableEq, Repr

/-- A segment call accepted and not yet started (04 R112, 05 R141). -/
structure SegCall where
  /-- Segment index in the image (04 Table 4.8) -/
  seg : Nat := 0
  /-- PAVMASK of the call (04 Table 4.8) -/
  pavs : Nat := 0
  /-- NOTIFY: cluster and fence (04 R111) -/
  notify : Option (Nat × Nat) := none
  /-- The calling thread: cluster, core, thread, and the identifier of its run -/
  caller : Nat × Nat × Nat × Nat := (0, 0, 0, 0)
  /-- ARG0 to ARG2 -/
  args : List Nat := []
  /-- Beat at which it starts in Strict mode (05 R141) -/
  due : Nat := 0
  deriving DecidableEq, Repr

/-- A step program of a command in flight, one per queue (05 R124, R133). -/
structure StepRun where
  /-- Image address -/
  image : Nat := 0
  /-- Step program index -/
  prog : Nat := 0
  /-- Command seed (02 R53) -/
  seed : Nat := 0
  /-- Bound buffers: base and bytes (08 R233) -/
  bufs : List (Nat × Nat) := []
  /-- The mode in which it started (05 R148) -/
  strict : Bool := false
  /-- It has begun its first beat (05 R133) -/
  started : Bool := false
  /-- Its first beat (05 R133) -/
  firstBeat : Nat := 0
  /-- Segments running (05 R141) -/
  segs : List SegRun := []
  /-- Listed segments, or their alternatives, that have completed: indices of the listed ones (05 R147) -/
  listedDone : List Nat := []
  /-- Calls accepted and not yet started (05 R141) -/
  calls : List SegCall := []
  /-- Staging slots and flush pages that a serving step adds to its windows: base and bytes (07 R186) -/
  kvWins : List (Nat × Nat) := []
  /-- Listed segments that found no alternative free and wait for the head of their chain (05 R147) -/
  headWait : List Nat := []
  deriving DecidableEq, Repr

/-- A weight tile (02 R37): raw rows with their formats. -/
structure Tile where
  /-- Weight format (05 Table 5.6) -/
  wfmt : Nat := 0
  /-- Activation format -/
  afmt : Nat := 0
  /-- 2:4 sparse (02 R57) -/
  sparse : Bool := false
  /-- Weight rows, then scale or metadata rows (02 R40, R41, R59) -/
  rows : List (List Byte) := []
  deriving DecidableEq, Repr

/-- One accumulator entry of 256 columns (02 R38). -/
structure AccEntry where
  /-- Float entry (FP32) or integer entry (48 bits) -/
  isFloat : Bool := false
  /-- The 256 columns -/
  cols : List (BitVec 48) := []
  deriving DecidableEq, Repr

/-- A golden run in progress on a pavilion (14 R399). -/
structure GoldenRun where
  /-- Library entry -/
  entry : Nat := 0
  /-- The golden slot's queue and segment, or none for a GOLDEN_RUN command -/
  slot : Option (Nat × Nat) := none
  deriving DecidableEq, Repr

/-- One pavilion: array, Hem registers, microcode stream (02, 05). -/
structure Pavilion where
  /-- The queue and segment whose stream runs (05 R141) -/
  run : Option (Nat × Nat) := none
  /-- Next instruction of the stream (05 R130) -/
  next : Nat := 0
  /-- The stream has passed END (05 R129) -/
  ended : Bool := false
  /-- A WAIT holds the stream: cluster, fence, value (05 R129) -/
  waiting : Option (Nat × Nat × Nat) := none
  /-- SIGNALs issued and not yet advanced: fence, and the identifier below which mover descriptors are earlier (05 R129) -/
  signals : List (Nat × Nat) := []
  /-- Shadow weight registers (02 R37) -/
  shadow : Tile := {}
  /-- Active weight registers (02 R37) -/
  active : Tile := {}
  /-- The shadow tile awaits the swap wave (02 R37) -/
  swapDue : Bool := false
  /-- Accumulator store: bank * 1024 + entry (02 R38) -/
  acc : List (Nat × AccEntry) := []
  /-- The open point of the run at which the running command found the array; none: zeroed since by a KILL (02 R39) -/
  era : Option Nat := none
  /-- Hem vector registers, 512 lanes of 32 bits (02, The Hem unit) -/
  vregs : List (Nat × List Word) := []
  /-- Next attention record of the stream (07 R199, R201) -/
  walkNext : Nat := 0
  /-- A page walk in progress: the fence that its completion advances, if any (07 R201) -/
  walking : Option (Option Nat) := none
  /-- The running command's own flag record (02 R64) -/
  record : Nat := 0
  /-- A golden run in progress (14 R399) -/
  golden : Option GoldenRun := none
  /-- Next installed golden entry to take (14 R399) -/
  goldenNext : Nat := 0
  /-- Beat at which the golden interval in progress began (14 R401) -/
  goldenSince : Nat := 0
  /-- A golden run is due and not yet served (14 R401) -/
  goldenDue : Bool := false
  /-- A BV_PAV_RELEASE bit written while a golden run is in progress (14 R386) -/
  releasePending : Bool := false
  /-- A run for a STOPPED pavilion passed and AUTO_RETURN was 0 (14 R386) -/
  passedWaiting : Bool := false
  deriving DecidableEq, Repr

/-- A mover descriptor in progress (03 R77, R79). -/
structure MoverJob where
  /-- Identifier -/
  id : Nat := 0
  /-- Pavilion whose mover runs it -/
  pav : Nat := 0
  /-- Mover 0 or 1 -/
  mover : Nat := 0
  /-- Queue of the command on whose behalf it runs (03 R80) -/
  queue : Nat := 0
  /-- Segment that started it (05 R141) -/
  seg : Nat := 0
  /-- Identifier of the run of that segment -/
  run : Nat := 0
  /-- SRC after binding (05 R132) -/
  src : Nat := 0
  /-- DST after binding -/
  dst : Nat := 0
  /-- ROWS -/
  rows : Nat := 0
  /-- BLOCKS -/
  blocks : Nat := 0
  /-- SSTRIDE -/
  sstride : Nat := 0
  /-- DSTRIDE -/
  dstride : Nat := 0
  /-- FLAGS -/
  flags : Nat := 0
  /-- TAG -/
  tag : Nat := 0
  /-- Rows that have left the mover -/
  sent : Nat := 0
  /-- Rows visible at their destination, or refused -/
  visible : Nat := 0
  /-- The issuing thread: cluster, core, thread, and the identifier of its run (04 R112) -/
  caller : Option (Nat × Nat × Nat × Nat) := none
  deriving DecidableEq, Repr

/-- Who sent a row to a Glasshouse, or data to an Icehouse. -/
inductive RowSender where
  /-- A mover descriptor. -/
  | mover (job : Nat)
  /-- A store of a thread. -/
  | thread (p c t : Nat)
  /-- A Hem unit. -/
  | hem (p : Nat)
  /-- A page walker. -/
  | walker (p : Nat)
  deriving DecidableEq, Repr

/-- A row on its way to a Glasshouse over the Pergola (03 R84, 05 R135). -/
structure RowFlight where
  /-- Sender -/
  sender : RowSender := .mover 0
  /-- Credit source 0 to 10 (03 R81) -/
  source : Nat := 0
  /-- Target Glasshouse -/
  target : Nat := 0
  /-- Row number in the target -/
  row : Nat := 0
  /-- The 512 bytes -/
  data : List Byte := []
  /-- Queue of the command on whose behalf it travels -/
  queue : Nat := 0
  /-- Ticket of that command -/
  ticket : Nat := 0
  /-- Identifier, rising in sending order -/
  id : Nat := 0
  /-- Beat in which it was written to the crossing (05 R137) -/
  beat : Nat := 0
  /-- Held by the target's inbound crossing (05 R135) -/
  held : Bool := false
  /-- Its pool closed while it was in flight (03 R82) -/
  poolClosed : Bool := false
  /-- Beat before which the target's crossing holds it (05 R135) -/
  due : Nat := 0
  deriving DecidableEq, Repr

/-- A row that a crossing into a Glasshouse holds in Strict mode (01 R26, 05 R137). -/
structure HeldRow where
  /-- Who wrote it, or for whom it is read -/
  sender : RowSender := .hem 0
  /-- Source domain (05 Table 5.11) -/
  dom : Nat := 0
  /-- Glasshouse -/
  glass : Nat := 0
  /-- Row number -/
  row : Nat := 0
  /-- The 512 bytes -/
  data : List Byte := []
  /-- Queue of the command -/
  queue : Nat := 0
  /-- Identifier, rising in the order of writing -/
  id : Nat := 0
  /-- Beat in which it was written to the crossing -/
  beat : Nat := 0
  /-- Beat before which it has not arrived (03 Table 3.2) -/
  due : Nat := 0
  deriving DecidableEq, Repr

/-- A Strict request that an Icehouse holds for 4 beats (05 R138). -/
structure IceRequest where
  /-- Mover descriptor or thread -/
  sender : RowSender := .mover 0
  /-- Queue of the command -/
  queue : Nat := 0
  /-- Identifier, rising in sending order -/
  id : Nat := 0
  /-- DRAM address of a read -/
  addr : Nat := 0
  /-- A write: its addresses and bytes; a read: none -/
  write : Option (List (Nat × List Byte)) := none
  /-- Own-Glasshouse address of a read's destination -/
  dest : Nat := 0
  /-- Beat before which the Icehouse holds it (05 R138) -/
  due : Nat := 0
  deriving DecidableEq, Repr

/-- What a Kiosk thread waits for. -/
inductive ThreadWait where
  /-- Not waiting. -/
  | none
  /-- KWAIT: fence, value, destination register (04 R111). -/
  | fence (n value rd : Nat)
  /-- KCRED credit stall: target, rows, destination register (04 R115). -/
  | credit (target rows rd : Nat)
  /-- KDFENCE (04 R110). -/
  | calls
  /-- A load from a target other than the own local memory: the instruction word, and the beat before which no reply is
  released (04 R109). -/
  | load (word due : Nat)
  deriving DecidableEq, Repr

/-- One Kiosk hardware thread (04 R95, R100). -/
structure Thread where
  /-- Identifier of this run of the thread, unlike that of any other -/
  id : Nat := 0
  /-- Running (04 R100) -/
  running : Bool := false
  /-- TIMED (04 R101) -/
  timed : Bool := false
  /-- Queue of the command that started it (KCMD, 04 R96) -/
  queue : Nat := 0
  /-- Segment in which it started (04 R100) -/
  seg : Nat := 0
  /-- Identifier of the run of that segment -/
  run : Nat := 0
  /-- Fetch address (04 R98) -/
  pc : Nat := 0
  /-- Integer registers; an unlisted register is 0 (04 R100) -/
  x : List (Nat × DWord) := []
  /-- Floating-point registers; an unlisted register is 0 -/
  f : List (Nat × DWord) := []
  /-- Vector registers, VLEN 512; an unlisted register is 0 -/
  v : List (Nat × BitVec 512) := []
  /-- fflags (04 Table 4.1) -/
  fflags : Nat := 0
  /-- frm -/
  frm : Nat := 0
  /-- vstart -/
  vstart : Nat := 0
  /-- vxsat -/
  vxsat : Bool := false
  /-- vxrm -/
  vxrm : Nat := 0
  /-- vl -/
  vl : Nat := 0
  /-- vtype without vill -/
  vtype : Nat := 0
  /-- vtype.vill, 1 at start (04 R100) -/
  vill : Bool := true
  /-- Ticks of 2 ns of the beat clock at thread start, from which cycle counts (04 Table 4.1) -/
  startTick : Nat := 0
  /-- cycle, as the instruction being issued reads it -/
  cycle : Nat := 0
  /-- instret, counted from thread start -/
  instret : Nat := 0
  /-- What it waits for -/
  wait : ThreadWait := .none
  /-- Pavilion calls outstanding (04 R110) -/
  calls : Nat := 0
  deriving DecidableEq, Repr

/-- Kiosk state of one cluster beside its registers. -/
structure Cluster where
  /-- Threads: core * 16 + thread -/
  threads : List (Nat × Thread) := []
  /-- Faulting data address of the recorded exception (04 R116) -/
  excAddr : Nat := 0
  /-- Resident code set: IMAGE_ID and index (05 R127) -/
  codeSet : Option (Nat × Nat) := none
  /-- The code set being loaded: queue, image address, IMAGE_ID, index (04 R99) -/
  loading : Option (Nat × Nat × Nat × Nat) := none
  /-- Watchdog refreshes to Belvedere have stopped (04 R119) -/
  wdogStopped : Bool := false
  /-- Refreshes delivered to Belvedere (04 R119) -/
  wdogCount : Nat := 0
  /-- Round-robin pointers, core * 2 + (1 for timed): the thread last issued (04 R102) -/
  lastIssued : List (Nat × Nat) := []
  deriving DecidableEq, Repr

/-- A signature record (14 R395). -/
structure SigRecord where
  /-- Queue of the running command -/
  queue : Nat := 0
  /-- Tensor index -/
  tensor : Nat := 0
  /-- First tensor offset -/
  offset : Nat := 0
  /-- Length in bytes -/
  length : Nat := 0
  /-- CRC-64 of the bytes -/
  crc : Nat := 0
  deriving DecidableEq, Repr

/-- The compute side: steps, pavilions, movers, Pergola, clusters. -/
structure Compute where
  /-- Step programs of commands in flight, by queue -/
  steps : List (Nat × StepRun) := []
  /-- Pavilions, by logical number -/
  pavs : List (Nat × Pavilion) := []
  /-- Kiosk clusters, by logical number -/
  clusters : List (Nat × Cluster) := []
  /-- Mover descriptors in progress, in issue order -/
  jobs : List MoverJob := []
  /-- Identifier of the next mover descriptor, segment run, thread run, or row or request on its way -/
  nextJob : Nat := 0
  /-- Rows in flight to Glasshouses, in sending order -/
  flights : List RowFlight := []
  /-- Rows that the crossings into Glasshouses hold, in the order of writing (05 R137) -/
  held : List HeldRow := []
  /-- Strict requests that Icehouses hold -/
  ice : List IceRequest := []
  /-- REL as the source port has seen it: pool target * 16 + source (03 R85) -/
  relSeen : List (Nat × Nat) := []
  /-- Rows drawn from those ACQUIRE entries acquired: pool target * 16 + source (03 R86) -/
  drawn : List (Nat × Nat) := []
  /-- Signature records sent and not yet at Belvedere, oldest first (14 R395) -/
  sigWire : List SigRecord := []
  /-- Beat at which each channel's latest refresh window opened: Icehouse * 16 + channel (05 R138) -/
  windows : List (Nat × Nat) := []
  deriving DecidableEq, Repr

/-- The Cloakroom beside its registers (08). -/
structure Cloakroom where
  /-- Queues, by number -/
  queues : List (Nat × Queue) := []
  /-- Next head order (08 R238) -/
  nextOrder : Nat := 0
  /-- Loaded images, at most 64 (08 R234) -/
  images : List Image := []
  /-- Commands that a safe-state restart ended, by queue, until their completions are written (08 R253) -/
  interrupted : List (Nat × Command) := []
  /-- Beat counter when that restart stopped them -/
  stoppedBeat : Nat := 0
  /-- Copy channels in use, by channel: the queue (08 R233) -/
  channels : List (Nat × Nat) := []
  deriving DecidableEq, Repr

/-- One error of the open episode (14 R383). -/
structure EpisodeError where
  /-- Fault source -/
  source : Nat := 0
  /-- The commands it affects, by queue and ticket (14 Table 14.2) -/
  cmds : List (Nat × Nat) := []
  /-- Pavilions that a Major reaction stops (14 Table 14.1) -/
  pavs : List Nat := []
  deriving DecidableEq, Repr

/-- Mismatch count of one step program (14 R397). -/
structure RedProgram where
  /-- IMAGE_ID -/
  imageId : Nat := 0
  /-- Step program index -/
  prog : Nat := 0
  /-- Its latest completed commands, newest first: true for a mismatch -/
  history : List Bool := []
  /-- Order of its latest command -/
  order : Nat := 0
  deriving DecidableEq, Repr

/-- A twin pair that differed and has not been found transient (14 R396). -/
structure SuspectPair where
  /-- Its SUSPECT pavilions, as a mask -/
  pavs : Nat := 0
  /-- Those that have still to pass a golden run -/
  left : Nat := 0
  /-- One of its pavilions has failed -/
  failed : Bool := false
  deriving DecidableEq, Repr

/-- Where a safe-state restart stands (14 R389, R391). -/
inductive SafeStage where
  /-- No restart. -/
  | none
  /-- Between entry and Ready. -/
  | restarting
  /-- Stopped after stage 3 until a cold boot. -/
  | held
  deriving DecidableEq, Repr

/-- Belvedere beside its registers (14). -/
structure Belvedere where
  /-- The 128-bit status word, bit n for source n (14 R380) -/
  status : BitVec 128 := 0
  /-- Number of the latest episode (14 Table 14.10) -/
  episode : Nat := 0
  /-- Errors of the open episode (14 R383) -/
  errors : List EpisodeError := []
  /-- ALIVE as driven (14 R388) -/
  alive : Bool := false
  /-- ALIVE toggles: the device reported Ready and is healthy (14 R388) -/
  aliveOn : Bool := false
  /-- CAN_TX is held recessive by the gate (12 R337, 14 Table 14.3) -/
  canGate : Bool := true
  /-- The restart in progress -/
  safe : SafeStage := .none
  /-- Beats since the cold boot at which safe-state restarts began, newest first (14 R391) -/
  began : List Nat := []
  /-- Signature records of commands in flight (14 R395) -/
  sigs : List SigRecord := []
  /-- Programs counted for mismatches, at most 16 (14 R397) -/
  programs : List RedProgram := []
  /-- Next program order -/
  nextOrder : Nat := 0
  /-- Twin pairs whose SUSPECT pavilions have still to pass (14 R396) -/
  suspects : List SuspectPair := []
  /-- Mismatches counted as transient (14 R396) -/
  transients : Nat := 0
  /-- SYSCLK_25 is absent (14 source 72, 17 R470) -/
  sysclkLost : Bool := false
  deriving DecidableEq, Repr

/-- The configuration the device loaded from its fuses at the latest start (00 R3, R4). -/
structure Chip where
  /-- The fuses were loaded since the latest reset (15 R413) -/
  loaded : Bool := false
  /-- Present physical pavilions, one bit each (00 R4) -/
  pavMask : Nat := 0xFF
  /-- Present physical Icehouses, one bit each (00 R4) -/
  ihMask : Nat := 0xFFF
  /-- Factory test mode (14 R403, 15 Table 15.7) -/
  factory : Bool := false
  deriving DecidableEq, Repr

/-- The beat counter and the phase of the Clocktower tick within the beat (05 R133, 01 R25). -/
structure BeatClock where
  /-- The 64-bit beat counter (05 R133) -/
  beat : Nat := 0
  /-- Clocktower ticks of 2 ns since the beat began, 0 to 19 (01 R25) -/
  tick : Nat := 0
  /-- Beats counted since the cold boot before the latest release of a safe-state restart, which starts the counter anew -/
  before : Nat := 0
  deriving DecidableEq, Repr
/-- An entry of the active-sequence table (08 Table 8.7). -/
structure SbEntry where
  /-- SEQNO -/
  seqno : Nat := 0
  /-- ADMIT_ORDER -/
  admitOrder : Nat := 0
  /-- PENDING: prompt tokens not yet computed -/
  pending : Nat := 0
  /-- PRIO -/
  prio : Nat := 0
  /-- STATE: 0 free, 1 active, 2 swapped -/
  state : Nat := 0
  /-- LAST -/
  last : Nat := 0
  /-- A page failed its CRC at a swap-in: the sequence can only be retired (07 R218) -/
  lost : Bool := false
  deriving DecidableEq, Repr

/-- A pending prefix-tree node and the sequence block it waits for (07 R210). -/
structure PendNode where
  /-- Slot of the sequence -/
  slot : Nat := 0
  /-- Block of 32 tokens -/
  block : Nat := 0
  /-- Node of the tree -/
  node : Nat := 0
  deriving DecidableEq, Repr

/-- A run of a work list (08 R246). -/
structure ServeRun where
  /-- Bucket -/
  bucket : Nat := 0
  /-- Slots by work-list position -/
  slots : List Nat := []
  deriving DecidableEq, Repr

/-- The running SEQ_STEP (08 R240 to R250). -/
structure Serving where
  /-- Queue of the SEQ_STEP -/
  queue : Nat := 0
  /-- Runs of the step still to run, the current one first (08 R246) -/
  runs : List ServeRun := []
  /-- Index of the current run (08 Table 8.5, SEED) -/
  runIndex : Nat := 0
  /-- Tokens that the step appends: slot and NEW (08 R245) -/
  news : List (Nat × Nat) := []
  /-- Flush pages: slot and pages in FLUSH order (07 R197) -/
  flush : List (Nat × List Nat) := []
  /-- A step is under way: its work list is built and not yet committed -/
  inStep : Bool := false
  /-- Every run of the step has ended: its commit is due (08 R240) -/
  commitDue : Bool := false
  /-- Beat at which the latest run ended (05 R143) -/
  lastEnd : Nat := 0
  deriving DecidableEq, Repr

/-- The Step Builder (08 R240 to R246; 07 R206 to R218). -/
structure StepBuilder where
  /-- Active-sequence table by slot; an unlisted slot is free -/
  table : List (Nat × SbEntry) := []
  /-- Admissions since the pool was enabled (08 Table 8.7) -/
  admissions : Nat := 0
  /-- Retry tickets held, oldest first, at most 256 (08 R244) -/
  tickets : List Nat := []
  /-- Queues of the serving commands that wait for a boundary, in acceptance order (08 R240) -/
  waiting : List Nat := []
  /-- Pending nodes of the prefix tree (07 R210) -/
  nodes : List PendNode := []
  /-- The running SEQ_STEP -/
  serving : Option Serving := none
  deriving DecidableEq, Repr


/-- One junction sensor (17 R459). -/
structure Sensor where
  /-- Readings of the latest epochs in 1/16 °C, newest first, at most 1,000 -/
  readings : List Int := []
  deriving DecidableEq, Repr

/-- One requester of the Gatehouse (17 R452 to R455, R467). -/
structure Requester where
  /-- Request of the last completed epoch, capped at the ceiling -/
  req : Nat := 0
  /-- Grant computed and not yet in force -/
  next : Nat := 0
  /-- Consecutive epochs whose estimate exceeded the grant by more than 2 units -/
  overs : Nat := 0
  /-- Consecutive epochs with a grant below 50 % of the ceiling -/
  low : Nat := 0
  /-- Consecutive epochs with a grant of at least 75 % of the ceiling -/
  high : Nat := 0
  deriving DecidableEq, Repr

/-- The Gatehouse beside its registers (17). -/
structure Gatehouse where
  /-- Package limit in effect, in units of 0.25 W (17 R451) -/
  limit : Nat := 880
  /-- Fixed-base reserve in effect (17 R451) -/
  reserve : Nat := 144
  /-- P_eff as thermal control leaves it, before an alert's 50 % (17 R461, R462) -/
  pEff : Nat := 880
  /-- P_eff rises from 50 % after an emergency (17 R462) -/
  ramping : Bool := false
  /-- Requesters by index (17 Table 17.1) -/
  requesters : List (Nat × Requester) := []
  /-- Grants were computed at the boundary and wait 0.5 microseconds (17 R452) -/
  applyDue : Bool := false
  /-- Beat of the latest epoch boundary taken (17 R452) -/
  epochBeat : Option Nat := none
  /-- Junction sensors (17 R459) -/
  sensors : List (Nat × Sensor) := []
  /-- VDD_CORE as last acknowledged, in mV (17 R468, R487) -/
  millivolts : Nat := 720
  /-- The voltage being written over AVSBus, in mV (17 R487) -/
  avsTarget : Option Nat := none
  /-- Failures of the write in progress (17 R487) -/
  avsFailures : Nat := 0
  /-- After the third failure the rail and the island frequencies are not raised (17 R487) -/
  avsStopped : Bool := false
  /-- Frequency steps to which islands go up once the rail allows it: domain and step (17 R468) -/
  rising : List (Nat × Nat) := []
  /-- The voltage that those steps need, once evaluated, in mV (17 R468) -/
  riseAt : Option Nat := none
  /-- Epochs since the latest evaluation of VDD_CORE (17 R468) -/
  avsEpochs : Nat := 100
  /-- A power or thermal emergency as the Lodge counts it: until both conditions were absent for 100 ms (16 R444) -/
  emergency : Bool := false
  /-- During such an emergency: the beat, counted from the cold boot, since which neither condition is present -/
  quietSince : Option Nat := none
  deriving DecidableEq, Repr
/-- The state of one stage of a loop (10 Table 10.4, R305). -/
structure StageState where
  /-- The stage's exponent, 0 in a loop without BFP (10 R305) -/
  exp : Int := 0
  /-- Integrator I of a PID, Q30 -/
  i : Int := 0
  /-- D of a PID -/
  dd : Int := 0
  /-- x_prev of a PID -/
  xPrev : Int := 0
  /-- No evaluation since initialisation: x_prev is taken as x (10 R301) -/
  first : Bool := true
  /-- x1 of a filter -/
  x1 : Int := 0
  /-- x2 of a filter -/
  x2 : Int := 0
  /-- y1 of a filter -/
  y1 : Int := 0
  /-- y2 of a filter -/
  y2 : Int := 0
  /-- y_prev of a rate limiter -/
  yPrev : Int := 0
  deriving DecidableEq, Repr

/-- A loaded loop slot of the Cloche (10 R298); its armed, saturated and stale bits are in CL_ARMED, CL_SAT, CL_STALE. -/
structure LoopSlot where
  /-- The 512-byte loop record -/
  record : List Byte := []
  /-- The states of the eight stages -/
  stages : List StageState := []
  /-- The result since the slot was armed, mantissa and exponent (10 R308) -/
  result : Option (Int × Int) := none
  /-- Consecutive stale evaluations (10 R307) -/
  staleRun : Nat := 0
  /-- The run reached STALE_MAX and source 58 is to be raised (10 R307) -/
  staleDue : Bool := false
  deriving DecidableEq, Repr

/-- A setpoint (10 R302). -/
structure Setpoint where
  /-- VALUE, signed mantissa -/
  value : Int := 0
  /-- EXP, signed exponent -/
  exp : Int := 0
  /-- TAG -/
  tag : Nat := 0
  /-- Clocktower nanoseconds of the pass boundary at which it was written -/
  stamp : Nat := 0
  /-- Written since reset, and not uncorrectable since (10 R302, R314, R315) -/
  valid : Bool := false
  deriving DecidableEq, Repr

/-- What an input-table entry held before a write (10 R295). -/
structure PastInput where
  /-- VALUE -/
  value : Int := 0
  /-- STATUS.VALID -/
  valid : Bool := false
  /-- STAMP -/
  stamp : Nat := 0
  /-- Uncorrectable -/
  bad : Bool := false
  /-- Tick of 2 ns in which it was replaced -/
  upTo : Nat := 0
  deriving DecidableEq, Repr

/-- An input-table entry (10 R303). -/
structure InputEntry where
  /-- VALUE, signed Q15 -/
  value : Int := 0
  /-- STATUS.VALID -/
  valid : Bool := false
  /-- STAMP -/
  stamp : Nat := 0
  /-- Uncorrectable since it was written (10 R314) -/
  bad : Bool := false
  /-- What it held during the pass in progress, oldest first (10 R295) -/
  past : List PastInput := []
  deriving DecidableEq, Repr

/-- A finished frame that waits for its delivery (10 R312, R313). -/
structure ClocheFrame where
  /-- Frame 0 to 15 -/
  frame : Nat := 0
  /-- Ethernet, else CAN -/
  ethernet : Bool := false
  /-- CAN controller or Ethernet port -/
  dest : Nat := 0
  /-- CAN transmit buffer -/
  buf : Nat := 0
  /-- CL_FRAME_CANID at emission -/
  canId : Nat := 0
  /-- The bytes -/
  bytes : List Byte := []
  deriving DecidableEq, Repr

/-- An update that waits for a pass boundary (10 R294, R301, R302). -/
inductive ClocheUpdate where
  /-- A register write. -/
  | write (off v : Nat)
  /-- LOOP_LOAD of loop records on behalf of a queue. -/
  | loops (q first : Nat) (records : List (List Byte))
  /-- LOOP_LOAD of setpoints. -/
  | setpoints (q first : Nat) (records : List (List Byte))
  /-- LOOP_ARM: the slots and whether they are armed. -/
  | arm (q slots : Nat) (on : Bool)
  deriving DecidableEq, Repr

/-- The Cloche beside its registers (10). -/
structure Cloche where
  /-- Loop slots, by number; an unlisted slot is empty -/
  slots : List (Nat × LoopSlot) := []
  /-- Setpoints, by number -/
  setpoints : List (Nat × Setpoint) := []
  /-- Input table, by index -/
  inputs : List (Nat × InputEntry) := []
  /-- NEXT (10 R296) -/
  next : Nat := 0
  /-- Number of the next boundary -/
  k : Nat := 0
  /-- Boundaries that occurred since the pass in progress started (10 R297) -/
  occurred : List Nat := []
  /-- The boundaries that the pass in progress serves, latched at its start (10 R297) -/
  due : List Nat := []
  /-- Tick of 2 ns in which the pass in progress started (10 R294) -/
  passStart : Nat := 0
  /-- T_c in force (10 R296) -/
  cycleNs : Nat := 1000000
  /-- SUB in force -/
  sub : Nat := 1
  /-- CL_CYCLE_NS or CL_SUB was written since they were last taken -/
  cycleDirty : Bool := false
  /-- Updates for the next pass boundary, in acceptance order -/
  updates : List ClocheUpdate := []
  /-- Frames whose template is uncorrectable (10 R314) -/
  badFrames : List Nat := []
  /-- Finished frames not yet delivered, oldest first -/
  frames : List ClocheFrame := []
  /-- Delivered CAN frames that wait for a buffer on the bus: controller * 4 + buffer (10 R313) -/
  waiting : List (Nat × ClocheFrame) := []
  deriving DecidableEq, Repr

/-- A frame of a stream whose stripes are not all written, or which is still open (09 R261 to R276). -/
structure DrapeFrame where
  /-- Order in which frames started -/
  order : Nat := 0
  /-- DR_FRAME_COUNT of the frame -/
  count : Nat := 0
  /-- The stream descriptor it began with -/
  desc : List Byte := []
  /-- Capture time, nanoseconds -/
  ns : Nat := 0
  /-- Capture time, fraction -/
  frac : Nat := 0
  /-- Capture slot -/
  slot : Nat := 0
  /-- Lines received -/
  lines : Nat := 0
  /-- Lines in the frame store -/
  stored : Nat := 0
  /-- The latest lines after decompanding: line and values (09 R264) -/
  recent : List (Nat × List Nat) := []
  /-- Bytes of embedded data received -/
  embedded : Nat := 0
  /-- LINE_ERR -/
  lineErr : Bool := false
  /-- UNAUTH: the head was not AUTHENTIC at the frame start -/
  unauth : Bool := false
  /-- SLOT_DUP -/
  dup : Bool := false
  /-- The frame has ended -/
  closed : Bool := false
  /-- The frame is discarded whole (09 R267, R281): its packets are still received and checked -/
  discarded : Bool := false
  /-- Its frame set has closed (09 R277) -/
  setClosed : Bool := false
  /-- Rows of the next stripe of each view that are already in a Glasshouse (09 R274) -/
  rows : List Nat := []
  /-- Views whose next row waits for a credit, and since which beat (09 R274) -/
  waits : List (Nat × Nat) := []
  /-- Next stripe of each view -/
  next : List Nat := []
  /-- Flags of the tags written so far, together -/
  flags : Nat := 0
  /-- Views redirected to FALLBACK -/
  redirected : List Nat := []
  /-- Replay: the 96-byte replay descriptor -/
  replay : Option (List Byte) := none
  /-- Replay: the 64-byte decoded sample header -/
  header : List Byte := []
  /-- Replay: the sample is corrupt -/
  corrupt : Bool := false
  deriving DecidableEq, Repr

/-- One stream of the Drape beside its registers. -/
structure DrapeStream where
  /-- The adopted 128-byte stream descriptor -/
  desc : Option (List Byte) := none
  /-- Address of the descriptor that awaits adoption -/
  wanted : Option Nat := none
  /-- Frames, oldest first -/
  frames : List DrapeFrame := []
  /-- Capture slot of the latest frame -/
  lastSlot : Option Nat := none
  /-- Replay ring entries taken ahead of DR_REPLAY_HEAD -/
  taken : List Nat := []
  deriving DecidableEq, Repr

/-- What the Lodge keeps of a sensor head (09 R279 to R285). -/
structure SensorHead where
  /-- The head record as read, addresses 0x0000 to 0x027F -/
  record : List Byte := []
  /-- SERIAL of the head last authenticated -/
  serial : Option Nat := none
  /-- The 32-byte challenge written, while a response is awaited -/
  challenge : Option (List Byte) := none
  /-- Life copy A as the head holds it -/
  lifeA : List Byte := []
  /-- Life copy B -/
  lifeB : List Byte := []
  /-- OP_QUARTERS -/
  quarters : Nat := 0
  /-- THERMAL -/
  thermal : Nat := 0
  /-- CLEAN -/
  clean : Nat := 0
  /-- Beats of operating time not yet in OP_QUARTERS -/
  opBeats : Nat := 0
  /-- Beat since which operating time counts, while the stream is enabled -/
  opSince : Option Nat := none
  /-- The temperature was at or below TEMP_LO since the last thermal cycle -/
  cold : Bool := false
  /-- A serial recheck is due (09 R285) -/
  recheck : Bool := false
  /-- The Lodge completed a mesh request for the head since CAL_STALE was set -/
  meshed : Bool := false
  deriving DecidableEq, Repr

/-- An open frame set (09 R277). -/
structure FrameSet where
  /-- Slot -/
  slot : Nat := 0
  /-- Pulse time in nanoseconds -/
  ns : Nat := 0
  /-- PRESENT -/
  present : Nat := 0
  /-- FLAGGED -/
  flagged : Nat := 0
  deriving DecidableEq, Repr

/-- The Drape engines, receivers and sensor heads beside their registers (09). -/
structure Drape where
  /-- Streams, by number -/
  streams : List (Nat × DrapeStream) := []
  /-- Sensor heads, by stream -/
  heads : List (Nat × SensorHead) := []
  /-- Open frame sets, oldest first -/
  sets : List FrameSet := []
  /-- The set of the present DR_SLOT has closed (09 R277) -/
  slotClosed : Bool := false
  /-- Order of the next frame -/
  nextOrder : Nat := 0
  /-- Beat of the latest packet of each stream (CSI_STATUS) -/
  vcBeat : List (Nat × Nat) := []
  deriving DecidableEq, Repr


/-- One converter of the sensing front end (11 R322). -/
structure AdcRun where
  /-- A sequence is running -/
  running : Bool := false
  /-- Its current slot -/
  slot : Nat := 0
  deriving DecidableEq, Repr

/-- One SENT receiver (11 R325, R326). -/
structure SentRun where
  /-- Calibration pulse of the latest frame, in ns -/
  lastCal : Option Nat := none
  /-- Bits 3 and 2 of the status nibbles of the latest valid frames, newest first, at most 18 -/
  serial : List (Bool × Bool) := []
  /-- Tick of 2 ns of the latest valid frame, or of enabling -/
  since : Nat := 0
  /-- The timeout counted from then has come -/
  expired : Bool := false
  deriving DecidableEq, Repr

/-- One SPI master (11 R328). -/
structure SpiRun where
  /-- Transfer slots that wait -/
  waiting : List Nat := []
  /-- Transfer slot that runs -/
  running : Option Nat := none
  /-- Bytes that the running transfer shifts out -/
  mosi : List Byte := []
  /-- SPIm_CS_N pin that the running transfer asserts (11 R327) -/
  cs : Option Nat := none
  deriving DecidableEq, Repr

/-- One capture input (11 R330, R331). -/
structure CapRun where
  /-- Stamp of the edge that began the interval in progress -/
  prev : Option Nat := none
  /-- Tick of 2 ns of the latest qualifying edge, until its timeout -/
  since : Option Nat := none
  deriving DecidableEq, Repr

/-- The sensing front end beside its registers (11). -/
structure Sense where
  /-- Converters -/
  adc : List (Nat × AdcRun) := []
  /-- SENT receivers -/
  sent : List (Nat × SentRun) := []
  /-- SPI masters -/
  spi : List (Nat × SpiRun) := []
  /-- Capture inputs -/
  cap : List (Nat × CapRun) := []
  deriving DecidableEq, Repr

/-- What a CAN controller transmits (12 R346). -/
inductive CanSource where
  /-- Transmit buffer `b`. -/
  | buffer (b : Nat)
  /-- The reference message. -/
  | reference
  deriving DecidableEq, Repr

/-- A transmission attempt (12 R346, R347). -/
structure CanAttempt where
  /-- The buffer or the reference message -/
  source : CanSource := .reference
  /-- The frame -/
  frame : CanFrame := {}
  /-- Clocktower nanoseconds at the sample point of SOF -/
  stamp : Nat := 0
  /-- Its fraction -/
  frac : Nat := 0
  /-- Number k of the reference message -/
  k : Nat := 0
  deriving DecidableEq, Repr

/-- One CAN controller beside its registers (12). -/
structure Can where
  /-- Enabled: CAN_CTRL.EN as it takes effect (12 R336) -/
  running : Bool := false
  /-- CAN_CTRL.MODE as it takes effect (12 R336) -/
  mode : Nat := 0
  /-- The attempt in progress -/
  attempt : Option CanAttempt := none
  /-- ON_BUS buffers whose cancellation waits for the end of the attempt (12 R347) -/
  cancelling : List Nat := []
  /-- Transmit error counter -/
  txErr : Nat := 0
  /-- Receive error counter -/
  rxErr : Nat := 0
  /-- Bus-off recovery is under way (12 R338) -/
  recovering : Bool := false
  /-- Tick of 2 ns since which the controller waits for 11 recessive bits (12 R333, R336) -/
  waitFrom : Option Nat := none
  /-- 64-bit words of message RAM that show an uncorrectable error (12 R354) -/
  badWords : List Nat := []
  /-- Time of the next reference instant (12 R350) -/
  refNext : Nat := 0
  /-- Its number k -/
  refK : Nat := 0
  /-- Number of the requested reference message, not yet sent -/
  refDue : Option Nat := none
  /-- Consecutive references withdrawn (12 R351) -/
  refMissed : Nat := 0
  /-- Source 59 was raised for this run of withdrawals -/
  refRaised : Bool := false
  /-- The basic cycle in progress has a reference mark (12 R352) -/
  marked : Bool := false
  /-- Buffers whose window opened in this basic cycle (12 R352) -/
  opened : List Nat := []
  /-- Frames sent, oldest first -/
  sent : List CanFrame := []
  deriving DecidableEq, Repr

/-- A base: the PTP time at which NS was 0 (13 R362). -/
structure PtpBase where
  /-- Seconds, 48 bits -/
  sec : Nat := 0
  /-- Nanoseconds, below 10^9 -/
  ns : Nat := 0
  deriving DecidableEq, Repr

/-- A stretch of the counter at one increment (13 R357). -/
structure CounterRun where
  /-- Tick of 2 ns at which it began -/
  tick : Nat := 0
  /-- The counter then, as one 64-bit value -/
  counter : Nat := 0
  /-- INCR -/
  incr : Nat := 0
  deriving DecidableEq, Repr

/-- One time-triggered output (13 R366). -/
structure TtOut where
  /-- Next edge time; none when it has no further edge -/
  next : Option Nat := none
  /-- Tick of 2 ns at which the pulse in progress began -/
  since : Option Nat := none
  deriving DecidableEq, Repr

/-- The Clocktower beside its registers (13). -/
structure Tower where
  /-- CUR (13 R362) -/
  cur : PtpBase := {}
  /-- NEXT as committed (13 R362) -/
  next : PtpBase := {}
  /-- The second copy of the counter less the first, modulo 2^64: both take every increment, step and reset alike, so this
  is 0 until an upset of one of them (13 R369) -/
  copyDiff : Nat := 0
  /-- The mismatch in progress has raised source 61 -/
  copyTold : Bool := false
  /-- The counter's course over the latest 33 ms and back to the stretch before, newest first: what an earlier event is
  stamped from (12 R344) -/
  runs : List CounterRun := []
  /-- Steps written, applied at the next tick (13 R360) -/
  steps : List Int := []
  /-- A LOAD_NOW is applied at the next tick (13 R363) -/
  loadDue : Bool := false
  /-- Offsets accepted, applied at the next tick (13 R365) -/
  offsets : List Int := []
  /-- Integrator I (13 R365) -/
  servoI : Int := 0
  /-- SERVO_C (13 R365) -/
  servoC : Int := 0
  /-- Beat of the latest PPS edge, or of the rise of PPS_EN (13 R368) -/
  ppsSince : Nat := 0
  /-- Outputs TT_OUT0 to TT_OUT3; TT_OUT n is asserted while its pulse is in progress -/
  out : List (Nat × TtOut) := []
  deriving DecidableEq, Repr

/-- One Ethernet port beside its registers (13 R371 to R378). -/
structure EthPort where
  /-- Queue 7: Cloche frames without FCS, at most two (13 R372) -/
  cloche : List (List Byte) := []
  /-- Frames sent with their FCS, oldest first -/
  sent : List (List Byte) := []
  /-- The management port's two-step stamps of its latest received and its latest sent frame, NS and FRAC (13 R377) -/
  rxStamp : Option (Nat × Nat) := none
  txStamp : Option (Nat × Nat) := none
  deriving DecidableEq, Repr

/-- The device fuses (16 R426). -/
structure Fuses where
  /-- Analogue trim, 2,048 bits; no host view -/
  trim : Nat := 0
  /-- SKU option word -/
  sku : Nat := 0xFFFFF
  /-- Die unique identifier -/
  dieId : Nat := 0
  /-- Device secret; no read path -/
  secret : Nat := 0
  /-- Key-hash slots 0 to 3, 64 bytes each; an unlisted slot is not programmed -/
  keys : List (Nat × List Byte) := [(0, List.replicate 64 255)]
  /-- Revocation, one bit per slot -/
  revoked : Nat := 0
  /-- Anti-rollback thermometer: blown bits -/
  therm : Nat := 0
  /-- FACTORY -/
  factory : Bool := false
  /-- TEST_LOCK -/
  testLock : Bool := false
  deriving DecidableEq, Repr

/-- An event of the Lodge (16 R438). -/
structure LodgeEvent where
  /-- CODE -/
  code : Nat := 0
  /-- Beat counter -/
  beat : Nat := 0
  /-- Payload -/
  payload : List Byte := []
  deriving DecidableEq, Repr

/-- The telemetry ring (16 R438). -/
structure Telemetry where
  /-- Address of the control block -/
  base : Nat := 0
  /-- Records -/
  records : Nat := 16
  /-- Sample period in ms -/
  period : Nat := 10
  /-- Beat of the latest sample, or of the start -/
  since : Nat := 0
  deriving DecidableEq, Repr

/-- What a start settles of the management port: a BCB's fields, or recovery's (16 R432, R433, Table 16.4). -/
structure ManagementPort where
  /-- MAC address, first byte first -/
  mac : List Byte := []
  /-- Satchel UDP port -/
  udp : Nat := 0
  /-- IPv4 address, first byte first, or zero for IPv6 link-local only -/
  ipv4 : List Byte := []
  /-- Prefix length -/
  prefixLen : Nat := 0
  /-- VLAN, or 0 for untagged -/
  vlan : Nat := 0
  /-- IPv4 gateway, first byte first -/
  gateway : List Byte := []
  deriving DecidableEq, Repr

/-- A Satchel session (16 R440). -/
structure Satchel where
  /-- Session identifier -/
  id : Nat := 0
  /-- Address and port from which its BEGIN came -/
  peer : Nat := 0
  /-- TOTAL -/
  total : Nat := 0
  /-- Received ranges of the slot, ascending and disjoint -/
  got : List (Nat × Nat) := []
  /-- DATA since the latest ACK -/
  unacked : Nat := 0
  /-- Beat of the latest packet -/
  last : Nat := 0
  /-- The silence since the latest packet was answered with an ACK -/
  acked : Bool := false
  deriving DecidableEq, Repr

/-- A pending activation (16 R442). -/
structure Activation where
  /-- The staged slot -/
  slot : Nat := 0
  /-- LIVE, else BOOT -/
  live : Bool := false
  /-- GENERATION of the staged slot at the request -/
  generation : Nat := 0
  /-- The latest phase done, 1 to 3 -/
  phase : Nat := 1
  deriving DecidableEq, Repr

/-- Where a start stands (16 R432, R433). -/
inductive BootStage where
  /-- Held in reset, or released from reset with the cold boot not yet begun. -/
  | reset
  /-- A bootable slot was found: its BCB took effect, READY is not yet set. -/
  | released
  /-- Neither slot is bootable. -/
  | recovery
  /-- Ready. -/
  | running
  deriving DecidableEq, Repr

/-- The Lodge beside its registers (16). -/
structure Lodge where
  /-- Where the start stands -/
  stage : BootStage := .reset
  /-- Fuses as read at the latest start, which the checks of R431 use (16 R443) -/
  checked : Fuses := {}
  /-- The running BCB, signature block included (16 R430) -/
  bcb : List Byte := []
  /-- The slots that retained copies 0 and 1 hold (16 R434) -/
  copies : Nat × Nat := (0, 0)
  /-- The pending activation (16 R442) -/
  activation : Option Activation := none
  /-- LIVE-activated since the start (16 R445) -/
  live : Bool := false
  /-- A LIVE activation ends with the Lodge restart under way: the staged slot becomes the running one (16 R441) -/
  liveDue : Bool := false
  /-- Events that wait for the telemetry ring, at most 256 (16 R438) -/
  events : List LodgeEvent := []
  /-- The telemetry ring, while started -/
  telemetry : Option Telemetry := none
  /-- SEQ of the next record -/
  seq : Nat := 0
  /-- The open Satchel session -/
  session : Option Satchel := none
  /-- Packets sent to the management port, oldest first -/
  satchelOut : List (List Byte) := []
  /-- A fuse commit deferred by an emergency (16 R444) -/
  fuseDeferred : Bool := false
  /-- A Lodge restart is under way -/
  restarting : Bool := false
  /-- The source that caused it -/
  restartSource : Nat := 0
  /-- Beats at which Lodge restarts began, newest first (16 R436) -/
  began : List Nat := []
  /-- At a Lodge restart: a request of the service ring was taken and is not answered (16 R436) -/
  taken : Bool := false
  /-- Beat at which the backlog was last estimated at 2 ms or more (16 R435) -/
  backlogBeat : Nat := 0
  /-- The management port as the start set it up (16 R432, R433) -/
  port : ManagementPort := {}
  /-- The Lodge stays down until the next start (16 R436) -/
  dead : Bool := false
  deriving DecidableEq, Repr

/-- The TAP (18 R488 to R492). -/
structure Tap where
  /-- The current instruction -/
  ir : Nat := 0x01
  /-- The boundary register's update stage, 304 cells -/
  boundary : Nat := 0
  /-- What the selected register captured: the value shifted out -/
  captured : Nat := 0x10880A5D
  deriving DecidableEq, Repr

/-- Pins beside those that a unit's state gives (18 R478 to R492). -/
structure Pins where
  /-- PWR_GOOD -/
  pwrGood : Bool := true
  /-- SYS_RESET_N, high when deasserted -/
  sysResetN : Bool := true
  /-- PERST_N, high when deasserted -/
  perstN : Bool := true
  /-- THERMTRIP_N asserted (17 R463) -/
  thermTrip : Bool := false
  /-- PWR_ALERT_N, high when deasserted -/
  alertN : Bool := true
  /-- CLKREQ_N driven low (18 Table 18.4) -/
  clkreqLow : Bool := true
  /-- Supply banks in tolerance: 0 VDDIO_18, 1 VDDIO_33, 2 SerDes -/
  banks : List Nat := [0, 1, 2]
  /-- The TAP -/
  tap : Tap := {}
  deriving DecidableEq, Repr

/-- The device: everything but the queue of waiting commands. -/
structure Device where
  /-- The register store: values by BAR0 offset; an unlisted register holds its reset value (Machine/RegMap.lean) -/
  regs : List (Nat × Word) := []
  /-- The memories -/
  mems : Memories := {}
  /-- Configuration from the fuses -/
  chip : Chip := {}
  /-- Beat counter -/
  clock : BeatClock := {}
  /-- PCIe -/
  link : Link := {}
  /-- Host interface -/
  hostif : HostIf := {}
  /-- Cloakroom -/
  cloak : Cloakroom := {}
  /-- Step Builder -/
  serve : StepBuilder := {}
  /-- Compute side -/
  comp : Compute := {}
  /-- Belvedere -/
  belv : Belvedere := {}
  /-- Gatehouse -/
  gate : Gatehouse := {}
  /-- Cloche -/
  cloche : Cloche := {}
  /-- Drape -/
  drape : Drape := {}
  /-- Sensing front end -/
  sense : Sense := {}
  /-- CAN controllers, by number -/
  can : List (Nat × Can) := []
  /-- Clocktower -/
  tower : Tower := {}
  /-- Ethernet ports, by number -/
  eth : List (Nat × EthPort) := []
  /-- Fuses -/
  fuses : Fuses := {}
  /-- Lodge -/
  lodge : Lodge := {}
  /-- Pins and TAP -/
  pins : Pins := {}
  /-- Next index of a free value (the model's own field: it selects what Config's free values answer) -/
  freeCtr : Nat := 0
  deriving DecidableEq, Repr

/-- The block: the device and the commands that wait, first in first out. -/
structure State where
  /-- Commands that wait, first in first out (the model's own) -/
  pending : List Instr := []
  /-- The device -/
  dev : Device := {}
  deriving DecidableEq, Repr

/-- Why the block stops with a fault. -/
inductive Fault where
  /-- No meaning raises this fault; the model has no fault outcome. Safe. -/
  | none
  deriving DecidableEq, Repr

/-- Why the block refuses a command. -/
inductive Refusal where
  /-- Raised by Dispatch for a command without a meaning yet. Safe: it answers nothing. -/
  | notModelled (mnemonic : String)
  deriving DecidableEq, Repr

/-- The block when the device is released from reset: every register at its reset value, no memory listed. -/
def State.reset : State := {}

end Sys2Proof.Machine
end

