-- ==== Sys2Proof/Machine/Ops.lean ====
section
/-! DEFINITION. The named operations over registers, memories, the link and the interrupt vectors that every
family uses. -/
namespace Sys2Proof.Machine

/-! Registers. -/

/-- The value a register holds (00 R10, R11). -/
def rd (d : Device) (off : Nat) : Nat := (tabGet (regReset off) d.regs off).toNat

/-- The device sets a register. -/
def wr (off v : Nat) (d : Device) : Device :=
  { d with regs := tabSet (regReset off) d.regs off (BitVec.ofNat 32 v) }

/-- Field [hi:lo] of a register. -/
def fld (d : Device) (off hi lo : Nat) : Nat := fieldOf (rd d off) hi lo

/-- Bit `i` of a register. -/
def rbit (d : Device) (off i : Nat) : Bool := bitOf (rd d off) i

/-- The device sets field [hi:lo] of a register. -/
def setFld (off hi lo v : Nat) (d : Device) : Device := wr off (putField (rd d off) hi lo v) d

/-- The device sets bit `i` of a register. -/
def setBit (off i : Nat) (b : Bool) (d : Device) : Device := wr off (putBit (rd d off) i b) d

/-- The device sets the bits of `mask` in a register. -/
def orBits (off mask : Nat) (d : Device) : Device := wr off (rd d off ||| mask) d

/-- A counter that saturates at 0xFFFF_FFFF goes up by `n`. -/
def countBy (off n : Nat) (d : Device) : Device := wr off (satAdd32 (rd d off) n) d

/-- A counter that saturates at 0xFFFF_FFFF goes up by one. -/
def countUp (off : Nat) (d : Device) : Device := countBy off 1 d

/-- A counter that wraps modulo 2^32 goes up by `n`. -/
def addWrap (off n : Nat) (d : Device) : Device := wr off ((rd d off + n) % 2 ^ 32) d

/-- Registers return to their reset values; the retained ones keep their value when `keep` holds (00 R11). -/
def resetRegs (keep : Bool) (d : Device) : Device :=
  { d with regs := d.regs.filter (fun r => keep && regRetained r.1) }

/-! Member configuration (00 Table 0.1, R4). -/

/-- Present pavilions. -/
def pavCount (d : Device) : Nat := onesBelow d.chip.pavMask 8

/-- Present Icehouses. -/
def iceCount (d : Device) : Nat := onesBelow d.chip.ihMask 12

/-- Bytes of populated DRAM (01 R31: a stack holds 16 GiB). -/
def dramBytes (d : Device) : Nat := iceCount d * 2 ^ 34

/-- Start of the device reserve: the highest 256 MiB of DRAM (14 R393). -/
def reserveBase (d : Device) : Nat := dramBytes d - 2 ^ 28

/-! The device address space (01 R27). -/

/-- Device address of row `n` of Glasshouse `g` (01 R27, 03 R67). -/
def rowAddr (g n : Nat) : Nat := 0x010000000000 + g * 0x04000000 + n * 512

/-- Device address of the local memory of Kiosk core `k` (01 R27, R28). -/
def localAddr (k : Nat) : Nat := 0x018000000000 + k * 0x00040000

/-- Where a device address lies (01 R27). -/
inductive Region where
  /-- DRAM. -/
  | dram
  /-- Byte `off` of Glasshouse `g`. -/
  | glass (g off : Nat)
  /-- Byte `off` of the local memory of core `k`. -/
  | localMem (k off : Nat)
  /-- Control register at BAR0 offset. -/
  | control (off : Nat)
  /-- A hole, or an absent range of a smaller member (01 R30). -/
  | hole
  deriving DecidableEq, Repr

/-- The region of a device address (01 R27). -/
def regionOf (d : Device) (a : Nat) : Region :=
  if a < dramBytes d then .dram
  else if 0x020000000000 ≤ a ∧ a < 0x020010000000 then .control (a - 0x020000000000)
  else if 0x018000000000 ≤ a ∧ a < 0x018000000000 + 4 * pavCount d * 0x40000 then
    if (a - 0x018000000000) % 0x40000 < 0x20000 then
      .localMem ((a - 0x018000000000) / 0x40000) ((a - 0x018000000000) % 0x40000)
    else .hole
  else if 0x010000000000 ≤ a ∧ a < 0x010000000000 + pavCount d * 0x4000000 then
    if (a - 0x010000000000) % 0x4000000 < 0x2000000 then
      .glass ((a - 0x010000000000) / 0x4000000) ((a - 0x010000000000) % 0x4000000)
    else .hole
  else .hole

/-- Does [a, a + n) lie wholly in DRAM? -/
def inDram (d : Device) (a n : Nat) : Bool := decide (a + n ≤ dramBytes d)

/-- Does [a, a + n) lie wholly in the populated part of one Glasshouse? -/
def inGlass (d : Device) (a n : Nat) : Bool :=
  match regionOf d a with
  | .glass _ off => decide (off + n ≤ 0x2000000)
  | _ => false

/-- Does [a, a + n) lie wholly in one populated range (01 R30)? -/
def populated (d : Device) (a n : Nat) : Bool :=
  match regionOf d a with
  | .dram => inDram d a n
  | .glass _ off => decide (off + n ≤ 0x2000000)
  | .localMem _ off => decide (off + n ≤ 0x20000)
  | .control off => decide (off + n ≤ 0x10000000)
  | .hole => false

/-- Do [a, a + n) and [b, b + m) share a byte? An empty range shares none. -/
def overlaps (a n b m : Nat) : Bool := decide (0 < n) && decide (0 < m) && decide (a < b + m) && decide (b < a + n)

/-- Does [a, a + n) name a byte of the device reserve (14 R393)? -/
def inReserve (d : Device) (a n : Nat) : Bool := overlaps a n (reserveBase d) (2 ^ 28)

/-- Base of the key-value page range (07 R183). -/
def kvPoolBase (d : Device) : Nat := rd d CK_KV_POOL_BASE * 2 ^ 16
/-- Base of the key-value control area (07 R183). -/
def kvCtrlBase (d : Device) : Nat := rd d CK_KV_CTRL_BASE * 2 ^ 16
/-- Pages of the pool. -/
def kvPages (d : Device) : Nat := rd d CK_KV_POOL_PAGES
/-- Length of the control area (07 R183). -/
abbrev kvCtrlBytes : Nat := 0x9C00000

/-- Does [a, a + n) name a byte of the enabled pool's ranges (07 R186)? -/
def inKv (d : Device) (a n : Nat) : Bool :=
  rbit d CK_KV_CTRL 0 && (overlaps a n (kvPoolBase d) (kvPages d * 2 ^ 16) || overlaps a n (kvCtrlBase d) kvCtrlBytes)

/-- The interleaving of a DRAM address (01 R31): logical Icehouse and channel. -/
def iceOf (d : Device) (addr : Nat) : Nat × Nat :=
  let n := iceCount d
  let g := fieldOf addr 37 12
  let q := g / n
  let m := g % n
  let h := fieldOf q 3 0 ^^^ fieldOf q 7 4 ^^^ fieldOf q 11 8 ^^^ fieldOf q 15 12 ^^^ fieldOf q 19 16 ^^^ fieldOf q 21 20
  ((m + h) % n, fieldOf addr 9 6 ^^^ fieldOf q 3 0)

/-- Where a DRAM address lies (01 R31). -/
structure DramPlace where
  /-- Logical Icehouse -/
  stack : Nat
  /-- Channel of the stack, 0 to 15 -/
  chan : Nat
  /-- Bank of the channel, 0 to 15 -/
  bank : Nat
  /-- Row of the bank, 0 to 32,767 -/
  row : Nat
  /-- 64-byte slot of the row, 0 to 31 -/
  column : Nat
  /-- Byte of the 2 KiB row -/
  byte : Nat
  deriving DecidableEq, Repr

/-- The mapping of a DRAM address (01 R31). -/
def dramPlace (d : Device) (addr : Nat) : DramPlace :=
  let q := fieldOf addr 37 12 / iceCount d
  let column := fieldOf q 2 0 * 4 + fieldOf addr 11 10
  { stack := (iceOf d addr).1, chan := (iceOf d addr).2, bank := fieldOf q 6 3 ^^^ fieldOf q 10 7, row := fieldOf q 21 7,
    column := column, byte := column * 64 + fieldOf addr 5 0 }

/-! Memories. -/

/-- `n` bytes of the device address space. -/
def memBytes (d : Device) (a n : Nat) : List Byte := memReadN 0 d.mems.dev a n

/-- A little-endian value of `n` bytes of the device address space (00 R9). -/
def memNat (d : Device) (a n : Nat) : Nat := leNat (memBytes d a n)

/-- The LR reservations that a write of [a, a + n) leaves: those of other granules (04 R114). -/
def keepResv (a n : Nat) (rs : List (Nat × Nat)) : List (Nat × Nat) := rs.filter (fun r => !overlaps r.2 64 a n)

/-- Write bytes into the device address space; reservations of the granules written are lost (04 R114). -/
def memPut (a : Nat) (bs : List Byte) (d : Device) : Device :=
  { d with mems := { d.mems with dev := memWriteN 0 d.mems.dev a bs, resv := keepResv a bs.length d.mems.resv } }

/-- Write a little-endian value of `n` bytes into the device address space. -/
def memPutNat (a n v : Nat) (d : Device) : Device := memPut a (leBytes n v) d

/-- Zero [a, a + n) of the device address space. -/
def memZero (a n : Nat) (d : Device) : Device :=
  { d with mems := { d.mems with dev := memClear d.mems.dev a (a + n), resv := keepResv a n d.mems.resv } }

/-- The 512 bytes of row `n` of Glasshouse `g` (03 R68). -/
def rowBytes (d : Device) (g n : Nat) : List Byte := memBytes d (rowAddr g n) 512

/-- Replace row `n` of Glasshouse `g` whole (03 R68). -/
def rowPut (g n : Nat) (bs : List Byte) (d : Device) : Device := memPut (rowAddr g n) (sliceBytes bs 0 512) d

/-! Host memory and the interrupt vectors (15 R409, R415). -/

/-- The device may issue requests to host memory: L0 and Bus Master Enable (15 R409). -/
def hostUp (d : Device) : Bool := d.link.l0 && d.link.busMaster

/-- A host access reaches the function: the link is in L0 and the function is not in D3hot (15 R409). -/
def hostReach (d : Device) : Bool := d.link.l0 && !d.link.d3hot

/-- The device writes host memory; the request waits while the link is down (15 R409). -/
def hostPut (a : Nat) (bs : List Byte) (d : Device) : Device :=
  if hostUp d && d.link.waiting.isEmpty then
    { d with mems := { d.mems with host := memWriteN 0 d.mems.host a bs } }
  else { d with link := { d.link with waiting := d.link.waiting ++ [.write a bs] } }

/-- `n` bytes of host memory. -/
def hostBytes (d : Device) (a n : Nat) : List Byte := memReadN 0 d.mems.host a n

/-- The message of a vector leaves the device, or waits for the link (15 R409, R415). -/
def sendMessage (v : Nat) (d : Device) : Device :=
  if hostUp d && d.link.waiting.isEmpty then { d with link := { d.link with messages := d.link.messages ++ [v] } }
  else { d with link := { d.link with waiting := d.link.waiting ++ [.message v] } }

/-- A message may be sent for a vector: enabled, and neither vector nor function masked (15 R415). -/
def vectorOpen (d : Device) (v : Nat) : Bool :=
  d.link.msixEnable && d.link.busMaster && !d.link.functionMask && !rbit d (MSIX_TABLE_CTRL v) 0

/-- A unit raises a vector (15 R415): the message is sent, or the pending bit is set or merged. -/
def raiseVector (v : Nat) (d : Device) : Device :=
  if vectorOpen d v && !rbit d (MSIX_PBA (v / 32)) (v % 32) then sendMessage v d
  else setBit (MSIX_PBA (v / 32)) (v % 32) true d

/-- A unit raises the vector of its vector register: bits [10:0] VECTOR, bit 11 EN (15 R415). -/
def raiseIrq (off : Nat) (d : Device) : Device :=
  if rbit d off 11 then raiseVector (fld d off 10 0) d else d

/-- A DEV_EVENT bit is set; DEV_IRQ is raised if the bit is enabled (15 Table 15.6, 15.10). -/
def devEvent (b : Nat) (d : Device) : Device :=
  let d := setBit DEV_EVENT b true d
  if rbit d DEV_EVENT_EN b then raiseIrq DEV_IRQ d else d

/-- A refused host access is counted and recorded; `bar` is the code of DEV_BADACC_ADDR (15 R416, Table 15.6). -/
def badAccess (bar off : Nat) (d : Device) : Device :=
  d |> countUp DEV_BADACC |> wr DEV_BADACC_ADDR (bar * 2 ^ 30 + off % 2 ^ 30) |> devEvent 4

/-- The host is answered. -/
def answerHost (bs : List Byte) (d : Device) : Device :=
  { d with hostif := { d.hostif with answer := { data := bs } } }

/-- The host is answered one register word. -/
def answerWord (v : Nat) (d : Device) : Device := answerHost (leBytes 4 v) d

/-- The device is Ready (15 Table 15.9). -/
def isReady (d : Device) : Bool := rbit d DEV_STATUS 0

/-- LODGE_DOWN takes a value; a change is an event (15 Table 15.10). -/
def setLodgeDown (b : Bool) (d : Device) : Device :=
  if rbit d DEV_STATUS 4 == b then d else d |> setBit DEV_STATUS 4 b |> devEvent 2

/-- Ticks of 2 ns since the beat counter began (05 R133, 01 R25). -/
def nowTicks (d : Device) : Nat := d.clock.beat * 20 + d.clock.tick

/-- The next index of a free value. -/
def nextFree (d : Device) : Device := { d with freeCtr := d.freeCtr + 1 }

/-- Beats since the cold boot, over safe-state restarts. -/
def totalBeats (d : Device) : Nat := d.clock.before + d.clock.beat

/-- The free value at this point, one of the `n` below `n`. -/
def freeBelow (d : Device) (n : Nat) : Nat := Config.free d.freeCtr % n

/-- Strict mode is in effect (05 R148). -/
def strictMode (d : Device) : Bool := rbit d DEV_STATUS 1

end Sys2Proof.Machine
end

