-- ==== Sys2Proof/Machine/Pool.lean ====
section
/-! DEFINITION. The key-value control area: page counts, the free list, prefix-tree nodes, the swap-slot list, and the
flush pages of a step that ends without committing (07 R185 to R188, R206, R212, R216, R217). -/
namespace Sys2Proof.Machine

/-! Page records and the free list (07 R187, R188). -/

/-- Device address of the page record of page `n` (07 Table 7.1). -/
def pageRec (d : Device) (n : Nat) : Nat := kvCtrlBase d + 0x7010000 + 8 * n
/-- COUNT of page `n`. -/
def pageCount (d : Device) (n : Nat) : Nat := memNat d (pageRec d n) 2
/-- GEN of page `n`. -/
def pageGen (d : Device) (n : Nat) : Nat := memNat d (pageRec d n + 4) 4
/-- Set COUNT of page `n`. -/
def setPageCount (n v : Nat) (d : Device) : Device := memPutNat (pageRec d n) 2 v d
/-- Device address of page `n` of the pool (07 R183). -/
def pageAddr (d : Device) (n : Nat) : Nat := kvPoolBase d + n * 0x10000
/-- Pages on the free list. -/
def freePages (d : Device) : Nat := rd d CK_KV_FREE_PAGES
/-- Device address of entry `i` of the page free list. -/
def freeEntry (d : Device) (i : Nat) : Nat := kvCtrlBase d + 0x8410000 + 4 * i

/-- Page `n` is pushed onto the free list (07 R187). -/
def pushPage (n : Nat) (d : Device) : Device :=
  d |> memPutNat (freeEntry d (freePages d)) 4 n |> wr CK_KV_FREE_PAGES (freePages d + 1)

/-- Page `n` gains a holder (07 R188). -/
def addHolder (n : Nat) (d : Device) : Device := setPageCount n (pageCount d n + 1) d

/-- Page `n` loses a holder; at zero it is pushed onto the free list (07 R213). -/
def dropHolder (n : Nat) (d : Device) : Device :=
  let c := pageCount d n
  let d := setPageCount n (c - 1) d
  if c == 1 then pushPage n d else d

/-! Prefix-tree nodes (07 Table 7.7). -/

/-- Device address of node `i`. -/
def nodeAddr (d : Device) (i : Nat) : Nat := kvCtrlBase d + 0x2010000 + 256 * i
/-- FLAGS of a node: bit 0 VALID, bit 1 PINNED, bit 2 HALF, bit 3 PENDING. -/
def nodeFlags (d : Device) (i : Nat) : Nat := memNat d (nodeAddr d i + 28) 1
/-- Is the node VALID? -/
def nodeValid (d : Device) (i : Nat) : Bool := bitOf (nodeFlags d i) 0
/-- Is the node PENDING? -/
def nodePending (d : Device) (i : Nat) : Bool := bitOf (nodeFlags d i) 3
/-- HASH. -/
def nodeHash (d : Device) (i : Nat) : Nat := memNat d (nodeAddr d i) 8
/-- PARENT. -/
def nodeParent (d : Device) (i : Nat) : Nat := memNat d (nodeAddr d i + 8) 4
/-- PAGE0. -/
def nodePage0 (d : Device) (i : Nat) : Nat := memNat d (nodeAddr d i + 12) 4
/-- PAGE1. -/
def nodePage1 (d : Device) (i : Nat) : Nat := memNat d (nodeAddr d i + 16) 4
/-- GEN0. -/
def nodeGen0 (d : Device) (i : Nat) : Nat := memNat d (nodeAddr d i + 20) 4
/-- GEN1. -/
def nodeGen1 (d : Device) (i : Nat) : Nat := memNat d (nodeAddr d i + 24) 4
/-- PT_LOG2. -/
def nodePtLog2 (d : Device) (i : Nat) : Nat := memNat d (nodeAddr d i + 29) 1
/-- MODEL. -/
def nodeModel (d : Device) (i : Nat) : Nat := memNat d (nodeAddr d i + 32) 8
/-- TOKENS, 128 bytes. -/
def nodeTokens (d : Device) (i : Nat) : List Byte := memBytes d (nodeAddr d i + 64) 128
/-- No page, node or slot (07 Tables 7.3, 7.7). -/
abbrev noIndex : Nat := 0xFFFFFFFF
/-- The pages that a node names. -/
def nodePages (d : Device) (i : Nat) : List Nat :=
  nodePage0 d i :: (if nodePage1 d i == noIndex then [] else [nodePage1 d i])

/-- A node is cleared: neither VALID nor PENDING (07 R208, R210, R212). -/
def clearNode (i : Nat) (d : Device) : Device :=
  if nodeValid d i || nodePending d i then
    d |> memPutNat (nodeAddr d i + 28) 1 0 |> wr CK_PFX_NODES (rd d CK_PFX_NODES - 1)
  else d

/-- Every node that names page `n` is cleared before the page is handed out (07 R212). -/
def clearNaming (n : Nat) (d : Device) : Device :=
  forEach (List.range 65536) (fun i d => if nodeValid d i && (nodePages d i).contains n then clearNode i d else d) d

/-- A page is popped from the free list; its GEN increases by one modulo 2^32 (07 R187, R188, R212). -/
def popPage (d : Device) : Option (Nat × Device) :=
  if freePages d == 0 then none
  else
    let n := memNat d (freeEntry d (freePages d - 1)) 4
    let g := (pageGen d n + 1) % 2 ^ 32
    let d := d |> wr CK_KV_FREE_PAGES (freePages d - 1) |> memPutNat (pageRec d n + 4) 4 g
    some (n, if g == 0 then clearNaming n d else d)

/-- `k` pages are popped, first popped first; fewer where the list runs out. -/
def popPages : Nat → Device → List Nat × Device
  | 0, d => ([], d)
  | k + 1, d =>
    match popPage d with
    | some (n, d) => let r := popPages k d; (n :: r.1, r.2)
    | none => ([], d)

/-! Swap slots (07 R217). -/

/-- Free swap slots. -/
def freeSwap (d : Device) : Nat := rd d CK_KV_SWAP_FREE
/-- Device address of entry `i` of the swap-slot free list. -/
def swapEntry (d : Device) (i : Nat) : Nat := kvCtrlBase d + 0x8E10000 + 4 * i
/-- Device address of the CRC word of swap slot `n`. -/
def swapCrcAddr (d : Device) (n : Nat) : Nat := kvCtrlBase d + 0x9210000 + 8 * n
/-- Base of the swap area in host memory. -/
def swapBase (d : Device) : Nat := rd d CK_KV_SWAP_BASE_LO + rd d CK_KV_SWAP_BASE_HI * 2 ^ 32

/-- A swap slot is pushed onto its free list. -/
def pushSwap (n : Nat) (d : Device) : Device :=
  d |> memPutNat (swapEntry d (freeSwap d)) 4 n |> wr CK_KV_SWAP_FREE (freeSwap d + 1)

/-- A swap slot is popped from its free list. -/
def popSwap (d : Device) : Option (Nat × Device) :=
  if freeSwap d == 0 then none
  else some (memNat d (swapEntry d (freeSwap d - 1)) 4, wr CK_KV_SWAP_FREE (freeSwap d - 1) d)

/-! The Step Builder's table. -/

/-- Entry of slot `k` of the active-sequence table. -/
def sbEntry (d : Device) (k : Nat) : SbEntry := tabGet {} d.serve.table k

/-- Replace the entry of slot `k`; a free slot is not listed. -/
def setSbEntry (k : Nat) (e : SbEntry) (d : Device) : Device :=
  { d with serve := { d.serve with table := tabSet {} d.serve.table k e } }

/-- Change the entry of slot `k`. -/
def modSbEntry (k : Nat) (f : SbEntry → SbEntry) (d : Device) : Device := setSbEntry k (f (sbEntry d k)) d

/-- Replace the running SEQ_STEP. -/
def setServing (v : Option Serving) (d : Device) : Device := { d with serve := { d.serve with serving := v } }

/-- Flush pages of a step that commits nothing return to the free list in FLUSH order (07 R197, R216). -/
def returnFlush (v : Serving) (d : Device) : Device := forEach v.flush (fun f d => forEach f.2 pushPage d) d

/-- The command of queue `q` leaves the Step Builder: a step under way commits nothing (07 R216), a waiting command is
removed (08 R251). -/
def leaveBuilder (q : Nat) (d : Device) : Device :=
  let d := match d.serve.serving with
    | some v => if v.queue == q then d |> returnFlush v |> setServing none else d
    | none => d
  { d with serve := { d.serve with waiting := d.serve.waiting.filter (· != q) } }

end Sys2Proof.Machine
end

