-- ==== Sys2Proof/Machine/Queue.lean ====
section
/-! DEFINITION. Queues, completions, ownership, and the ending of a command (08 R221 to R230, R247, R255; 03 R80,
R82, R92; 04 R118). -/
namespace Sys2Proof.Machine

/-! Queues. -/

/-- The Cloakroom's hold on queue `q`. -/
def queueOf (d : Device) (q : Nat) : Queue := tabGet {} d.cloak.queues q

/-- Replace the Cloakroom's hold on queue `q`. -/
def setQueue (q : Nat) (v : Queue) (d : Device) : Device :=
  { d with cloak := { d.cloak with queues := tabPut q v d.cloak.queues } }

/-- Change the Cloakroom's hold on queue `q`. -/
def modQueue (q : Nat) (f : Queue → Queue) (d : Device) : Device := setQueue q (f (queueOf d q)) d

/-- The command in flight on queue `q`. -/
def cmdOf (d : Device) (q : Nat) : Option Command := (queueOf d q).cmd

/-- Change the command in flight on queue `q`. -/
def modCmd (q : Nat) (f : Command → Command) (d : Device) : Device :=
  modQueue q (fun v => { v with cmd := v.cmd.map f }) d

/-- Queues with a command in flight, ascending. -/
def busyQueues (d : Device) : List Nat := (d.cloak.queues.filter (fun e => e.2.cmd.isSome)).map (·.1)

/-- The opcode of the command in flight on `q`, 0 where none is (08 Table 8.1). -/
def cmdOp (d : Device) (q : Nat) : Nat :=
  match cmdOf d q with
  | some c => leField c.desc 0 1
  | none => 0

/-- Ring entries of queue `q` (08 R222). -/
def ringSize (d : Device) (q : Nat) : Nat := 2 ^ fld d (CK_Q_CFG q) 20 16

/-- Base of the submission ring (08 Table 8.9). -/
def sqBase (d : Device) (q : Nat) : Nat := rd d (CK_Q_SQ_BASE_LO q) + rd d (CK_Q_SQ_BASE_HI q) * 2 ^ 32

/-- Base of the completion ring (08 Table 8.9). -/
def cqBase (d : Device) (q : Nat) : Nat := rd d (CK_Q_CQ_BASE_LO q) + rd d (CK_Q_CQ_BASE_HI q) * 2 ^ 32

/-- The queue is enabled (08 Table 8.13). -/
def queueEnabled (d : Device) (q : Nat) : Bool := rbit d (CK_Q_CFG q) 0

/-- The ticket of the next command of queue `q` (08 R225). -/
def ticketOf (d : Device) (q : Nat) : Nat := q + rd d (CK_Q_CMDSEQ q) % 2 ^ 19 * 2 ^ 13

/-- Is there room in the completion ring (08 R226)? -/
def cqRoom (d : Device) (q : Nat) : Bool :=
  (fld d (CK_Q_CQ_TAIL q) 15 0 + 1) % ringSize d q != rd d (CK_Q_CQ_HEAD q) % ringSize d q

/-- Is a completion status an error (08 Table 8.3)? -/
def statusIsError (st : Nat) : Bool :=
  st == 0x50 || st == 0x31 || st == 0x22 || st == 0x20 || st == 0x21 || st == 0x10 || st == 0x11 ||
    st == 0x12 || st == 0x13 || st == 0x14 || st == 0x40

/-- The highest execution status that applies to a command (08 R229, Table 8.3), with DETAIL0 and DETAIL1. -/
def execStatus (c : Command) : Nat × Nat × Nat :=
  if c.killed then (0x31, 0, 0)
  else match c.overrun with
    | some seg => (0x22, seg, 0)
    | none =>
      if c.withheld then (0x20, 0, 0)
      else if c.corrupt then (0x21, c.corruptWrites, c.corruptSlot)
      else if c.preempted then (0x30, c.committed, 0)
      else if c.swapped then (0x32, 0, 0)
      else if c.flagged then (0x01, 0, 0)
      else (0x00, c.detail.1, c.detail.2)

/-- The 32 bytes of a completion (08 Table 8.2). -/
def completionBytes (q : Nat) (c : Command) (phase : Bool) (st d0 d1 endBeat : Nat) : List Byte :=
  leBytes 4 c.ticket ++ sliceBytes c.desc 4 4 ++ leBytes 1 st ++
  leBytes 1 ((if phase then 1 else 0) + (if c.strictLost then 2 else 0) + (if c.aged then 4 else 0) +
    (if c.starved then 8 else 0)) ++
  leBytes 2 q ++ leBytes 4 d0 ++ leBytes 4 d1 ++
  leBytes 4 (min (endBeat - c.startBeat) (2 ^ 32 - 1)) ++ leBytes 8 endBeat

/-- A ring or command target: host memory when `loc` is false, device memory otherwise. -/
def ringPut (loc : Bool) (a : Nat) (bs : List Byte) (d : Device) : Device :=
  if loc then memPut a bs d else hostPut a bs d

/-- The queue's vector is raised and the coalescing count restarts (08 R255). -/
def queueVector (q : Nat) (d : Device) : Device :=
  d |> modQueue q (fun v => { v with uncoalesced := 0 }) |> raiseIrq (CK_Q_IRQ q)

/-- Coalescing of one completion (08 R255). -/
def coalesce (q : Nat) (now : Bool) (d : Device) : Device :=
  if rbit d (CK_Q_IRQ q) 11 then
    let n := (queueOf d q).uncoalesced + 1
    if now || decide (max 1 (fld d (CK_Q_IRQ q) 23 16) ≤ n) then queueVector q d
    else modQueue q (fun v => { v with uncoalesced := n, coalBeat := if v.uncoalesced == 0 then d.clock.beat else v.coalBeat }) d
  else d

/-- A queue halts with a status (08 R230). -/
def haltQueue (q st : Nat) (d : Device) : Device :=
  d |> setBit (CK_Q_STATUS q) 2 true |> setFld (CK_Q_STATUS q) 15 8 st

/-- COMPLETION_WRITE (08 R226, R228, R230, R255) for command `c` of queue `q`: the completion is written at CQ_TAIL,
CQ_TAIL, SQ_HEAD and CK_Q_CMDSEQ advance, the queue halts on an error if it must. -/
def writeCompletion (q : Nat) (c : Command) (st d0 d1 endBeat : Nat) (d : Device) : Device :=
  let size := ringSize d q
  let tail := fld d (CK_Q_CQ_TAIL q) 15 0
  let phase := rbit d (CK_Q_CQ_TAIL q) 16
  let d := ringPut (rbit d (CK_Q_CFG q) 5) (cqBase d q + tail * 32) (completionBytes q c phase st d0 d1 endBeat) d
  let wrap := tail + 1 == size
  let d := wr (CK_Q_CQ_TAIL q) ((if wrap then 0 else tail + 1) + (if phase != wrap then 2 ^ 16 else 0)) d
  let d := addWrap (CK_Q_CMDSEQ q) 1 d
  let d := wr (CK_Q_SQ_HEAD q) ((rd d (CK_Q_SQ_HEAD q) + 1) % size) d
  let d := if statusIsError st && rbit d (CK_Q_CFG q) 3 then haltQueue q st d else d
  coalesce q (bitOf (leField c.desc 1 1) 0 || statusIsError st || c.starved) d

/-! Ownership (03 R80). -/

/-- Does the command of queue `q` own Glasshouse and cluster `p`? The OWNER field holds ticket bits [12:0], the
queue number (08 R225). -/
def owns (d : Device) (q p : Nat) : Bool := rbit d (GH_STATUS p) 29 && fld d (GH_STATUS p) 28 16 == q

/-- The pavilions that the command of queue `q` owns, ascending. -/
def ownedBy (d : Device) (q : Nat) : List Nat := (List.range (pavCount d)).filter (owns d q)

/-- The queue whose command owns pavilion `p`. -/
def ownerOf (d : Device) (p : Nat) : Option Nat :=
  if rbit d (GH_STATUS p) 29 then some (fld d (GH_STATUS p) 28 16) else none

/-- The pavilion `p`. -/
def pavOf (d : Device) (p : Nat) : Pavilion := tabGet {} d.comp.pavs p

/-- Change pavilion `p`. -/
def modPav (p : Nat) (f : Pavilion → Pavilion) (d : Device) : Device :=
  { d with comp := { d.comp with pavs := tabMod {} d.comp.pavs p f } }

/-- The weight registers and the accumulator store as a command finds them (02 R39): zero where a KILL zeroed them and nothing
was written since, and otherwise of a content that the device does not promise, which is free. -/
def forgetArray (n : Nat) (v : Pavilion) : Pavilion :=
  if v.era.isNone && v.acc.isEmpty && v.active.rows.isEmpty && v.shadow.rows.isEmpty then v
  else { v with acc := [], active := {}, shadow := {}, swapDue := false, era := some n }

/-- The command of queue `q` takes pavilion `p`: nothing of its array is held from an earlier command (02 R39), and the
cluster's fences are zeroed (04 R111). -/
def takePavilion (q p : Nat) (d : Device) : Device :=
  let d := d |> setBit (GH_STATUS p) 29 true |> setFld (GH_STATUS p) 28 16 q
    |> setBit (KS_STATUS p) 29 true |> setFld (KS_STATUS p) 28 16 q
    |> wr (KS_EXC_INFO p) 0 |> wr (KS_EXC_PC p) 0 |> modPav p (forgetArray d.freeCtr) |> nextFree
  forEach (List.range 1024) (fun n d => wr (KS_FENCE p n) 0 d) d

/-- Glasshouse and cluster `p` become unowned. -/
def freePavilion (p : Nat) (d : Device) : Device :=
  d |> setBit (GH_STATUS p) 29 false |> setFld (GH_STATUS p) 28 16 0
    |> setBit (KS_STATUS p) 29 false |> setFld (KS_STATUS p) 28 16 0

/-- Pool (target `g`, source `s`) closes; rows in flight through it will be discarded (03 R82). -/
def closePool (g s : Nat) (d : Device) : Device :=
  let d := wr (GH_POOL_CFG g s) 0 d
  { d with comp := { d.comp with
      flights := d.comp.flights.map (fun r =>
        if r.target == g && r.source == s then { r with poolClosed := true } else r) } }

/-- Every pool of target `g` closes (03 R82). -/
def closePools (g : Nat) (d : Device) : Device := forEach (List.range 11) (fun s d => closePool g s d) d

/-- The cluster `p`. -/
def clusterOf (d : Device) (p : Nat) : Cluster := tabGet {} d.comp.clusters p

/-- Change cluster `p`. -/
def modCluster (p : Nat) (f : Cluster → Cluster) (d : Device) : Device :=
  { d with comp := { d.comp with clusters := tabMod {} d.comp.clusters p f } }

/-- Thread `t` of core `c` of cluster `p`. -/
def threadOf (d : Device) (p c t : Nat) : Thread := tabGet {} (clusterOf d p).threads (c * 16 + t)

/-- Replace thread `t` of core `c` of cluster `p`; KS_THREADS_c follows its running state (04 Table 4.9). -/
def setThread (p c t : Nat) (th : Thread) (d : Device) : Device :=
  d |> modCluster p (fun k => { k with threads := tabPut (c * 16 + t) th k.threads })
    |> setBit (KS_THREADS p c) t th.running

/-- Thread `k` (p * 64 + c * 16 + t) holds no LR reservation any more (04 R114). -/
def dropResv (k : Nat) (d : Device) : Device :=
  { d with mems := { d.mems with resv := d.mems.resv.filter (fun r => r.1 != k) } }

/-- The threads of the command of queue `q` on cluster `p` stop and their registers are zeroed (04 R118). -/
def stopThreads (q p : Nat) (d : Device) : Device :=
  forEach (List.range 64) (fun k d =>
    if (threadOf d p (k / 16) (k % 16)).queue == q then
      d |> setThread p (k / 16) (k % 16) {} |> dropResv (p * 64 + k)
    else d) d

/-- The step program of the command of queue `q`. -/
def stepOf (d : Device) (q : Nat) : Option StepRun := tabFind q d.comp.steps

/-- Replace the step program of queue `q`. -/
def setStep (q : Nat) (s : StepRun) (d : Device) : Device :=
  { d with comp := { d.comp with steps := tabPut q s d.comp.steps } }

/-- Change the step program of queue `q`, if it has one. -/
def modStep (q : Nat) (f : StepRun → StepRun) (d : Device) : Device :=
  match stepOf d q with
  | some s => setStep q (f s) d
  | none => d

/-- Queue `q` has no step program any more: its mover descriptors and the Icehouse reads that serve them are dropped, and it
leaves the Step Builder. What is already on its way goes on: a row to another Glasshouse arrives, where it is discarded and
counted if its pool has closed (03 R82, R84), and a write that an Icehouse holds becomes visible. DESIGN CHOICE (Assumption
97): 03 R92 says only that a mover stops at the next row boundary. -/
def dropStep (q : Nat) (d : Device) : Device :=
  let d := leaveBuilder q d
  { d with comp := { d.comp with
      steps := tabErase q d.comp.steps
      jobs := d.comp.jobs.filter (fun j => j.queue != q)
      ice := d.comp.ice.filter (fun r => r.queue != q || r.write.isSome) } }

/-! Flags at completion (02 R64). -/

/-- Has the command a raised flag that its pavilion's PV_FLAG_REPORT names (02 R64)? -/
def reportedFlag (d : Device) (ps : List Nat) : Bool :=
  ps.any (fun p => (pavOf d p).record &&& rd d (PV_FLAG_REPORT p) != 0)

/-- The command's record is copied to PV_FLAG_LAST of each pavilion it used (02 R64). -/
def recordFlags (ps : List Nat) (d : Device) : Device :=
  forEach ps (fun p d =>
    d |> wr (PV_FLAG_LAST p) (pavOf d p).record |> modPav p (fun v => { v with record := 0 })) d

/-! The end of a command. -/

/-- A command ends with a status: its pavilions become free and their pools close (03 R80, R82), its copy channel is
free, the completion is written (08 R224), a pausing queue is paused (08 R247). A run that Belvedere entered has no
submission entry and writes no completion. -/
def finishAt (q st d0 d1 endBeat : Nat) (d : Device) : Device :=
  match cmdOf d q with
  | none => d
  | some c =>
    let ps := ownedBy d q
    let d := recordFlags ps d
    let d := forEach ps (fun p d => d |> closePools p |> freePavilion p) d
    let d := dropStep q d
    let d := { d with cloak := { d.cloak with channels := d.cloak.channels.filter (fun e => e.2 != q) }
                      belv := { d.belv with sigs := d.belv.sigs.filter (fun r => r.queue != q) } }
    let pausing := (queueOf d q).pausing
    let d := modQueue q (fun v => { v with cmd := none, pausing := false }) d
    let d := applyIf pausing (setBit (CK_Q_STATUS q) 1 true) d
    let d := forEach (busyQueues d) (fun r d =>
      modCmd r (fun k => { k with fenceOn := k.fenceOn.filter (· != c.ticket) }) d) d
    if c.byBelvedere then d else writeCompletion q c st d0 d1 endBeat d

/-- A command ends now. -/
def finish (q st d0 d1 : Nat) (d : Device) : Device := finishAt q st d0 d1 d.clock.beat d

/-- A command ends with the highest execution status that applies to it (08 R229). -/
def finishExec (q : Nat) (d : Device) : Device :=
  match cmdOf d q with
  | none => d
  | some c => let r := execStatus c; finish q r.1 r.2.1 r.2.2 d

/-- Pavilion `p`'s array, movers and walker stop for a killed command; the weight registers, the accumulator store
and the Hem registers are zeroed (02 R39, 03 R92). -/
def stopPavilion (p : Nat) (d : Device) : Device :=
  d |> modPav p (fun v => { record := v.record, golden := v.golden, goldenNext := v.goldenNext,
                            goldenDue := v.goldenDue, goldenSince := v.goldenSince, releasePending := v.releasePending,
                            passedWaiting := v.passedWaiting })
    |> setBit (PV_SEG_STATUS p) 31 false

/-- A command is ended as a KILL ends it (03 R92, 04 R118): its pavilions stop, its Glasshouses are fenced and
scrubbed, the rows that their crossings hold are discarded, its threads stop and its local memories are cleared; it completes
once the fences are released. -/
def beginKill (q : Nat) (d : Device) : Device :=
  match cmdOf d q with
  | none => d
  | some c =>
    if c.ending then d else
    let ps := ownedBy d q
    let d := dropStep q d
    let d : Device := { d with comp := { d.comp with held := d.comp.held.filter (fun r => r.queue != q) } }
    let d := forEach ps (fun p d =>
      d |> stopPavilion p |> closePools p
        |> setBit (GH_STATUS p) 1 true |> setBit (GH_STATUS p) 0 true
        |> stopThreads q p |> setBit (KS_STATUS p) 2 false |> setBit (KS_STATUS p) 1 true
        |> modCluster p (fun k => { k with loading := none })) d
    let d := modCmd q (fun c => { c with ending := true }) d
    if ps.isEmpty then finishExec q d else d

/-- Every fence of an ending command is released: it completes (08 R251). -/
def finishEnded (q : Nat) (d : Device) : Device :=
  match cmdOf d q with
  | some c =>
    if c.ending && (ownedBy d q).all (fun p => !rbit d (GH_STATUS p) 1 && !rbit d (KS_STATUS p) 1) then finishExec q d
    else d
  | none => d

/-- A command that has consumed failed data, or had a write discarded, never completes DONE (03 R84, R88). -/
def withhold (q : Nat) (d : Device) : Device := modCmd q (fun c => { c with withheld := true }) d

/-- The running segment on pavilion `p`. -/
def runOn (d : Device) (p : Nat) : Option SegRun :=
  match (pavOf d p).run with
  | some (q, seg) =>
    match stepOf d q with
    | some s => s.segs.find? (fun r => r.seg == seg && bitOf r.pavs p)
    | none => none
  | none => none

/-- The running segment `id` of the step of queue `q`. -/
def segRunId (d : Device) (q id : Nat) : Option SegRun :=
  match stepOf d q with
  | some s => s.segs.find? (fun r => r.id == id)
  | none => none

/-- Change the running segment `id` of the step of queue `q`. -/
def modSegRun (q id : Nat) (f : SegRun → SegRun) (d : Device) : Device :=
  modStep q (fun s => { s with segs := s.segs.map (fun r => if r.id == id then f r else r) }) d

/-- Is the step of queue `q` a Strict one? -/
def stepStrict (d : Device) (q : Nat) : Bool := ((stepOf d q).map (·.strict)).getD false

/-- Ticket of the command of queue `q`, as KCMD returns it (04 R96). -/
def ticketNow (d : Device) (q : Nat) : Nat := ((cmdOf d q).map (·.ticket)).getD 0

/-- The next identifier is taken. -/
def nextId (d : Device) : Device := { d with comp := { d.comp with nextJob := d.comp.nextJob + 1 } }

/-- STRICT_LOST of the command of queue `q` (05 R156). -/
def loseStrict (q : Nat) (d : Device) : Device :=
  match stepOf d q with
  | some s => if s.strict then modCmd q (fun c => { c with strictLost := true }) d else d
  | none => d

/-- A power or thermal emergency or a supply alert persists (05 R156, 17 Table 17.7). -/
def alertPersists (d : Device) : Bool := rbit d GT_STATUS 2 || rbit d GT_STATUS 3

/-- A Strict step meets an emergency: STRICT_LOST, if it is at or past its first beat (05 R156). -/
def runLosesStrict (q : Nat) (d : Device) : Device :=
  match stepOf d q with
  | some s => if s.started && decide (s.firstBeat ≤ d.clock.beat) then loseStrict q d else d
  | none => d

end Sys2Proof.Machine
end

