-- ==== Sys2Proof/Machine/Faults.lean ====
section
/-! DEFINITION. The assertion of a fault source: latch, log, episode, reaction (14 R380 to R386, R391). -/
namespace Sys2Proof.Machine

/-- The severity of a source (14 R381). -/
def severityOf (d : Device) (src : Nat) : Nat := fld d (BV_SEV (src / 16)) (2 * (src % 16) + 1) (2 * (src % 16))

/-- Does source `src` ever assert on this member (14 R381, 00 R5)? -/
def sourceExists (d : Device) (src : Nat) : Bool :=
  if src < 24 then decide (src % 8 < pavCount d)
  else if src < 36 then decide (src - 24 < iceCount d)
  else decide (src ≤ 85)

/-- The pavilions a Major reaction to a source stops (14 Table 14.1): those the source names, else `named`
(the pavilions of the segment for 65, the tested pavilion for 76, the sending pavilion for 82). -/
def stopUnits (src : Nat) (named : List Nat) : List Nat :=
  if src < 24 then [src % 8]
  else if src == 65 || src == 76 || src == 82 then named
  else []

/-- A fault log record (14 Table 14.10) is written at BV_LOG_HEAD. -/
def logRecord (src sev flags ticket detail : Nat) (d : Device) : Device :=
  let k := rd d BV_LOG_HEAD
  let words := [d.clock.beat % 2 ^ 32, d.clock.beat / 2 ^ 32 % 2 ^ 32, rd d CT_NS,
    src + sev * 2 ^ 8 + flags * 2 ^ 16, d.belv.episode % 2 ^ 32, ticket, detail % 2 ^ 32, detail / 2 ^ 32 % 2 ^ 32]
  let d := forEach (List.range 8) (fun i d => wr (BV_LOG k i) (words.getD i 0) d) d
  wr BV_LOG_HEAD ((k + 1) % 2048) d

/-- The state of pavilion `p` in BV_PAV_STATE: 0 IN_SERVICE, 1 STOPPED, 2 SUSPECT, 3 FAILED (14 Table 14.9). -/
def pavState (d : Device) (p : Nat) : Nat := fld d BV_PAV_STATE (2 * p + 1) (2 * p)

/-- Pavilion `p` takes a state. -/
def setPavState (p v : Nat) (d : Device) : Device := setFld BV_PAV_STATE (2 * p + 1) (2 * p) v d

/-- PAVILION_STOP (14 R385, R386): the command that owns pavilion `p` is withheld and ended as a KILL ends it, a golden run
on it ends with no result, the pavilion goes to STOPPED, and Belvedere requests a golden run for it. A FAILED pavilion
stays FAILED. A release that waited for the ended run finds nothing to release. -/
def pavilionStop (p : Nat) (d : Device) : Device :=
  let d := match ownerOf d p with
    | some q => d |> withhold q |> beginKill q
    | none => d
  d |> applyIf (pavState d p != 3) (setPavState p 1)
    |> modPav p (fun v => { v with golden := none, goldenDue := true, passedWaiting := false, releasePending := false })

/-- The command of queue `x.1` with ticket `x.2` is withheld, if it is still in flight. -/
def withholdCmd (x : Nat × Nat) (d : Device) : Device :=
  match cmdOf d x.1 with
  | some c => applyIf (c.ticket == x.2) (withhold x.1) d
  | none => d

/-- The command in flight of queue `q`, by queue and ticket. -/
def cmdName (d : Device) (q : Nat) : Option (Nat × Nat) := (cmdOf d q).map (fun c => (q, c.ticket))

/-- The reaction to one error at a severity of Major or above (14 Table 14.2). -/
def majorReaction (e : EpisodeError) (d : Device) : Device :=
  d |> forEach e.cmds withholdCmd |> forEach e.pavs pavilionStop

/-- BV_RESTARTS counts a safe-state restart; more than RESTART_MAX within 10 s (250,000,000 beats) hold the device in
reset (14 R391). -/
def countRestart (d : Device) : Device :=
  let d := countUp BV_RESTARTS d
  let now := totalBeats d
  let began := now :: d.belv.began
  let recent := (began.filter (fun b => decide (now - b ≤ 250000000))).length
  { d with belv := { d.belv with
      began := began
      safe := if decide (fld d BV_CTRL 3 1 < recent) then .held else .restarting } }

/-- An error line asserts (14 R380, R383 to R385): `ticket` names the command in the log record, `queues` are the commands the error affects beyond the owners of
the units it stops, `named` the pavilions a source without its own unit names, `detail` the record's DETAIL. -/
def assertFault (src ticket : Nat) (queues named : List Nat) (detail : Nat) (d : Device) : Device :=
  if !sourceExists d src then d else
  let sev := severityOf d src
  let rising := !d.belv.status.getLsbD src
  let wasOpen := rbit d BV_EPISODE 31
  let oldSev := fld d BV_EPISODE 30 29
  let eff := if wasOpen then max oldSev sev else sev
  let pavs := stopUnits src named
  let err : EpisodeError := { source := src, cmds := queues.filterMap (cmdName d), pavs := pavs }
  let d := { d with belv := { d.belv with status := d.belv.status ||| (1 <<< src) } }
  let d := if wasOpen then
      { d with belv := { d.belv with errors := d.belv.errors ++ [err] } }
        |> countUp BV_MERGED |> setFld BV_EPISODE 30 29 eff
    else
      let d := { d with belv := { d.belv with episode := (d.belv.episode + 1) % 2 ^ 32, errors := [err] } }
      wr BV_EPISODE (2 ^ 31 + sev * 2 ^ 29 + src * 2 ^ 16 + d.belv.episode % 2 ^ 16) d
  let d := logRecord src eff ((if wasOpen then 1 else 2) + (if wasOpen && decide (oldSev < sev) then 4 else 0))
    ticket detail d
  let d := if rising && (eff == 1 || eff == 2) then raiseIrq BV_IRQ d else d
  let d := if eff == 3 && (!wasOpen || oldSev != 3) then wr BV_LAST_CRIT (fld d BV_EPISODE 22 16) d else d
  let d := if eff == 2 then
      if wasOpen && decide (oldSev < 2) then forEach d.belv.errors majorReaction d else majorReaction err d
    else d
  if sev == 3 && d.belv.safe == .restarting then countRestart d else d

/-- An error line asserts; the log record names the first command that the error affects. -/
def raiseFault (src : Nat) (queues named : List Nat) (detail : Nat) (d : Device) : Device :=
  let ticket := match queues ++ (stopUnits src named).filterMap (ownerOf d) with
    | q :: _ => match cmdOf d q with
      | some c => c.ticket
      | none => 0
    | [] => 0
  assertFault src ticket queues named detail d

/-- The fault sources of an uncorrectable Glasshouse row (03 R88): the row and word are recorded in GH_ECC_ADDR, source
8 + g is raised, the consuming command is withheld. `ecc` is the word found uncorrectable. -/
def rowUncorrectable (g row word : Nat) (remote : Bool) (queues : List Nat) (d : Device) : Device :=
  let d := wr (GH_ECC_ADDR g) (2 ^ 31 + (if remote then 2 ^ 30 else 0) + word % 64 * 2 ^ 16 + row) d
  let d := forEach queues withhold d
  raiseFault (8 + g) queues [] (rd d (GH_ECC_ADDR g)) d

/-- The queues and, where it is another, the owner of Glasshouse `g`. -/
def withOwner (d : Device) (g : Nat) (queues : List Nat) : List Nat :=
  match ownerOf d g with
  | some q => if queues.contains q then queues else queues ++ [q]
  | none => queues

/-- CREDIT_VIOLATION (03 R84, R80): counted in GH_CREDIT_ERR of Glasshouse `counted`, reported on source 70, and the
command never completes DONE. `kind` adds DETAIL bits 32 to 34 (14 Table 14.12). A Major reaction withholds the
commands that consume the target's rows too. -/
def creditViolation (counted source target row kind : Nat) (queues : List Nat) (d : Device) : Device :=
  let d := countUp (GH_CREDIT_ERR counted) d
  let d := forEach queues withhold d
  raiseFault 70 (withOwner d target queues) [] (source + target * 2 ^ 8 + row * 2 ^ 16 + kind * 2 ^ 32) d

end Sys2Proof.Machine
end

