-- ==== Sys2Proof/Machine/Num.lean ====
section
/-! DEFINITION. Number formats: exact dyadic values, rounding into a float format, float arithmetic (02 R42 to R50,
R52). -/
namespace Sys2Proof.Machine

/-- A value of a float format: NaN, an infinity, or (-1)^neg * m * 2^e with its sign kept at zero. -/
inductive FVal where
  /-- NaN; the device propagates no payload and no sign (02 R47). -/
  | nan
  /-- An infinity. -/
  | inf (neg : Bool)
  /-- A finite value. -/
  | fin (neg : Bool) (m : Nat) (e : Int)
  deriving DecidableEq, Repr

/-- How a format writes infinity and NaN (02 Table 2.3). -/
inductive Specials where
  /-- Exponent all ones: infinity with mantissa 0, NaN otherwise. -/
  | ieee
  /-- E4M3: no infinity, S.1111.111 is NaN. -/
  | e4m3
  /-- MX elements below 8 bits: none. -/
  | none
  deriving DecidableEq, Repr

/-- A float format (02 Table 2.3). -/
structure FFmt where
  /-- Exponent bits -/
  eb : Nat
  /-- Mantissa bits -/
  mb : Nat
  /-- Bias -/
  bias : Nat
  /-- Specials -/
  sp : Specials
  /-- Canonical NaN written -/
  nan : Nat
  deriving DecidableEq, Repr

/-- FP32. -/
def fp32 : FFmt := ⟨8, 23, 127, .ieee, 0x7FC00000⟩
/-- FP64, of the Kiosk cores (04 Table 4.1). -/
def fp64 : FFmt := ⟨11, 52, 1023, .ieee, 0x7FF8000000000000⟩
/-- BF16. -/
def bf16 : FFmt := ⟨8, 7, 127, .ieee, 0x7FC0⟩
/-- FP16. -/
def fp16 : FFmt := ⟨5, 10, 15, .ieee, 0x7E00⟩
/-- FP8 E4M3. -/
def e4m3 : FFmt := ⟨4, 3, 7, .e4m3, 0x7F⟩
/-- FP8 E5M2. -/
def e5m2 : FFmt := ⟨5, 2, 15, .ieee, 0x7E⟩
/-- MX element E2M3. -/
def e2m3 : FFmt := ⟨2, 3, 1, .none, 0⟩
/-- MX element E3M2. -/
def e3m2 : FFmt := ⟨3, 2, 3, .none, 0⟩
/-- MX element E2M1. -/
def e2m1 : FFmt := ⟨2, 1, 1, .none, 0⟩

/-- Width in bits. -/
def FFmt.width (f : FFmt) : Nat := 1 + f.eb + f.mb

/-- The code of the largest finite magnitude (02 Table 2.3). -/
def FFmt.maxCode (f : FFmt) : Nat :=
  match f.sp with
  | .ieee => (2 ^ f.eb - 1) * 2 ^ f.mb - 1
  | .e4m3 => 2 ^ (f.eb + f.mb) - 2
  | .none => 2 ^ (f.eb + f.mb) - 1

/-- The exponent of the least significant bit of a subnormal. -/
def FFmt.qmin (f : FFmt) : Int := 1 - (f.bias : Int) - (f.mb : Int)

/-- The value of a code (02 Table 2.3; subnormals honoured, R45). -/
def decodeF (f : FFmt) (code : Nat) : FVal :=
  let neg := bitOf code (f.eb + f.mb)
  let ex := fieldOf code (f.eb + f.mb - 1) f.mb
  let man := code % 2 ^ f.mb
  let special := match f.sp with
    | .ieee => ex == 2 ^ f.eb - 1
    | .e4m3 => ex == 2 ^ f.eb - 1 && man == 2 ^ f.mb - 1
    | .none => false
  if special then
    if f.sp == .ieee && man == 0 then .inf neg else .nan
  else if ex == 0 then .fin neg man f.qmin
  else .fin neg (man + 2 ^ f.mb) (f.qmin + (ex : Int) - 1)

/-- Rounding of a magnitude. -/
inductive Rnd where
  /-- To nearest, ties to even. -/
  | rne
  /-- Toward zero. -/
  | rtz
  /-- Down. -/
  | rdn
  /-- Up. -/
  | rup
  /-- To nearest, ties away. -/
  | rmm
  /-- Stochastic with the word W (02 R52). -/
  | stochastic (w : Nat)
  deriving DecidableEq, Repr

/-- Round m / 2^s to an integer; the second part says the result is inexact. -/
def roundShift (r : Rnd) (neg : Bool) (m s : Nat) : Nat × Bool :=
  let k := m / 2 ^ s
  let rem := m % 2 ^ s
  let up := match r with
    | .rne => decide (2 ^ s < 2 * rem) || (2 * rem == 2 ^ s && k % 2 == 1)
    | .rtz => false
    | .rdn => neg && rem != 0
    | .rup => !neg && rem != 0
    | .rmm => decide (2 ^ s ≤ 2 * rem) && rem != 0
    | .stochastic w => decide (w < rem * 2 ^ 32 / 2 ^ s)
  (if up then k + 1 else k, rem != 0)

/-- Round m * 2^e to a multiple of 2^q, as the multiple. -/
def roundQuantum (r : Rnd) (neg : Bool) (m : Nat) (e q : Int) : Nat × Bool :=
  if q ≤ e then (m * 2 ^ (e - q).toNat, false) else roundShift r neg m (q - e).toNat

/-- What rounding a finite value into a format gives. -/
structure Rounded where
  /-- The magnitude's code, with exponent unbounded above -/
  code : Nat
  /-- Inexact -/
  inexact : Bool
  /-- Beyond the largest finite magnitude (02 R48: decided after rounding) -/
  overflow : Bool
  /-- A non-zero value became zero -/
  vanished : Bool
  /-- Below the normal range after rounding with unbounded exponent -/
  tiny : Bool
  deriving DecidableEq, Repr

/-- Round a finite magnitude into a format. -/
def roundMag (f : FFmt) (r : Rnd) (neg : Bool) (m : Nat) (e : Int) : Rounded :=
  if m = 0 then ⟨0, false, false, false, false⟩ else
  let top : Int := (Nat.log2 m : Int) + e
  let q := max (top - f.mb) f.qmin
  let k := roundQuantum r neg m e q
  let code := (q - f.qmin).toNat * 2 ^ f.mb + k.1
  let free := roundQuantum r neg m e (top - f.mb)
  let freeTop : Int := (Nat.log2 (max free.1 1) : Int) + (top - f.mb)
  ⟨code, k.2, decide (f.maxCode < code), k.1 == 0, decide (freeTop < f.qmin + f.mb)⟩

/-- A code with its sign. -/
def withSign (f : FFmt) (neg : Bool) (mag : Nat) : Nat := if neg then mag + 2 ^ (f.eb + f.mb) else mag

/-- The code of infinity of an IEEE-style format. -/
def infCode (f : FFmt) (neg : Bool) : Nat := withSign f neg ((2 ^ f.eb - 1) * 2 ^ f.mb)

/-- A value rounded to nearest even into an IEEE-style format, overflow to infinity (02 R48, R56). -/
def encodeRne (f : FFmt) (v : FVal) : Nat :=
  match v with
  | .nan => f.nan
  | .inf neg => infCode f neg
  | .fin neg m e =>
    let r := roundMag f .rne neg m e
    if r.overflow then infCode f neg else withSign f neg r.code

/-! Exact arithmetic. -/

/-- The integer m with sign at exponent `q ≤ e`. -/
def signedAt (neg : Bool) (m : Nat) (e q : Int) : Int :=
  let v : Int := (m * 2 ^ (e - q).toNat : Nat)
  if neg then -v else v

/-- An integer multiple of 2^q as a value; `zneg` is the sign of an exact zero. -/
def ofSigned (zneg : Bool) (v q : Int) : FVal :=
  if v = 0 then .fin zneg 0 q else .fin (decide (v < 0)) v.natAbs q

/-- The exact sum; +0 from opposite signs (02 R47: NaN from opposite infinities). -/
def addF (a b : FVal) : FVal :=
  match a, b with
  | .nan, _ => .nan
  | _, .nan => .nan
  | .inf x, .inf y => if x == y then .inf x else .nan
  | .inf x, _ => .inf x
  | _, .inf y => .inf y
  | .fin na ma ea, .fin nb mb eb =>
    let q := min ea eb
    ofSigned (na && nb) (signedAt na ma ea q + signedAt nb mb eb q) q

/-- The exact product (02 R47: infinity times zero is NaN). -/
def mulF (a b : FVal) : FVal :=
  match a, b with
  | .nan, _ => .nan
  | _, .nan => .nan
  | .inf x, .inf y => .inf (x != y)
  | .inf x, .fin y m _ => if m = 0 then .nan else .inf (x != y)
  | .fin x m _, .inf y => if m = 0 then .nan else .inf (x != y)
  | .fin x ma ea, .fin y mb eb => .fin (x != y) (ma * mb) (ea + eb)

/-- The negated value. -/
def negF (a : FVal) : FVal :=
  match a with
  | .nan => .nan
  | .inf x => .inf (!x)
  | .fin x m e => .fin (!x) m e

/-- Is the value NaN? -/
def isNanF (a : FVal) : Bool := a == .nan

/-- Is the value an infinity? -/
def isInfF (a : FVal) : Bool :=
  match a with
  | .inf _ => true
  | _ => false

/-- Is the value zero? -/
def isZeroF (a : FVal) : Bool :=
  match a with
  | .fin _ m _ => m == 0
  | _ => false

/-- The sign of a value. -/
def negSign (a : FVal) : Bool :=
  match a with
  | .nan => false
  | .inf x => x
  | .fin x _ _ => x

/-- Numeric comparison of two values that are not NaN; +0 equals -0. -/
def cmpF (a b : FVal) : Ordering :=
  match a, b with
  | .inf x, .inf y => if x == y then .eq else if x then .lt else .gt
  | .inf x, _ => if x then .lt else .gt
  | _, .inf y => if y then .gt else .lt
  | .fin na ma ea, .fin nb mb eb =>
    let q := min ea eb
    compare (signedAt na ma ea q) (signedAt nb mb eb q)
  | _, _ => .eq

/-- Less, of values that are not NaN. -/
def ltF (a b : FVal) : Bool := cmpF a b == .lt

/-- The value of an integer. -/
def ofIntF (v : Int) : FVal := ofSigned false v 0

/-- A value scaled by 2^k, exactly. -/
def scaleF (a : FVal) (k : Int) : FVal :=
  match a with
  | .fin n m e => .fin n m (e + k)
  | v => v

/-- The quotient of two finite values with 2^-extra relative truncation and a sticky bit: good for one rounding. -/
def divMag (ma mb : Nat) (ea eb : Int) (bits : Nat) : Nat × Int :=
  let k := bits + Nat.log2 (max mb 1) + 2
  let n := ma * 2 ^ k
  (2 * (n / mb) + (if n % mb = 0 then 0 else 1), ea - eb - (k : Int) - 1)

/-- The square root of m * 2^e with a sticky bit. -/
def sqrtMag (m : Nat) (e : Int) (bits : Nat) : Nat × Int :=
  let odd := e % 2 ≠ 0
  let m := if odd then 2 * m else m
  let e := if odd then e - 1 else e
  let n := m * 2 ^ (2 * (bits + 2))
  let r := Nat.sqrt n
  (2 * r + (if r * r = n then 0 else 1), e / 2 - (bits : Int) - 2 - 1)

/-- Round a value to an integer; infinities and NaN answer none. -/
def toIntF (r : Rnd) (a : FVal) : Option Int :=
  match a with
  | .fin neg m e =>
    let k := (roundQuantum r neg m e 0).1
    some (if neg then -(k : Int) else k)
  | _ => none

end Sys2Proof.Machine
end

