-- ==== Sys2Proof/Machine/Flags.lean ====
section
/-! DEFINITION. Arithmetic flags and the computations that raise them: float operations, conversions, integer
saturation, requantisation (02 R43, R47 to R53, R56, Table 2.8). -/
namespace Sys2Proof.Machine

/-- NAN_SCALE, bit 0 (02 Table 2.8). -/
abbrev fNanScale : Nat := 0x01
/-- ACC_SAT, bit 1. -/
abbrev fAccSat : Nat := 0x02
/-- REQ_SAT, bit 2. -/
abbrev fReqSat : Nat := 0x04
/-- MX_CLAMP, bit 3. -/
abbrev fMxClamp : Nat := 0x08
/-- FP_UNF, bit 4. -/
abbrev fFpUnf : Nat := 0x10
/-- FP_OVF, bit 5. -/
abbrev fFpOvf : Nat := 0x20
/-- NAN_GEN, bit 6. -/
abbrev fNanGen : Nat := 0x40
/-- NAN_IN, bit 7. -/
abbrev fNanIn : Nat := 0x80

/-- The flag bit `f` when `c` holds. -/
def flagIf (c : Bool) (f : Nat) : Nat := if c then f else 0

/-- An FP32 operation's result code and flags from its operands and exact result (02 R47, R56, R60). -/
def opResult (ins : List FVal) (exact : FVal) : Nat × Nat :=
  let nanIn := ins.any isNanF
  let code := encodeRne fp32 exact
  let ovf := match exact with
    | .fin neg m e => (roundMag fp32 .rne neg m e).overflow
    | _ => false
  (code, flagIf nanIn fNanIn ||| flagIf (!nanIn && isNanF exact) fNanGen ||| flagIf ovf fFpOvf)

/-- Conversion of one value to a float format other than an MX element (02 R48, Table 2.4): code and flags. -/
def convertFloat (f : FFmt) (satfin : Bool) (r : Rnd) (v : FVal) : Nat × Nat :=
  match v with
  | .nan => (f.nan, 0)
  | .inf neg =>
    match f.sp with
    | .ieee => (infCode f neg, 0)
    | _ => (if satfin then withSign f neg f.maxCode else f.nan, 0)
  | .fin neg m e =>
    let k := roundMag f r neg m e
    if k.overflow then
      (if satfin then withSign f neg f.maxCode
       else match f.sp with
        | .ieee => infCode f neg
        | _ => f.nan, fFpOvf)
    else (withSign f neg k.code, flagIf k.vanished fFpUnf)

/-- Conversion of one scaled value to an MX element: saturates to the largest element (02 R48, R49). -/
def convertElement (f : FFmt) (r : Rnd) (v : FVal) : Nat × Nat :=
  match v with
  | .fin neg m e =>
    let k := roundMag f r neg m e
    if k.overflow then (withSign f neg f.maxCode, fFpOvf) else (withSign f neg k.code, flagIf k.vanished fFpUnf)
  | _ => (0, 0)

/-- floor(log2 |v|) of a non-zero finite value. -/
def floorLog2 (v : FVal) : Int :=
  match v with
  | .fin _ m e => (Nat.log2 m : Int) + e
  | _ => 0

/-- The larger magnitude. -/
def maxMag (a b : FVal) : FVal :=
  match a, b with
  | .fin _ ma ea, .fin _ mb eb => if ltF (.fin false ma ea) (.fin false mb eb) then .fin false mb eb else .fin false ma ea
  | _, _ => a

/-- emax of an MX element kind (02 R49). -/
def mxEmax (f : FFmt) : Int := if f == e4m3 then 8 else if f == e5m2 then 15 else if f == e3m2 then 4 else 2

/-- Quantise one MX block (02 R49): scale code, element codes, flags. `rs` gives the rounding of each element. -/
def convertBlock (f : FFmt) (vs : List (FVal × Rnd)) : Nat × List Nat × Nat :=
  if vs.any (fun v => isNanF v.1 || isInfF v.1) then (0xFF, vs.map (fun _ => 0), fNanIn)
  else
    let amax := vs.foldl (fun a v => maxMag a v.1) (.fin false 0 0)
    let e := if isZeroF amax then -127 else floorLog2 amax - mxEmax f
    let clamp := decide (e < -127)
    let e := if clamp then -127 else e
    let outs := vs.map (fun v => convertElement f v.2 (scaleF v.1 (-e)))
    ((e + 127).toNat, outs.map (·.1), outs.foldl (fun a o => a ||| o.2) (flagIf clamp fMxClamp))

/-- Saturate an integer into `w` bits; the second part says the value changed. -/
def satInt (w : Nat) (v : Int) : Int × Bool :=
  let r := clampInt (-(2 ^ (w - 1) : Nat)) ((2 ^ (w - 1) : Nat) - 1) v
  (r, r != v)

/-- Conversion to an integer of `w` bits (02 R50, R52): value and flags. -/
def convertInt (w : Nat) (r : Rnd) (v : FVal) : Int × Nat :=
  match v with
  | .nan => (0, fNanIn)
  | .inf neg => (if neg then -(2 ^ (w - 1) : Nat) else (2 ^ (w - 1) : Nat) - 1, fReqSat)
  | .fin neg m e =>
    let k := (roundQuantum r neg m e 0).1
    let s := satInt w (if neg then -(k : Int) else k)
    (s.1, flagIf s.2 fReqSat)

/-- p / 2^d rounded to nearest even (02 R51). -/
def divRne (p : Int) (d : Nat) : Int :=
  let q := p / (2 ^ d : Nat)
  let r := p % (2 ^ d : Nat)
  if 2 * r > (2 ^ d : Nat) ∨ (2 * r = (2 ^ d : Nat) ∧ q % 2 = 1) then q + 1 else q

/-- Requantisation parameters of one column (02 R51, 05 Table 5.8). -/
structure ReqParams where
  /-- Bias -/
  b : Int
  /-- Multiplier -/
  m : Int
  /-- Right shift -/
  s : Nat
  /-- Lower bound -/
  lo : Int
  /-- Upper bound -/
  hi : Int
  deriving DecidableEq, Repr

/-- Requantise one accumulator entry (02 R51, R52): value and flags; `w` is the stochastic word, if any. -/
def requantize (p : ReqParams) (w : Option Nat) (entry : Int) : Int × Nat :=
  let a := satInt 32 entry
  let prod := (a.1 + p.b) * p.m
  let d := 31 + p.s
  let r := match w with
    | none => divRne prod d
    | some word =>
      let f := (prod % (2 ^ d : Nat)) * (2 ^ 32 : Nat) / (2 ^ d : Nat)
      if (word : Int) < f then prod / (2 ^ d : Nat) + 1 else prod / (2 ^ d : Nat)
  let y := min (max r p.lo) p.hi
  (y, flagIf a.2 fAccSat ||| flagIf (y != r) fReqSat)

end Sys2Proof.Machine
end

