-- ==== Sys2Proof/Machine/RegAccess.lean ====
section
/-! DEFINITION. Register accesses by access type (00 R10, R12; 15 R417, R494): what a stored register reads as, what a
write leaves in it, and the clearing of an RC field. -/
namespace Sys2Proof.Machine

/-- Does the location hold a register on this member: the units of an absent pavilion, and the pool of a Glasshouse to
itself, are unimplemented (03 R94, 15 R417)? -/
def regPresent (d : Device) (off : Nat) : Bool :=
  let block := off / 0x1000000
  let unit := off % 0x1000000 / 0x200000
  let inner := off % 0x200000
  if block == 2 || block == 3 || block == 4 then
    decide (unit < pavCount d) &&
      !(block == 3 && decide (0x100 ≤ inner) && decide (inner < 0x1B0) && (inner - 0x100) / 16 == unit)
  else true

/-- The register at a BAR0 offset, where one is implemented. -/
def regAt (d : Device) (off : Nat) : Option RegFam := if regPresent d off then regFam? off else none

/-- What a stored register reads as: WO and reserved bits read zero (00 Table 0.4). -/
def storedRead (d : Device) (off : Nat) : Nat :=
  match regAt d off with
  | some f => rd d off &&& (f.rw ||| f.w1c ||| f.w1s ||| f.rc ||| f.ro)
  | none => 0

/-- The RC fields of a register clear after a read (00 R10). -/
def clearRc (off : Nat) (d : Device) : Device :=
  match regAt d off with
  | some f => if f.rc == 0 then d else wr off (clearBits (rd d off) f.rc) d
  | none => d

/-- The fields of a write that lie outside their stated ranges keep their values (15 R494). -/
def keepOutside (f : RegFam) (old v : Nat) : Nat :=
  let keep := fun (hi lo : Nat) (v : Nat) => putField v hi lo (fieldOf old hi lo)
  let v := f.ranges.foldl (fun v r =>
    if decide (r.2.2.1 ≤ fieldOf v r.1 r.2.1) && decide (fieldOf v r.1 r.2.1 ≤ r.2.2.2) then v else keep r.1 r.2.1 v) v
  f.legal.foldl (fun v r => if r.2.2.contains (fieldOf v r.1 r.2.1) then v else keep r.1 r.2.1 v) v

/-- The value a register holds after a write of `v` over `old`, by access type (00 Table 0.4). -/
def writtenValue (f : RegFam) (old v : Nat) : Nat :=
  let v := keepOutside f old v
  let kept := clearBits old (f.rw ||| f.wo)
  let cleared := clearBits kept (v &&& f.w1c)
  cleared ||| (v &&& (f.rw ||| f.wo)) ||| (v &&& f.w1s)

/-- A write to a register that has no effect beyond its own fields; ignored where none is implemented (15 R417). -/
def storedWrite (off v : Nat) (d : Device) : Device :=
  match regAt d off with
  | some f => wr off (writtenValue f (rd d off) v) d
  | none => d

end Sys2Proof.Machine
end

