-- ==== Sys2Proof/Machine/Cloche.lean ====
section
/-! DEFINITION. The Cloche: loop records, passes, stages, groups, frames, pass-boundary updates (10 R294 to R316). -/
namespace Sys2Proof.Machine

/-! Loop records (10 R298, R299). -/

/-- Signed 16-bit value at byte `o` of a record. -/
def s16At (r : List Byte) (o : Nat) : Int := signedOf 16 (leField r o 2)
/-- Signed byte at byte `o` of a record. -/
def s8At (r : List Byte) (o : Nat) : Int := signedOf 8 (leField r o 1)
/-- Unsigned byte at byte `o` of a record. -/
def u8At (r : List Byte) (o : Nat) : Nat := leField r o 1
/-- FLAGS.BFP. -/
def loopBfp (r : List Byte) : Bool := bitOf (u8At r 0) 0
/-- FLAGS.KEEP_STATE. -/
def loopKeep (r : List Byte) : Bool := bitOf (u8At r 0) 1
/-- STAGES. -/
def loopStages (r : List Byte) : Nat := u8At r 1
/-- DIV. -/
def loopDiv (r : List Byte) : Nat := u8At r 2
/-- OUT. -/
def loopOut (r : List Byte) : Nat := u8At r 3
/-- STALE_MAX. -/
def loopStaleMax (r : List Byte) : Nat := u8At r 11
/-- First byte of stage `i`. -/
def stageAt (i : Nat) : Nat := 64 + 32 * i
/-- TYPE of stage `i`. -/
def stageType (r : List Byte) (i : Nat) : Nat := u8At r (stageAt i)
/-- Entry `n` of schedule table `j`. -/
def tableAt (r : List Byte) (j n : Nat) : Int := s16At r (320 + 48 * j + 2 * n)

/-- Are bytes [lo, hi) of a record zero? -/
def zeroBytes (r : List Byte) (lo hi : Nat) : Bool := allZero (sliceBytes r lo (hi - lo))

/-- A setpoint 0 to 63, or 0xFF for the constant (10 Table 10.3). -/
def boundSourceOk (v : Nat) : Bool := decide (v < 64) || v == 0xFF

/-- Fields of stage `i` in their ranges, every other byte zero (10 R299, Table 10.3). -/
def stageOk (r : List Byte) (i : Nat) : Bool :=
  let o := stageAt i
  let b := fun n => u8At r (o + n)
  b 1 == 0 && b 3 == 0 && (loopBfp r || b 2 == 0) &&
    (match b 0 with
     | 1 => decide (b 6 ≤ 8) && decide (b 7 ≤ 8) && decide (b 12 ≤ 8) && b 13 == 0 && decide (b 15 < 128) &&
         zeroBytes r (o + 20) (o + 32)
     | 2 => decide (b 14 ≤ 8) && decide (b 15 ≤ 8) && zeroBytes r (o + 16) (o + 32)
     | 3 => boundSourceOk (b 8) && boundSourceOk (b 9) && zeroBytes r (o + 10) (o + 32)
     | 4 => decide (b 5 < 128) && decide (b 7 < 128) && zeroBytes r (o + 10) (o + 32)
     | 5 => decide (b 4 < 4) && decide (b 5 ≤ 8) && decide (b 6 ≤ 2) &&
         (b 6 != 1 || decide (b 7 < 128)) && (b 6 != 2 || decide (b 7 < 64)) && zeroBytes r (o + 8) (o + 32)
     | _ => false)

/-- A loop record's fields and reserved bytes (10 R298 to R300). -/
def loopRecordOk (r : List Byte) : Bool :=
  decide (u8At r 0 < 4) && decide (1 ≤ loopStages r) && decide (loopStages r ≤ 8) && decide (1 ≤ loopDiv r) &&
    decide (loopDiv r ≤ 200) && (decide (loopOut r < 32) || loopOut r == 0xFF) && decide (u8At r 4 ≤ 2) &&
    decide (u8At r 5 < (if u8At r 4 == 2 then 64 else 128)) && decide (u8At r 6 ≤ 1) && decide (u8At r 7 < 128) &&
    (loopBfp r || u8At r 10 == 0) && zeroBytes r 20 64 && (List.range (loopStages r)).all (stageOk r) &&
    (List.range 4).all (fun j => zeroBytes r (354 + 48 * j) (368 + 48 * j))

/-- The records by slot once every accepted load has taken effect (10 R300). -/
def acceptedLoops (d : Device) : List (Nat × List Byte) :=
  d.cloche.updates.foldl (fun (t : List (Nat × List Byte)) (u : ClocheUpdate) =>
    match u with
    | .loops _ first rs => rs.zipIdx.foldl (fun (t : List (Nat × List Byte)) (r : List Byte × Nat) => tabPut (first + r.2) r.1 t) t
    | _ => t) (d.cloche.slots.map (fun (s : Nat × LoopSlot) => (s.1, s.2.record)))

/-- Is slot `n` loaded, or its load accepted (10 R301)? -/
def slotLoaded (d : Device) (n : Nat) : Bool := (acceptedLoops d).any (fun s => s.1 == n)

/-- The records of a LOOP_LOAD with KIND 0: each is well formed and no output is named by more than eight loops
(10 R300). -/
def loopLoadOk (d : Device) (first : Nat) (rs : List (List Byte)) : Bool :=
  let t := rs.zipIdx.foldl (fun (t : List (Nat × List Byte)) (r : List Byte × Nat) => tabPut (first + r.2) r.1 t)
    (acceptedLoops d)
  rs.all loopRecordOk && (List.range 32).all (fun o => decide ((t.filter (fun s => loopOut s.2 == o)).length ≤ 8))

/-! Tables. -/

/-- Loop slot `n`. -/
def slotOf (d : Device) (n : Nat) : LoopSlot := tabGet {} d.cloche.slots n
/-- Replace loop slot `n`. -/
def setSlot (n : Nat) (s : LoopSlot) (d : Device) : Device :=
  { d with cloche := { d.cloche with slots := tabPut n s d.cloche.slots } }
/-- Setpoint `n`. -/
def setpointOf (d : Device) (n : Nat) : Setpoint := tabGet {} d.cloche.setpoints n
/-- Replace setpoint `n`. -/
def setSetpoint (n : Nat) (s : Setpoint) (d : Device) : Device :=
  { d with cloche := { d.cloche with setpoints := tabPut n s d.cloche.setpoints } }
/-- Input-table entry `n`. -/
def inputOf (d : Device) (n : Nat) : InputEntry := tabGet {} d.cloche.inputs n
/-- The sensing front end writes entry `n` whole; what the pass in progress may still read of it is kept (10 R295, R303). -/
def writeInput (n : Nat) (v : Int) (valid : Bool) (stamp : Nat) (d : Device) : Device :=
  let e := inputOf d n
  let past := e.past.filter (fun p => decide (d.cloche.passStart ≤ p.upTo)) ++
    [{ value := e.value, valid := e.valid, stamp := e.stamp, bad := e.bad, upTo := nowTicks d }]
  { d with cloche := { d.cloche with
      inputs := tabPut n { value := v, valid := valid, stamp := stamp % 2 ^ 32, past := past } d.cloche.inputs } }
/-- The Clocktower nanosecond counter. -/
def nowNs (d : Device) : Nat := rd d CT_NS
/-- Nanoseconds from the start of a pass to the start of its cycle `c`, of 5 ns (10 R294). -/
def cycleNs (c : Nat) : Nat := 5 * c
/-- An entry as it stood at the start of cycle `c` of the pass in progress (10 R295). -/
def InputEntry.atCycle (e : InputEntry) (start c : Nat) : InputEntry :=
  match e.past.find? (fun p => decide (2 * start + cycleNs c ≤ 2 * p.upTo)) with
  | some p => { value := p.value, valid := p.valid, stamp := p.stamp, bad := p.bad }
  | none => e
/-- The device as cycle `c` of the pass in progress reads it: the input table and the nanosecond counter of that cycle
(10 R295, R303). DESIGN CHOICE (Assumption 50): the counter of the cycle is taken from its value at the end of the pass
at one nanosecond for each. -/
def readAt (c : Nat) (d : Device) : Device :=
  let start := d.cloche.passStart
  let gone := 2 * (nowTicks d - start) - cycleNs c
  let d := { d with cloche := { d.cloche with inputs := d.cloche.inputs.map (fun e => (e.1, e.2.atCycle start c)) } }
  wr CT_NS ((nowNs d + 2 ^ 32 - gone % 2 ^ 32) % 2 ^ 32) d
/-- First cycle of the head of slot `n` (10 Table 10.1). -/
def headCycle (n : Nat) : Nat := 31 * n
/-- First cycle of stage `i` of slot `n` (10 Table 10.1). -/
def stageCycle (n i : Nat) : Nat := 31 * n + 4 + 3 * i
/-- Is slot `n` armed? -/
def slotArmed (d : Device) (n : Nat) : Bool := rbit d (if n < 32 then CL_ARMED_LO else CL_ARMED_HI) (n % 32)
/-- Set bit `n` of a pair of CL_ bit registers. -/
def setSlotBit (lo hi n : Nat) (b : Bool) (d : Device) : Device := setBit (if n < 32 then lo else hi) (n % 32) b d
/-- Passes run. -/
def clocheRunning (d : Device) : Bool := rbit d CL_STATUS 0

/-! Freshness (10 R307). -/

/-- The input entries that a loop reads. -/
def loopEntries (r : List Byte) : List Nat :=
  (if u8At r 4 == 1 then [u8At r 5] else []) ++ (if u8At r 6 == 1 then [u8At r 7] else []) ++
    ((List.range (loopStages r)).filter (fun i => stageType r i == 5 && u8At r (stageAt i + 6) == 1)).map
      (fun i => u8At r (stageAt i + 7))

/-- The setpoints that a loop reads: reference, limiter bounds, scheduling variables. -/
def loopSetpoints (r : List Byte) : List Nat :=
  (if u8At r 4 == 2 then [u8At r 5] else []) ++
    (List.range (loopStages r)).flatMap (fun i =>
      match stageType r i with
      | 3 => [u8At r (stageAt i + 8), u8At r (stageAt i + 9)].filter (fun v => decide (v < 64))
      | 5 => if u8At r (stageAt i + 6) == 2 then [u8At r (stageAt i + 7)] else []
      | _ => [])

/-- Is a stamp older than a limit in microseconds; a limit of 0 is unchecked (10 R303, Table 10.2)? -/
def tooOld (now stamp limitUs : Nat) : Bool := limitUs != 0 && decide (limitUs * 1000 < (now + 2 ^ 32 - stamp) % 2 ^ 32)

/-- Is a due loop stale at its head? A setpoint never written is stale (DEDUCED from 10 R315). -/
def loopStale (d : Device) (r : List Byte) : Bool :=
  (u8At r 6 == 1 && !(inputOf d (u8At r 7)).valid) ||
    (loopEntries r).any (fun n => (inputOf d n).bad || tooOld (nowNs d) (inputOf d n).stamp (leField r 12 4)) ||
    (loopSetpoints r).any (fun n =>
      !(setpointOf d n).valid || tooOld (nowNs d) (setpointOf d n).stamp (leField r 16 4))

/-! Arithmetic (10 R304, R305). -/

/-- m × 2^e, rounded to nearest even. -/
def scaleRne (m e : Int) : Int := if 0 ≤ e then m * (2 ^ e.toNat : Nat) else divRne m (-e).toNat

/-- A value read at exponent 0, saturated to 16 bits; the second part says it saturated (10 R304). -/
def readQ15 (v : Int × Int) : Int × Bool := satInt 16 (scaleRne v.1 v.2)

/-- A sum in the 40-bit accumulator: every addition saturates (10 R304), in a BFP loop too (10 R305 step 3). -/
def accSum (ts : List Int) : Int × Bool :=
  ts.foldl (fun (a : Int × Bool) t =>
    let r := satInt 40 (a.1 + t)
    (r.1, a.2 || r.2)) (0, false)

/-- What a stage computes before its states are committed. -/
structure StageOut where
  /-- Output mantissa -/
  out : Int := 0
  /-- Es' + k -/
  exp : Int := 0
  /-- k of the grow step -/
  k : Nat := 0
  /-- States to commit -/
  next : StageState := {}
  /-- The integrator if its update is skipped (10 R309) -/
  held : Int := 0
  /-- The stage set SAT -/
  sat : Bool := false
  deriving DecidableEq, Repr

/-- A stage's states at a higher exponent (10 R305 step 1). -/
def raiseStates (s : StageState) (es : Int) : StageState :=
  let n := (es - s.exp).toNat
  { exp := es, i := divRne s.i n, dd := divRne s.dd n, xPrev := divRne s.xPrev n, first := s.first, x1 := divRne s.x1 n,
    x2 := divRne s.x2 n, y1 := divRne s.y1 n, y2 := divRne s.y2 n, yPrev := divRne s.yPrev n }

/-- The values that a stage reads beside its input, as (mantissa, exponent): limiter bounds and rate limits at CEXP, or
the setpoints that replace them (10 Table 10.3, R305). -/
def stageOperands (d : Device) (r : List Byte) (i : Nat) : List (Int × Int) :=
  let o := stageAt i
  let c := s8At r (o + 2)
  let bound := fun (src val : Nat) =>
    if u8At r (o + src) == 0xFF then (s16At r (o + val), c)
    else ((setpointOf d (u8At r (o + src))).value, (setpointOf d (u8At r (o + src))).exp)
  match stageType r i with
  | 3 => [bound 8 4, bound 9 6]
  | 4 => [(s16At r (o + 4), c), (s16At r (o + 6), c)]
  | _ => []

/-- The scheduling variable of a gain-schedule stage with input `x`, at exponent 0 (10 R304, R305). -/
def scheduleVar (d : Device) (r : List Byte) (i : Nat) (x : Int × Int) : Int × Bool :=
  let o := stageAt i
  match u8At r (o + 6) with
  | 0 => readQ15 x
  | 1 => ((inputOf d (u8At r (o + 7))).value, false)
  | _ => readQ15 ((setpointOf d (u8At r (o + 7))).value, (setpointOf d (u8At r (o + 7))).exp)

/-- k of the grow step: the least for which output and integrator fit, no further than exponent 127 (10 R305). -/
def growBy (es acc inew : Int) : Nat :=
  let fits := fun (v : Int) => decide (-32768 ≤ v) && decide (v ≤ 32767)
  let lim := min (127 - es).toNat 64
  ((List.range (lim + 1)).find? (fun k =>
    fits (divRne acc (15 + k)) && decide (-(2 ^ 30 : Int) ≤ divRne inew k) && decide (divRne inew k < 2 ^ 30))).getD lim

/-- A stage whose output comes from an accumulator value: output, k and the shifted states; `track` makes the output
the new y1 (10 R304, R305). An integrator that does not fit at exponent 127 saturates and sets SAT. -/
def fromAcc (bfp sat track : Bool) (acc : Int × Bool) (inew dv : Int) (s t : StageState) : StageOut :=
  let k := if bfp then growBy s.exp acc.1 inew else 0
  let out := satInt 16 (divRne acc.1 (15 + k))
  let top : Int := if bfp then 2 ^ 30 - 1 else 2 ^ 30 - 2 ^ 15
  let integ := clampInt (-(2 ^ 30)) top (divRne inew k)
  { out := out.1, exp := s.exp + k, k := k, held := divRne s.i k, sat := sat || acc.2 || out.2 || (bfp && integ != divRne inew k)
    next := { exp := s.exp + k, i := integ, dd := divRne dv k, xPrev := divRne t.xPrev k,
              first := false, x1 := divRne t.x1 k, x2 := divRne t.x2 k, y1 := if track then out.1 else divRne t.y1 k,
              y2 := divRne t.y2 k, yPrev := divRne t.yPrev k } }

/-- A stage whose output is formed directly: limiter and rate limiter (10 Table 10.4). -/
def fromOut (sat : Bool) (out : Int) (s t : StageState) : StageOut :=
  { out := out, exp := s.exp, k := 0, held := s.i, sat := sat, next := { t with exp := s.exp, first := false } }

/-- Stage `i` of a loop record applied to the input `x` (10 Table 10.4, R305). -/
def stageEval (d : Device) (r : List Byte) (i : Nat) (st : StageState) (x : Int × Int) : StageOut :=
  let bfp := loopBfp r
  let o := stageAt i
  let c := fun n => s16At r (o + n)
  let sh := fun (n : Nat) => ((2 ^ u8At r (o + n) : Nat) : Int)
  let ops := stageOperands d r i
  let es := if bfp then (x :: ops).foldl (fun m v => max m v.2) st.exp else 0
  let s := if bfp then raiseStates st es else { st with exp := 0 }
  let align := fun (v : Int × Int) => if bfp then (divRne v.1 (es - v.2).toNat, false) else readQ15 v
  let xa := (align x).1
  let a := align (ops.getD 0 (0, 0))
  let b := align (ops.getD 1 (0, 0))
  match stageType r i with
  | 1 =>
    let xp := if s.first then xa else s.xPrev
    let ds := accSum [(leField r (o + 14) 2 : Int) * s.dd, c 10 * (xa - xp) * sh 12]
    let dv := satInt 16 (divRne ds.1 15)
    let acc := accSum [c 4 * xa * sh 6, s.i, dv.1 * 2 ^ 15]
    fromAcc bfp (ds.2 || dv.2) false acc (s.i + c 8 * xa * sh 7) dv.1 s { s with xPrev := xa }
  | 2 =>
    let acc := accSum [c 4 * xa * sh 14, c 6 * s.x1 * sh 14, c 8 * s.x2 * sh 14, -(c 10 * s.y1 * sh 15),
      -(c 12 * s.y2 * sh 15)]
    fromAcc bfp false true acc 0 0 s { s with x2 := s.x1, x1 := xa, y2 := s.y1 }
  | 3 =>
    let out := min (max xa a.1) b.1
    fromOut (out != xa || a.2 || b.2) out s s
  | 4 =>
    let step := min (max (xa - s.yPrev) (-b.1)) a.1
    fromOut (step != xa - s.yPrev || a.2 || b.2) (s.yPrev + step) s { s with yPrev := s.yPrev + step }
  | _ =>
    let v := scheduleVar d r i x
    let u := (v.1 + 32768).toNat
    let j := u8At r (o + 4)
    let g0 := tableAt r j (u / 4096)
    let g := g0 + divRne ((tableAt r j (u / 4096 + 1) - g0) * (u % 4096 : Nat)) 12
    fromAcc bfp v.2 false (accSum [xa * g * sh 5]) 0 0 s s

/-- The error of the head (10 R304, R305): value and SAT. -/
def loopError (d : Device) (r : List Byte) : (Int × Int) × Bool :=
  let ref : Int × Int := match u8At r 4 with
    | 0 => (s16At r 8, s8At r 10)
    | 1 => ((inputOf d (u8At r 5)).value, 0)
    | _ => ((setpointOf d (u8At r 5)).value, (setpointOf d (u8At r 5)).exp)
  let meas : Option Int := if u8At r 6 == 1 then some (inputOf d (u8At r 7)).value else none
  if loopBfp r then
    match meas with
    | none => (ref, false)
    | some m =>
      let e := min (max ref.2 0 + 1) 127
      let lo := min ref.2 0
      let diff := ref.1 * (2 ^ (ref.2 - lo).toNat : Nat) - m * (2 ^ (0 - lo).toNat : Nat)
      let v := satInt 16 (scaleRne diff (lo - e))
      ((v.1, e), v.2)
  else
    let q := readQ15 ref
    match meas with
    | none => ((q.1, 0), q.2)
    | some m =>
      let v := satInt 16 (q.1 - m)
      ((v.1, 0), q.2 || v.2)

/-- Evaluation of a loop: the stages' outcomes, the result and SAT (10 R304, R305). -/
structure LoopEval where
  /-- Outcomes of the stages -/
  outs : List StageOut := []
  /-- Result -/
  result : Int × Int := (0, 0)
  /-- The evaluation set SAT -/
  sat : Bool := false
  deriving DecidableEq, Repr

/-- Evaluate the loop of slot `n`, which is not stale: its head and each stage read in their cycles (10 R294, R295). -/
def loopEval (d : Device) (n : Nat) (s : LoopSlot) : LoopEval :=
  let e := loopError (readAt (headCycle n) d) s.record
  (List.range (loopStages s.record)).foldl (fun (a : LoopEval) i =>
    let o := stageEval (readAt (stageCycle n i) d) s.record i (s.stages.getD i {}) a.result
    { outs := a.outs ++ [o], result := (o.out, o.exp), sat := a.sat || o.sat }) { result := e.1, sat := e.2 }

/-- Are all 16-bit states and the output below 2^13 in magnitude and the integrator below 2^28 (10 R305 step 5)? -/
def canShrink (o : StageOut) (s : StageState) : Bool :=
  let small := fun (v : Int) => decide (v.natAbs < 2 ^ 13)
  o.k == 0 && [s.dd, s.xPrev, s.x1, s.x2, s.y1, s.y2, s.yPrev, o.out].all small && decide (s.i.natAbs < 2 ^ 28) &&
    decide (-128 < s.exp)

/-- The committed states of a stage (10 R305 step 5, R309). -/
def commitStage (bfp saturated : Bool) (o : StageOut) : StageState :=
  let s := if saturated then { o.next with i := o.held } else o.next
  if bfp && canShrink o s then
    { exp := s.exp - 1, i := 2 * s.i, dd := 2 * s.dd, xPrev := 2 * s.xPrev, first := s.first, x1 := 2 * s.x1,
      x2 := 2 * s.x2, y1 := 2 * s.y1, y2 := 2 * s.y2, yPrev := 2 * s.yPrev }
  else s

/-- The initial state of stage `i` (10 R301). -/
def initStage (r : List Byte) (i : Nat) : StageState :=
  match stageType r i with
  | 1 => { i := signedOf 32 (leField r (stageAt i + 16) 4) }
  | 4 => { yPrev := s16At r (stageAt i + 8) }
  | _ => {}

/-- The initial state of every stage. -/
def initStages (r : List Byte) : List StageState := (List.range 8).map (initStage r)

/-! Groups (10 R308). -/

/-- Is `a` a lower value than `b`, exactly? -/
def lowerValue (a b : Int × Int) : Bool :=
  let lo := min a.2 b.2
  decide (a.1 * (2 ^ (a.2 - lo).toNat : Nat) < b.1 * (2 ^ (b.2 - lo).toNat : Nat))

/-- The winner of output `o` among the armed slots that name it: slot and value; between equals the lower slot. -/
def groupWinner (d : Device) (o : Nat) : Option (Nat × (Int × Int)) :=
  d.cloche.slots.foldl (fun (w : Option (Nat × (Int × Int))) (s : Nat × LoopSlot) =>
    if loopOut s.2.record == o && slotArmed d s.1 then
      match s.2.result, w with
      | none, _ => w
      | some v, none => some (s.1, v)
      | some v, some b => if lowerValue v b.2 then some (s.1, v) else w
    else w) none

/-! Frames (10 R310 to R313). -/

/-- An output after group resolution: value and qualifier bits STALE, SAT, SAFE. -/
structure OutValue where
  /-- Mantissa -/
  m : Int := 0
  /-- Exponent -/
  e : Int := 0
  /-- Bit 0 STALE, bit 1 SAT, bit 2 SAFE -/
  qual : Nat := 0
  deriving DecidableEq, Repr

/-- The raw value of output `o` before saturation, and after it with whether it changed (10 R310). -/
def mapOutput (d : Device) (o : Nat) (v : OutValue) : Int × Bool :=
  let raw := scaleRne (v.m * (fld d (CL_MAP o) 31 16 : Int)) (v.e - 15) + signedOf 16 (fld d (CL_MAP o) 15 0)
  let w := if rbit d (CL_BIND o) 0 then 16 else 8
  if rbit d (CL_BIND o) 16 then satInt w raw
  else
    let r := clampInt 0 ((2 ^ w : Nat) - 1) raw
    (r, r != raw)

/-- Output `o` with the qualifier of its map. -/
def withMapSat (d : Device) (o : Nat) (v : OutValue) : OutValue :=
  if (mapOutput d o v).2 then { v with qual := v.qual ||| 2 } else v

/-- CL_OUT_o shows an output (10 Table 10.8). -/
def showOutput (o : Nat) (v : OutValue) (d : Device) : Device :=
  wr (CL_OUT o) (patternOf 16 v.m + patternOf 8 v.e * 2 ^ 16 + v.qual % 8 * 2 ^ 28) d

/-- The outputs bound into frame `f`, ascending. -/
def boundOutputs (d : Device) (f : Nat) : List Nat :=
  (List.range 32).filter (fun o => rbit d (CL_BIND o) 31 && fld d (CL_BIND o) 27 24 == f)

/-- LEN of frame `f`. -/
def frameLen (d : Device) (f : Nat) : Nat := fld d (CL_FRAME_CFG f) 7 0

/-- May frame `f` be emitted: assigned buffer, valid length, no field on the trailer (10 R313)? -/
def frameConfigOk (d : Device) (f : Nat) : Bool :=
  let len := frameLen d f
  let cfg := CL_FRAME_CFG f
  let tag := fld d (CL_FRAME_ID f) 23 16
  let qual := fld d (CL_FRAME_ID f) 31 24
  (if rbit d cfg 30 then decide (60 ≤ len) && decide (len ≤ 128) && decide (fld d cfg 29 27 < 4)
   else [8, 12, 16, 20, 24, 32, 48, 64].contains len && (rbit d (CL_FRAME_CANID f) 30 || len == 8) &&
     decide (fld d cfg 26 25 < 3) &&
     rbit d (CAN_TX_CFG (fld d cfg 29 27)) (4 + fld d cfg 26 25)) &&
    (boundOutputs d f).all (fun o =>
      decide (fld d (CL_BIND o) 15 8 + (if rbit d (CL_BIND o) 0 then 1 else 0) < len - 3)) &&
    (tag == 0xFF || decide (tag + 3 < len - 3)) && (qual == 0xFF || decide (qual < len - 3))

/-- The bytes of frame `f` with alive counter `cnt` (10 R311). -/
def composeFrame (d : Device) (outs : List OutValue) (f cnt : Nat) : List Byte :=
  let len := frameLen d f
  let bound := boundOutputs d f
  let out := fun o => outs.getD o {}
  let tpl := (List.range 32).flatMap (fun w => leBytes 4 (rd d (CL_FRAME_TPL f w)))
  let bs := tpl.take len
  let bs := bound.foldl (fun bs o =>
    overlay bs (fld d (CL_BIND o) 15 8) (leBytes (if rbit d (CL_BIND o) 0 then 2 else 1)
      (patternOf 16 (mapOutput d o (out o)).1))) bs
  let tag := fld d (CL_FRAME_ID f) 23 16
  let bs := if tag == 0xFF then bs
    else overlay bs tag (leBytes 4 (setpointOf d (fld d (CL_FRAME_CFG f) 16 11)).tag)
  let qual := fld d (CL_FRAME_ID f) 31 24
  let bs := if qual == 0xFF then bs
    else overlay bs qual (leBytes 1 (bound.foldl (fun q o => q ||| (out o).qual) 0))
  let bs := overlay bs (len - 3) (leBytes 1 cnt)
  let crc := crc16 0xFFFF (leBytes 2 (fld d (CL_FRAME_ID f) 15 0) ++ bs.take (len - 2))
  overlay bs (len - 2) (beBytes 2 crc)

/-- Frame `f` is emitted: composed and handed to the output unit, or refused with TX_CFG_ERR; its alive counter goes up
(10 R311 to R313). A frame with an uncorrectable template is suppressed (10 R314). -/
def emitFrame (outs : List OutValue) (f : Nat) (d : Device) : Device :=
  if d.cloche.badFrames.contains f then d else
  let cnt := fld d (CL_FRAME_CNT f) 7 0
  let d := if frameConfigOk d f then
      { d with cloche := { d.cloche with frames := d.cloche.frames ++ [{
          frame := f, ethernet := rbit d (CL_FRAME_CFG f) 30, dest := fld d (CL_FRAME_CFG f) 29 27,
          buf := fld d (CL_FRAME_CFG f) 26 25, canId := rd d (CL_FRAME_CANID f), bytes := composeFrame d outs f cnt }] } }
    else setBit CL_STATUS 2 true d
  wr (CL_FRAME_CNT f) ((cnt + 1) % 256) d

/-! Pass-boundary updates (10 R301, R302, R316). -/

/-- CL_CTRL.EN takes a value: a rise starts the passes and the boundary grid, a fall stops them (10 R294, R296). -/
def clocheRun (on : Bool) (d : Device) : Device :=
  let was := rbit d CL_CTRL 0
  let d := d |> setBit CL_CTRL 0 on |> setBit CL_STATUS 0 on
  if on && !was then
    let d := wr CL_PASS_COUNT 0 d
    { d with cloche := { d.cloche with next := rd d CL_CYCLE_START, k := 0, occurred := [], due := [], passStart := nowTicks d } }
  else d

/-- The fields of a CL_FRAME_CFG write whose range depends on KIND keep their values outside it: BUF, 0 to 2 for CAN and zero
for Ethernet, and UNIT, 0 to 3 for Ethernet (10 Table 10.10, 15 R494). -/
def frameConfigKept (old v : Nat) : Nat :=
  let ethernet := bitOf v 30
  let buf := fieldOf v 26 25
  let v := if buf == 3 || (ethernet && buf != 0) then putField v 26 25 (fieldOf old 26 25) else v
  if ethernet && decide (4 ≤ fieldOf v 29 27) then putField v 29 27 (fieldOf old 29 27) else v

/-- A write of CL_FRAME_CFG_f: EN from 0 to 1 resets the alive counter; while EN is 1 only EN is taken (10 R311, R316). -/
def frameConfigWrite (f v : Nat) (d : Device) : Device :=
  if rbit d (CL_FRAME_CFG f) 31 then setBit (CL_FRAME_CFG f) 31 (bitOf v 31) d
  else d |> storedWrite (CL_FRAME_CFG f) (frameConfigKept (rd d (CL_FRAME_CFG f)) v) |> applyIf (bitOf v 31) (wr (CL_FRAME_CNT f) 0)

/-- A register write of the CL_ block takes effect. -/
def clocheApplyWrite (off v : Nat) (d : Device) : Device :=
  if off == CL_CTRL then clocheRun (bitOf v 0) d
  else if off == CL_CYCLE_NS || off == CL_SUB then
    let d := storedWrite off v d
    { d with cloche := { d.cloche with cycleDirty := true } }
  else if CL_FRAME_CFG 0 ≤ off && off < CL_FRAME_CFG 16 then
    let f := (off - CL_FRAME_CFG 0) / 0x100
    if off == CL_FRAME_CFG f then frameConfigWrite f v d
    else if rbit d (CL_FRAME_CFG f) 31 then d
    else
      let d := storedWrite off v d
      if CL_FRAME_TPL f 0 ≤ off then
        { d with cloche := { d.cloche with badFrames := d.cloche.badFrames.filter (· != f) } }
      else d
  else storedWrite off v d

/-- Loop records are installed from slot `first` on (10 R301). -/
def installLoops (first : Nat) (rs : List (List Byte)) (d : Device) : Device :=
  forEach rs.zipIdx (fun (r : List Byte × Nat) d =>
    let n := first + r.2
    let old := slotOf d n
    let stages := (List.range 8).map (fun i =>
      if loopKeep r.1 && decide (i < loopStages r.1) && decide (i < loopStages old.record) &&
          stageType r.1 i == stageType old.record i then old.stages.getD i {}
      else initStage r.1 i)
    setSlot n { old with record := r.1, stages := stages } d) d

/-- Setpoints are written from `first` on, stamped now (10 R302). -/
def installSetpoints (first : Nat) (rs : List (List Byte)) (d : Device) : Device :=
  forEach rs.zipIdx (fun (r : List Byte × Nat) d =>
    setSetpoint (first + r.2) { value := s16At r.1 0, exp := s8At r.1 2, tag := leField r.1 4 4, stamp := nowNs d,
                                valid := true } d) d

/-- Slots are armed, every stage initialised and the next evaluation first, or disarmed (10 R301, R308). -/
def armSlots (slots : Nat) (on : Bool) (d : Device) : Device :=
  forEach (bitsSet slots 64) (fun n d =>
    let s := slotOf d n
    let d := setSlotBit CL_ARMED_LO CL_ARMED_HI n on d
    if on then setSlot n { s with stages := initStages s.record, result := none, staleRun := 0 } d
    else d) d

/-- One update takes effect; a command completes. -/
def clocheApply (u : ClocheUpdate) (d : Device) : Device :=
  match u with
  | .write off v => clocheApplyWrite off v d
  | .loops q first rs => d |> installLoops first rs |> finishExec q
  | .setpoints q first rs => d |> installSetpoints first rs |> finishExec q
  | .arm q slots on => d |> armSlots slots on |> finishExec q

/-- An update is accepted: it takes effect at the next pass boundary, or at once while no passes run (DEDUCED). -/
def clocheAccept (u : ClocheUpdate) (d : Device) : Device :=
  if clocheRunning d then { d with cloche := { d.cloche with updates := d.cloche.updates ++ [u] } }
  else clocheApply u d

/-- A host write to a register of the CL_ block. -/
def clocheWrite (off v : Nat) (d : Device) : Device :=
  if (regAt d off).isSome then clocheAccept (.write off v) d else d

/-- The update of the command of queue `q` is withdrawn. -/
def clocheWithdraw (q : Nat) (d : Device) : Device :=
  { d with cloche := { d.cloche with updates := d.cloche.updates.filter (fun u =>
      match u with
      | .write _ _ => true
      | .loops r _ _ => r != q
      | .setpoints r _ _ => r != q
      | .arm r _ _ => r != q) } }

/-! Storage errors (10 R314). -/

/-- DETAIL of source 58 (14 Table 14.12). -/
def clocheDetail (cause slot storage number : Nat) : Nat := cause + slot * 2 ^ 8 + storage * 2 ^ 16 + number * 2 ^ 24

/-- An error of the Cloche's storage. -/
def clocheError (e : ClocheErr) (d : Device) : Device :=
  match e with
  | .corrected => countUp CL_ECC_CORR d
  | .slot n => d |> setSlotBit CL_ARMED_LO CL_ARMED_HI (n % 64) false
      |> raiseFault 58 [] [] (clocheDetail 2 (n % 64) 0 0)
  | .setpoint n => d |> setSetpoint (n % 64) { setpointOf d (n % 64) with valid := false }
      |> raiseFault 58 [] [] (clocheDetail 2 0xFF 1 (n % 64))
  | .input n =>
    let d := { d with cloche := { d.cloche with
      inputs := tabPut (n % 128) { inputOf d (n % 128) with bad := true } d.cloche.inputs } }
    raiseFault 58 [] [] (clocheDetail 2 0xFF 2 (n % 128)) d
  | .template f =>
    let d := { d with cloche := { d.cloche with badFrames := f % 16 :: d.cloche.badFrames.filter (· != f % 16) } }
    raiseFault 58 [] [] (clocheDetail 2 0xFF 3 (f % 16)) d

/-! The pass. -/

/-- A due loop is stale in this pass (10 R307). -/
def markStale (n : Nat) (d : Device) : Device :=
  let s := slotOf d n
  let run := s.staleRun + 1
  d |> setSlotBit CL_STALE_LO CL_STALE_HI n true
    |> setSlot n { s with staleRun := run
                          staleDue := s.staleDue || (loopStaleMax s.record != 0 && run == loopStaleMax s.record) }

/-- A due loop is fresh: its result is offered (10 R307, R308). -/
def markFresh (n : Nat) (e : LoopEval) (d : Device) : Device :=
  d |> setSlotBit CL_STALE_LO CL_STALE_HI n false |> setSlot n { slotOf d n with result := some e.result, staleRun := 0 }

/-- The states of an evaluated loop are committed (10 R309). -/
def commitLoop (wins : List (Option (Nat × (Int × Int)))) (n : Nat) (e : LoopEval) (d : Device) : Device :=
  let s := slotOf d n
  let o := loopOut s.record
  let lost := decide (o < 32) && (match wins.getD o none with
    | some w => w.1 != n
    | none => false)
  let saturated := e.sat || lost
  let stages := (List.range 8).map (fun i =>
    match e.outs[i]? with
    | some x => commitStage (loopBfp s.record) saturated x
    | none => s.stages.getD i {})
  d |> setSlotBit CL_SAT_LO CL_SAT_HI n saturated |> setSlot n { s with stages := stages }

/-- The outputs after group resolution (10 R308, R310). -/
def resolvedOutput (d : Device) (o : Nat) (w : Option (Nat × (Int × Int))) : OutValue :=
  match w with
  | none => { m := signedOf 16 (fld d (CL_SAFE o) 15 0), e := 0, qual := 4 }
  | some w =>
    { m := w.2.1, e := w.2.2
      qual := (if rbit d (if w.1 < 32 then CL_STALE_LO else CL_STALE_HI) (w.1 % 32) then 1 else 0) +
        (if rbit d (if w.1 < 32 then CL_SAT_LO else CL_SAT_HI) (w.1 % 32) then 2 else 0) }

/-- The pass in progress has lasted its 2,048 cycles of 5 ns, 5,120 ticks (10 R294). -/
def passOver (d : Device) : Bool := clocheRunning d && decide (d.cloche.passStart + 5120 ≤ nowTicks d)

/-- The next pass starts: it latches the boundaries that have occurred (10 R297). -/
def startPass (d : Device) : Device :=
  { d with cloche := { d.cloche with due := d.cloche.occurred, occurred := [], passStart := nowTicks d } }

/-- CLOCHE_PASS (10 R294, R297, R307 to R312): the pass in progress ends: every due armed slot is evaluated once, as its own
cycles read the tables, groups are resolved, states committed, boundary updates applied, outputs handed over. The next
pass starts. -/
def clochePass (errs : List ClocheErr) (d : Device) : Device :=
  if !passOver d then d else
  let d := forEach errs clocheError d
  let served := d.cloche.due
  let due := (d.cloche.slots.filter (fun s => slotArmed d s.1 && served.any (fun k => k % loopDiv s.2.record == 0))).map (·.1)
  let fresh := due.filter (fun n => !loopStale (readAt (headCycle n) d) (slotOf d n).record)
  let evals := fresh.map (fun n => (n, loopEval d n (slotOf d n)))
  let d := startPass d
  let d := forEach (due.filter (fun n => !fresh.contains n)) markStale d
  let d := forEach evals (fun e d => markFresh e.1 e.2 d) d
  let wins := (List.range 32).map (groupWinner d)
  let d := forEach evals (fun e d => commitLoop wins e.1 e.2 d) d
  let outs := wins.zipIdx.map (fun w => resolvedOutput d w.2 w.1)
  let updates := d.cloche.updates
  let d := addWrap CL_PASS_COUNT 1 d
  let d := { d with cloche := { d.cloche with updates := [] } }
  let d := forEach updates clocheApply d
  let outs := outs.zipIdx.map (fun v => withMapSat d v.2 v.1)
  let d := forEach outs.zipIdx (fun v d => showOutput v.2 v.1 d) d
  forEach ((List.range 16).filter (fun f => rbit d (CL_FRAME_CFG f) 31 &&
    served.any (fun k => k % fld d (CL_FRAME_CFG f) 24 17 == 0))) (emitFrame outs) d

/-! The control cycle (10 R296). -/

/-- Do CL_CYCLE_NS and CL_SUB satisfy R296? -/
def cycleOk (c s : Nat) : Bool :=
  decide (250000 ≤ c) && decide (c ≤ 10000000) && decide (1 ≤ s) && c % s == 0 && decide (50000 ≤ c / s)

/-- CL_CYCLE_NS and CL_SUB are taken at a boundary with k = 0, or refused with CFG_ERR. -/
def takeCycle (d : Device) : Device :=
  if !d.cloche.cycleDirty then d else
  let c := rd d CL_CYCLE_NS
  let s := fld d CL_SUB 7 0
  let d := { d with cloche := { d.cloche with cycleDirty := false } }
  if cycleOk c s then { d with cloche := { d.cloche with cycleNs := c, sub := s } } else setBit CL_STATUS 1 true d

/-- The counter passed a time of the 32-bit nanosecond grid: the signed difference. -/
def passedBy (now t : Nat) : Int := signedOf 32 ((now + 2 ^ 32 - t % 2 ^ 32) % 2 ^ 32)

/-- The counter has reached NEXT while the Cloche runs: a boundary is due. -/
def subPeriodDue (d : Device) : Bool := clocheRunning d && decide (0 ≤ passedBy (nowNs d) d.cloche.next)

/-- SUB_PERIOD_BOUNDARY (10 R296): boundary k occurs; missed boundaries are skipped. -/
def subPeriodBoundary (d : Device) : Device :=
  let k := d.cloche.k
  let d := if k == 0 then takeCycle d else d
  let ts := d.cloche.cycleNs / d.cloche.sub
  let next := d.cloche.next + ts
  let late := passedBy (nowNs d) next
  let missed := if late < 0 then 0 else late.toNat / ts + 1
  let d := countBy CL_SLIP missed d
  { d with cloche := { d.cloche with
      occurred := d.cloche.occurred ++ [k]
      next := (next + missed * ts) % 2 ^ 32
      k := (k + 1 + missed) % d.cloche.sub } }

/-- STALE_LIMIT of slot `n` (10 R307): source 58 is raised once for the run. -/
def staleLimit (n : Nat) (d : Device) : Device :=
  if (slotOf d n).staleDue then
    d |> setSlot n { slotOf d n with staleDue := false } |> raiseFault 58 [] [] (clocheDetail 1 n 0 0)
  else d

end Sys2Proof.Machine
end

