-- ==== Sys2Proof/Machine/Operands.lean ====
section
/-! DEFINITION. Operand forms: the records that commands and units read from memory: image sections and entries
(05 Tables 5.1 to 5.12), streams and window records, microcode instructions, Hem parameter blocks, descriptors (08 Tables 8.1 to 8.6). -/
namespace Sys2Proof.Machine

/-! The Parterre image (05 R121). -/

/-- Offset of section `k` from the image start. -/
def secOffset (d : Device) (img k : Nat) : Nat := memNat d (img + 96 + 8 * k) 4

/-- Length of section `k`. -/
def secLength (d : Device) (img k : Nat) : Nat := memNat d (img + 100 + 8 * k) 4

/-- Device address of section `k`. -/
def secAddr (d : Device) (img k : Nat) : Nat := img + secOffset d img k

/-- Number of entries of `size` bytes in section `k`. -/
def secCount (d : Device) (img k size : Nat) : Nat := secLength d img k / size

/-- Address of step program entry `i` (05 Table 5.3). -/
def progAddr (d : Device) (img i : Nat) : Nat := secAddr d img 0 + 48 * i
/-- FIRST_SEG. -/
def progFirstSeg (d : Device) (img i : Nat) : Nat := memNat d (progAddr d img i) 4
/-- SEG_COUNT. -/
def progSegCount (d : Device) (img i : Nat) : Nat := memNat d (progAddr d img i + 4) 2
/-- PAVMASK. -/
def progPavMask (d : Device) (img i : Nat) : Nat := memNat d (progAddr d img i + 6) 1
/-- FLAGS: bit 0 REALTIME, bit 1 SAFETY, bit 2 BUCKET_PROG. -/
def progFlags (d : Device) (img i : Nat) : Nat := memNat d (progAddr d img i + 7) 1
/-- STEP_WCET_AC. -/
def progWcet (d : Device) (img i : Nat) : Nat := memNat d (progAddr d img i + 8) 4
/-- PEAK_GRANT. -/
def progPeak (d : Device) (img i : Nat) : Nat := memNat d (progAddr d img i + 12) 4
/-- SLOT_FOOTPRINT. -/
def progSlots (d : Device) (img i : Nat) : Nat := memNat d (progAddr d img i + 16) 4
/-- FIRST_TENSOR. -/
def progFirstTensor (d : Device) (img i : Nat) : Nat := memNat d (progAddr d img i + 20) 4
/-- TENSOR_COUNT. -/
def progTensorCount (d : Device) (img i : Nat) : Nat := memNat d (progAddr d img i + 24) 2
/-- BUCKET. -/
def progBucket (d : Device) (img i : Nat) : Nat := memNat d (progAddr d img i + 26) 1
/-- FIRST_THREAD. -/
def progFirstThread (d : Device) (img i : Nat) : Nat := memNat d (progAddr d img i + 28) 4
/-- THREAD_COUNT. -/
def progThreadCount (d : Device) (img i : Nat) : Nat := memNat d (progAddr d img i + 32) 2
/-- FIRST_CODESET. -/
def progFirstCode (d : Device) (img i : Nat) : Nat := memNat d (progAddr d img i + 34) 2
/-- CODESET_COUNT. -/
def progCodeCount (d : Device) (img i : Nat) : Nat := memNat d (progAddr d img i + 36) 1

/-- Address of segment entry `s` (05 Table 5.4). -/
def segAddr (d : Device) (img s : Nat) : Nat := secAddr d img 1 + 64 * s
/-- PAVMASK of a segment. -/
def segPavMask (d : Device) (img s : Nat) : Nat := memNat d (segAddr d img s) 1
/-- FLAGS: bit 0 LISTED, bit 1 SAFETY, bit 2 REDUNDANT. -/
def segFlags (d : Device) (img s : Nat) : Nat := memNat d (segAddr d img s + 1) 1
/-- GOLDEN_MASK. -/
def segGolden (d : Device) (img s : Nat) : Nat := memNat d (segAddr d img s + 2) 1
/-- START_BEAT. -/
def segStart (d : Device) (img s : Nat) : Nat := memNat d (segAddr d img s + 4) 4
/-- WCET_AC. -/
def segWcet (d : Device) (img s : Nat) : Nat := memNat d (segAddr d img s + 8) 4
/-- GOLDEN_AC (05 R125). -/
def segGoldenAc (d : Device) (img s : Nat) : Nat := memNat d (segAddr d img s + 12) 4
/-- First entry of list `k`: 0 microcode directory, 1 movers, 2 link slots, 3 crossings, 4 credit grants, 5 refresh
windows, 6 power grants. -/
def segFirst (d : Device) (img s k : Nat) : Nat := memNat d (segAddr d img s + 16 + 4 * k) 4
/-- Count of list `k`. -/
def segCount (d : Device) (img s k : Nat) : Nat := memNat d (segAddr d img s + 44 + 2 * k) 2
/-- ALT_NEXT. -/
def segAlt (d : Device) (img s : Nat) : Nat := memNat d (segAddr d img s + 58) 2
/-- The entries of list `k` of a segment, as indices in their section. -/
def segList (d : Device) (img s k : Nat) : List Nat :=
  (List.range (segCount d img s k)).map (fun i => segFirst d img s k + i)

/-- Address of tensor entry `t` of step program `i` (05 Table 5.5). -/
def tensorAddr (d : Device) (img i t : Nat) : Nat := secAddr d img 2 + 32 * (progFirstTensor d img i + t)
/-- FLAGS of a tensor: bit 0 INPUT, bit 1 OUTPUT, bit 2 SAFETY. -/
def tensorFlags (d : Device) (img i t : Nat) : Nat := memNat d (tensorAddr d img i t + 2) 1
/-- SIG_TWIN. -/
def tensorTwin (d : Device) (img i t : Nat) : Nat := memNat d (tensorAddr d img i t + 4) 4
/-- BYTES. -/
def tensorBytes (d : Device) (img i t : Nat) : Nat := memNat d (tensorAddr d img i t + 16) 8

/-- Address of credit grant entry `g` (05 Table 5.12). -/
def grantAddr (d : Device) (img g : Nat) : Nat := secAddr d img 9 + 16 * g
/-- Address of crossing entry `c` (05 Table 5.11). -/
def crossAddr (d : Device) (img c : Nat) : Nat := secAddr d img 8 + 8 * c
/-- Address of power grant entry `g` (05 R140). -/
def powerAddr (d : Device) (img g : Nat) : Nat := secAddr d img 11 + 8 * g
/-- Address of link-slot entry `l` (05 Table 5.10). -/
def linkAddr (d : Device) (img l : Nat) : Nat := secAddr d img 7 + 16 * l
/-- Address of mover list entry `m` (05 R132). -/
def moverAddr (d : Device) (img m : Nat) : Nat := secAddr d img 6 + 40 * m
/-- Address of thread start entry `t` (04 R100). -/
def threadAddr (d : Device) (img t : Nat) : Nat := secAddr d img 3 + 16 * t
/-- Address of code set directory entry `c` (05 R127). -/
def codeAddr (d : Device) (img c : Nat) : Nat := secAddr d img 4 + 48 * c
/-- Address of microcode directory entry `m` (05 R128). -/
def microAddr (d : Device) (img m : Nat) : Nat := secAddr d img 5 + 16 * m

/-! Microcode (05 R128, R129). -/

/-- A microcode instruction. -/
structure MicroInstr where
  op : Nat
  flags : Nat
  n : Nat
  ac : Nat
  a : Nat
  b : Nat
  deriving DecidableEq, Repr

/-- The stream of pavilion `p` in segment `s`: its address and instruction count, if the segment names one. -/
def streamOf (d : Device) (img s p : Nat) : Option (Nat × Nat) :=
  ((segList d img s 0).find? (fun m => memNat d (microAddr d img m) 1 == p)).map (fun m =>
    (secAddr d img 5 + memNat d (microAddr d img m + 4) 4, memNat d (microAddr d img m + 8) 4))

/-- The instruction at an address. -/
def microAt (d : Device) (a : Nat) : MicroInstr :=
  { op := memNat d a 1, flags := memNat d (a + 1) 1, n := memNat d (a + 2) 2, ac := memNat d (a + 4) 4,
    a := memNat d (a + 8) 4, b := memNat d (a + 12) 4 }

/-- A Hem parameter block (05 Table 5.8). -/
structure HemBlock where
  fn : Nat
  sub : Nat
  fmt : Nat
  ctrl : Nat
  src : Nat
  src2 : Nat
  dst : Nat
  row : Nat
  paramRow : Nat
  tensor : Nat
  elemBase : Nat
  deriving DecidableEq, Repr

/-- The Hem parameter block at an address. -/
def hemAt (d : Device) (a : Nat) : HemBlock :=
  { fn := memNat d a 1, sub := memNat d (a + 1) 1, fmt := memNat d (a + 2) 1, ctrl := memNat d (a + 3) 1,
    src := memNat d (a + 4) 2, src2 := memNat d (a + 6) 2, dst := memNat d (a + 8) 2, row := memNat d (a + 12) 4,
    paramRow := memNat d (a + 16) 4, tensor := memNat d (a + 20) 2, elemBase := memNat d (a + 24) 8 }

/-! Streams and their window records (05 R128; 06 R161, R162; 07 R199). -/

/-- A stream as the loader reads it. -/
structure StreamView where
  /-- Pavilion -/
  pav : Nat
  /-- Device address -/
  base : Nat
  /-- Instructions -/
  count : Nat
  /-- End of the stream's section -/
  limit : Nat
  deriving DecidableEq, Repr

/-- The stream of microcode directory entry `m`. -/
def streamView (d : Device) (img m : Nat) : StreamView :=
  let e := microAddr d img m
  { pav := memNat d e 1, base := secAddr d img 5 + memNat d (e + 4) 4, count := memNat d (e + 8) 4,
    limit := secAddr d img 5 + secLength d img 5 }

/-- The instructions of a stream. -/
def StreamView.instrs (v : StreamView) (d : Device) : List MicroInstr :=
  (List.range v.count).map (fun i => microAt d (v.base + 16 * i))

/-- The END of a stream: N window records, A attention records (06 R162, 07 R199). -/
def StreamView.tail (v : StreamView) (d : Device) : MicroInstr := microAt d (v.base + 16 * (v.count - 1))

/-- Address of the first record after END (06 R162). -/
def StreamView.records (v : StreamView) : Nat := v.base + (16 * v.count + 31) / 32 * 32

/-- Addresses of the window records (06 R162). -/
def StreamView.windows (v : StreamView) (d : Device) : List Nat :=
  (List.range (v.tail d).n).map (fun i => v.records + 32 * i)

/-- Addresses of the attention records (07 R199). -/
def StreamView.attentions (v : StreamView) (d : Device) : List Nat :=
  (List.range (v.tail d).a).map (fun i => v.records + 32 * ((v.tail d).n + i))

/-- The Hem blocks that a stream runs, with their item counts. -/
def StreamView.hems (v : StreamView) (d : Device) : List (HemBlock × Nat) :=
  ((v.instrs d).filter (fun x => x.op == 4)).map (fun x => (hemAt d (v.base + x.a), x.n))

/-- The streams of a segment. -/
def segStreams (d : Device) (img s : Nat) : List StreamView := (segList d img s 0).map (streamView d img)

/-- Segments of a step program. -/
def progSegs (d : Device) (img i : Nat) : List Nat :=
  (List.range (progSegCount d img i)).map (fun k => progFirstSeg d img i + k)

/-- Output extent of a windowed operator in one direction (06 R161). -/
def windowExtent (n k s dil before after : Nat) (ceil : Bool) : Nat :=
  let e := dil * (k - 1) + 1
  if n + before + after < e then 0
  else
    let m := n + before + after - e
    if !ceil then m / s + 1
    else
      let o := (m + s - 1) / s + 1
      if n + before ≤ (o - 1) * s then o - 1 else o

/-- Output height and width of the window record at `a` (06 R161, Table 6.2). -/
def windowOut (d : Device) (a : Nat) : Nat × Nat :=
  let b := fun o => memNat d (a + o) 1
  let ceil := bitOf (b 2) 0
  (windowExtent (memNat d (a + 4) 2) (b 8) (b 10) (b 12) (b 18) (b 19) ceil,
   windowExtent (memNat d (a + 6) 2) (b 9) (b 11) (b 13) (b 20) (b 21) ceil)

/-! Descriptors (08 R227). -/

/-- The opcode of a descriptor. -/
def descOp (desc : List Byte) : Nat := leField desc 0 1

/-- A mover descriptor's 32 bytes as a job without identity (03 Table 3.3). -/
def moverFields (bs : List Byte) (srcBase dstBase : Nat) : MoverJob :=
  { src := leField bs 0 8 + srcBase, dst := leField bs 8 8 + dstBase, rows := leField bs 16 2,
    blocks := leField bs 18 2, sstride := leField bs 20 4, dstride := leField bs 24 4, flags := leField bs 28 1,
    tag := leField bs 30 2 }

end Sys2Proof.Machine
end

