-- ==== Sys2Proof/Machine/Links.lean ====
section
/-! DEFINITION. Where the units lie on the Pergola, link-slot entries, and how long a Strict row is held (01 R18 to R20;
05 R123, R135, R138, R496). -/
namespace Sys2Proof.Machine

/-! Physical placement (01 Table 1.2, R18, R20; 05 R123). -/

/-- The physical number of logical unit `i` of a mask (00 R4). -/
def physical (mask n i : Nat) : Nat := (bitsSet mask n).getD i 0

/-- The router of an endpoint byte (01 Table 1.2, 05 Table 5.9). -/
def routerOf (d : Device) (e : Nat) : Nat :=
  let u := e % 64
  let p := physical d.chip.pavMask 8 u
  match e / 64 with
  | 0 => 4 * (p / 2) + 2 * (p % 2)
  | 1 => 4 * (p / 2) + 2 * (p % 2) + 1
  | 2 => [0, 1, 2, 3, 7, 11, 15, 14, 13, 12, 8, 4].getD (physical d.chip.ihMask 12 u) 0
  | _ => [5, 6, 9, 10].getD u 0

/-- Distance of two coordinates. -/
def apart (a b : Nat) : Nat := (a - b) + (b - a)

/-- Router-to-router links between two routers (01 R20). -/
def hopCount (a b : Nat) : Nat := apart (a % 4) (b % 4) + apart (a / 4) (b / 4)

/-- The routers of the XY path from `a` to `b`, both included (01 R18). -/
def xyRouters (a b : Nat) : List Nat :=
  let toward := fun (x y : Nat) => if x < y then x + 1 else if y < x then x - 1 else x
  let rec walk : Nat → Nat → List Nat
    | 0, r => [r]
    | n + 1, r =>
      if r == b then [r]
      else if r % 4 != b % 4 then r :: walk n (r / 4 * 4 + toward (r % 4) (b % 4))
      else r :: walk n (toward (r / 4) (b / 4) * 4 + r % 4)
  walk 6 a

/-- The directed links and ports of a path between endpoints, as numbers (05 R135). -/
def pathLinks (d : Device) (src dst : Nat) : List Nat :=
  let rs := xyRouters (routerOf d src) (routerOf d dst)
  [1000 + src] ++ (rs.zip (rs.drop 1)).map (fun l => l.1 * 16 + l.2) ++ [2000 + dst]

/-! Link slots (05 R135, R496). -/

/-- A link-slot entry. -/
structure LinkSlot where
  src : Nat
  dst : Nat
  vc : Nat
  hops : Nat
  first : Nat
  beats : Nat
  slots : Nat
  deriving DecidableEq, Repr

/-- Link-slot entry `l`. -/
def linkSlot (d : Device) (img l : Nat) : LinkSlot :=
  let a := linkAddr d img l
  { src := memNat d a 1, dst := memNat d (a + 1) 1, vc := memNat d (a + 2) 1, hops := memNat d (a + 3) 1,
    first := memNat d (a + 4) 4, beats := memNat d (a + 8) 4, slots := memNat d (a + 12) 4 }

/-- Has the beat counter reached `b`? -/
def beatReached (d : Device) (b : Nat) : Bool := decide (b ≤ d.clock.beat)

/-- The place and the entry of the segment's link-slot list that carries a row from endpoint `src` to endpoint `dst` in beat
`b` of the segment: the first that meets R496. -/
def carryingEntry (links : List LinkSlot) (src dst b : Nat) : Option (LinkSlot × Nat) :=
  links.zipIdx.find? (fun l => l.1.vc == 0 && l.1.src == src && l.1.dst == dst && decide (l.1.first ≤ b) &&
    decide (b < l.1.first + l.1.beats + 2 * l.1.hops))

/-- The link-slot entries of a running segment of queue `q`. -/
def runLinks (d : Device) (q : Nat) (r : SegRun) : List LinkSlot :=
  match stepOf d q with
  | some s => (segList d s.image r.seg 2).map (linkSlot d s.image)
  | none => []

/-- How a Strict row leaves its pavilion now (05 R496). -/
inductive Carry where
  /-- It waits: the slots of its carrying entry are taken in this beat, or an entry carries it later. -/
  | wait
  /-- In a slot of the entry at `place` of the list, whose HOPS are given. -/
  | slot (place hops : Nat)
  /-- In the open slot 19, over the physical hops: no entry carries it. -/
  | openSlot (hops : Nat)
  deriving DecidableEq, Repr

/-- How a row of the run `id` of queue `q` leaves now from endpoint `src` to endpoint `dst`. -/
def carryNow (d : Device) (q id src dst : Nat) : Carry :=
  let free := Carry.openSlot (hopCount (routerOf d src) (routerOf d dst))
  match segRunId d q id with
  | none => free
  | some r =>
    let links := runLinks d q r
    let b := d.clock.beat - r.startBeat
    match carryingEntry links src dst b with
    | some (l, i) =>
      let used := if r.slotBeat == d.clock.beat then tabGet 0 r.slotUse i else 0
      if used < onesBelow l.slots 19 then .slot i l.hops else .wait
    | none => if links.any (fun l => l.vc == 0 && l.src == src && l.dst == dst && decide (b < l.first)) then .wait else free

/-- A slot of the entry at `place` is taken in this beat. -/
def takeSlot (q id place : Nat) (d : Device) : Device :=
  modSegRun q id (fun r =>
    let use := if r.slotBeat == d.clock.beat then r.slotUse else []
    { r with slotBeat := d.clock.beat, slotUse := tabPut place (tabGet 0 use place + 1) use }) d

/-- HOPS of the entry that carries a thread's row sent now, and of a row that no entry carries the physical hop count
(05 R135). -/
def threadHops (d : Device) (q id src dst : Nat) : Nat :=
  let entry := match segRunId d q id with
    | some r => carryingEntry (runLinks d q r) src dst (d.clock.beat - r.startBeat)
    | none => none
  match entry with
  | some l => l.1.hops
  | none => hopCount (routerOf d src) (routerOf d dst)

/-- The beat at whose start a Strict row sent now over `hops` becomes visible in the other Glasshouse (05 R135), or arrives
from it: beat b + 4 + 2 * HOPS. -/
def remoteDue (d : Device) (hops : Nat) : Nat := d.clock.beat + 4 + 2 * hops

/-- The beat until which the Icehouse holds the reply to a Strict request sent now over `hops` (05 R138, 03 Table 3.2):
beat b + 8 + 2 * HOPS. -/
def iceDue (d : Device) (hops : Nat) : Nat := d.clock.beat + 8 + 2 * hops

end Sys2Proof.Machine
end

