-- ==== Sys2Proof/Machine/Glass.lean ====
section
/-! DEFINITION. Glasshouses: credit pools, rows sent and rows arriving, movers, Icehouse requests of Strict steps, scrub
(03 R67 to R94; 05 R137 to R139). -/
namespace Sys2Proof.Machine

/-! Credit pools (03 R81 to R86). -/

/-- B of pool (target g, source s). -/
def poolBase (d : Device) (g s : Nat) : Nat := fld d (GH_POOL_CFG g s) 15 0
/-- L of pool (target g, source s). -/
def poolLen (d : Device) (g s : Nat) : Nat := fld d (GH_POOL_CFG g s) 28 16
/-- ACQ. -/
def poolAcq (d : Device) (g s : Nat) : Nat := rd d (GH_POOL_ACQ g s)
/-- REL. -/
def poolRel (d : Device) (g s : Nat) : Nat := rd d (GH_POOL_REL g s)
/-- REL as the source port has seen it (03 R85); the target's own in Strict mode. -/
def poolRelSeen (d : Device) (g s : Nat) : Nat :=
  if strictMode d then poolRel d g s else tabGet 0 d.comp.relSeen (g * 16 + s)
/-- Rows drawn of those that ACQUIRE entries acquired (03 R86). -/
def poolDrawn (d : Device) (g s : Nat) : Nat := tabGet 0 d.comp.drawn (g * 16 + s)

/-- `a - b` modulo 2^32. -/
def sub32 (a b : Nat) : Nat := (a + 2 ^ 32 - b) % 2 ^ 32

/-- KIND OPEN: B and L are set and the counters cleared (05 Table 5.12). -/
def openPool (g s base len : Nat) (d : Device) : Device :=
  let d := d |> wr (GH_POOL_CFG g s) (base % 2 ^ 16 + len % 2 ^ 13 * 2 ^ 16) |> wr (GH_POOL_ACQ g s) 0
    |> wr (GH_POOL_REL g s) 0
  { d with comp := { d.comp with relSeen := tabPut (g * 16 + s) 0 d.comp.relSeen
                                 drawn := tabPut (g * 16 + s) 0 d.comp.drawn } }

/-- May source `s` acquire `k` rows of pool `g` (03 R83)? -/
def canAcquire (d : Device) (g s k : Nat) : Bool :=
  decide (k + sub32 (poolAcq d g s) (poolRelSeen d g s) ≤ poolLen d g s)

/-- ACQ rises by `k`. -/
def acquireRows (g s k : Nat) (d : Device) : Device := addWrap (GH_POOL_ACQ g s) k d

/-- May source `s` draw `k` rows that ACQUIRE entries acquired (03 R86)? -/
def canDraw (d : Device) (g s k : Nat) : Bool := decide (k ≤ sub32 (poolAcq d g s) (poolDrawn d g s))

/-- `k` rows are drawn (03 R86). -/
def drawRows (g s k : Nat) (d : Device) : Device :=
  { d with comp := { d.comp with drawn := tabPut (g * 16 + s) ((poolDrawn d g s + k) % 2 ^ 32) d.comp.drawn } }

/-- Does row `n` lie in the window of an open pool (03 R84)? -/
def inWindow (d : Device) (g s n : Nat) : Bool :=
  decide (poolBase d g s ≤ n) && decide (n < poolBase d g s + poolLen d g s)

/-- Does the source hold a credit for row `n`: (o - REL) mod L < ACQ - REL (03 R84)? -/
def holdsCredit (d : Device) (g s n : Nat) : Bool :=
  inWindow d g s n &&
    decide ((((n - poolBase d g s : Nat) : Int) - (poolRelSeen d g s : Int)) % (poolLen d g s : Int) <
      (sub32 (poolAcq d g s) (poolRelSeen d g s) : Int))

/-- A release of `k` rows by the target (03 R85); one that would pass ACQ is ignored and counted. -/
def releaseRows (g s k : Nat) (d : Device) : Device :=
  if k ≤ sub32 (poolAcq d g s) (poolRel d g s) then addWrap (GH_POOL_REL g s) k d
  else
    let d := countUp (GH_CREDIT_ERR g) d
    raiseFault 70 (withOwner d g []) [] (s + g * 2 ^ 8 + 2 ^ 34) d

/-! Row accesses. -/

/-- Is Glasshouse `g` fenced (03 R80, R89)? -/
def fenced (d : Device) (g : Nat) : Bool := rbit d (GH_STATUS g) 1

/-- ROW_CONFLICT (03 R75): a meeting on row `n` is recorded while CONFLICT_DBG is 1. -/
def rowMeeting (meets : Bool) (g n : Nat) (d : Device) : Device :=
  if meets && rbit d (GH_CTRL g) 0 then
    d |> countUp (GH_CONFLICT g) |> wr (GH_CONFLICT_ROW g) n |> raiseFault 69 [] [] (n + g * 2 ^ 16)
  else d

/-- The check of row `n` of Glasshouse `g` read or arriving on behalf of the command of queue `q` (03 R88). -/
def checkRow (e : EccEvent) (g n : Nat) (remote : Bool) (queues : List Nat) (d : Device) : Device :=
  match e with
  | .clean => d
  | .corrected => countUp (GH_ECC_CORR g) d
  | .bad w => rowUncorrectable g n w remote queues d

/-- The meetings of an access with others on rows of Glasshouse `g` (03 R73 to R75). -/
def rowsMet (ev : RowEvents) (g : Nat) (rows : List Nat) (d : Device) : Device :=
  forEach (ev.meets.filter rows.contains) (fun n => rowMeeting true g n) d

/-- Rows of Glasshouse `g` are read by the array or the Hem unit on behalf of commands: each is checked (03 R87, R88), and
may meet another access (03 R75). -/
def rowsRead (ev : RowEvents) (g : Nat) (queues rows : List Nat) (d : Device) : Device :=
  d |> forEach (ev.ecc.filter (fun e => rows.contains e.1)) (fun e => checkRow e.2 g e.1 false queues) |> rowsMet ev g rows

/-- The check of a DRAM burst read on behalf of commands (14 Table 14.1 sources 24 to 35). -/
def checkBurst (e : EccEvent) (addr : Nat) (queues : List Nat) (d : Device) : Device :=
  match e with
  | .bad _ =>
    let i := iceOf d addr
    d |> forEach queues withhold |> raiseFault (24 + i.1) queues [] (1 + i.2 * 2 ^ 8 + addr * 2 ^ 16)
  | _ => d

/-- Glasshouse and row of a device address. -/
def rowOf (a : Nat) : Nat × Nat := ((a - 0x010000000000) / 0x4000000, (a - 0x010000000000) % 0x4000000 / 512)

/-- A row is refused at its target (03 R80): fenced, or owned by another command. -/
def refusedAt (d : Device) (g q : Nat) : Bool :=
  fenced d g || (match ownerOf d g with
    | some o => o != q
    | none => false)

/-! Fences of a cluster (04 R111). -/

/-- Fence `n` of cluster `p` advances by one. -/
def advanceFence (p n : Nat) (d : Device) : Device := addWrap (KS_FENCE p n) 1 d

/-- Has a fence reached a value: (fence - v) at least zero as a signed 32-bit value (04 R111)? -/
def fenceReached (d : Device) (p n v : Nat) : Bool := decide (sub32 (rd d (KS_FENCE p n)) (v % 2 ^ 32) < 2 ^ 31)

/-- A call of a run of a thread has completed (04 R110). -/
def callDone (caller : Option (Nat × Nat × Nat × Nat)) (d : Device) : Device :=
  match caller with
  | some (p, c, t, id) =>
    let th := threadOf d p c t
    if th.id == id then setThread p c t { th with calls := th.calls - 1 } d else d
  | none => d

/-! Mover descriptors (03 R77 to R79). -/

/-- Is a descriptor valid for a mover of pavilion `p` (03 R78, 14 R393)? Buffers are already bound; every block of an end
lies in the same target. -/
def moverValid (d : Device) (p : Nat) (j : MoverJob) : Bool :=
  let zero := bitOf j.flags 0
  let credit := bitOf j.flags 1
  let kind : Nat → Nat := fun a => match regionOf d a with
    | .dram => 1
    | .glass g _ => if g == p then 2 else 3 + g
    | _ => 0
  let covers := fun a stride => (List.range j.blocks).all (fun b =>
    populated d (a + b * stride) (j.rows * 512) && kind (a + b * stride) == kind a &&
      !(kind a == 1 && inReserve d (a + b * stride) (j.rows * 512)))
  let aligned := fun a stride =>
    if kind a == 0 then false
    else if kind a == 1 then a % 64 == 0 && stride % 64 == 0
    else a % 512 == 0 && stride % 512 == 0
  decide (1 ≤ j.rows) && decide (j.rows ≤ 4096) && decide (1 ≤ j.blocks) &&
  decide (j.flags < 8) && decide (j.tag < 1024) &&
  aligned j.dst j.dstride && covers j.dst j.dstride && (credit == decide (3 ≤ kind j.dst)) &&
  (zero || (aligned j.src j.sstride && covers j.src j.sstride && ((kind j.src == 2) != (kind j.dst == 2))))

/-- Reserved fields of a raw 32-byte descriptor are zero (03 Table 3.3); ZERO leaves SRC unchecked (03 R78). -/
def moverReservedOk (bs : List Byte) : Bool :=
  (bitOf (leField bs 28 1) 0 || leField bs 6 2 == 0) && leField bs 14 2 == 0 && leField bs 29 1 == 0

/-- Total rows of a descriptor. -/
def MoverJob.total (j : MoverJob) : Nat := j.rows * j.blocks

/-- Descriptors that mover `m` of pavilion `p` holds, first to run first. -/
def moverQueue (d : Device) (p m : Nat) : List MoverJob :=
  d.comp.jobs.filter (fun j => j.pav == p && j.mover == m && decide (j.sent < j.total))

/-- A descriptor is queued on a mover. -/
def addJob (j : MoverJob) (d : Device) : Device :=
  nextId { d with comp := { d.comp with jobs := d.comp.jobs ++ [{ j with id := d.comp.nextJob }] } }

/-- Change a descriptor in progress. -/
def modJob (id : Nat) (f : MoverJob → MoverJob) (d : Device) : Device :=
  { d with comp := { d.comp with jobs := d.comp.jobs.map (fun j => if j.id == id then f j else j) } }

/-- A row of a descriptor is visible at its destination, or refused. -/
def jobRowDone (id : Nat) (d : Device) : Device := modJob id (fun j => { j with visible := j.visible + 1 }) d

/-- Source and destination of row `r` of a descriptor (03 R79). -/
def jobRow (j : MoverJob) (r : Nat) : Nat × Nat :=
  (j.src + r / j.rows * j.sstride + r % j.rows * 512, j.dst + r / j.rows * j.dstride + r % j.rows * 512)

/-- What sent a row or request sees it arrive: a descriptor's row is visible, or refused. -/
def senderDone (s : RowSender) (d : Device) : Device :=
  match s with
  | .mover id => jobRowDone id d
  | _ => d

/-- A store of the thread `tid` leaves the thread's own reservation as it was (04 R114: another agent). -/
def keepOwnResv (tid : Nat) (f : Device → Device) (d : Device) : Device :=
  let own := d.mems.resv.filter (fun r => r.1 == tid)
  let d := f d
  { d with mems := { d.mems with resv := own ++ d.mems.resv.filter (fun r => r.1 != tid) } }

/-! Data on its way: rows to other Glasshouses, rows that crossings hold, requests that Icehouses hold. -/

/-- What a sender writes leaves that sender's own reservation as it was (04 R114). -/
def senderWrite (s : RowSender) (f : Device → Device) : Device → Device :=
  match s with
  | .thread p c t => keepOwnResv (p * 64 + c * 16 + t) f
  | _ => f

/-- Identifiers of the stores of a thread that are not yet complete (04 R103). -/
def storesOf (d : Device) (s : RowSender) : List Nat :=
  match s with
  | .thread _ _ _ =>
    (d.comp.flights.filter (fun r => r.sender == s)).map (·.id) ++ (d.comp.held.filter (fun r => r.sender == s)).map (·.id) ++
      (d.comp.ice.filter (fun r => r.sender == s)).map (·.id)
  | _ => []

/-- No earlier store of the same thread is still on its way: stores complete in order (04 Table 4.3). -/
def storeTurn (d : Device) (s : RowSender) (id : Nat) : Bool := !(storesOf d s).any (fun i => decide (i < id))

/-- A row goes to the crossing into Glasshouse `g` that holds it (05 R137). -/
def holdRow (r : HeldRow) (d : Device) : Device :=
  nextId { d with comp := { d.comp with held := d.comp.held ++ [{ r with id := d.comp.nextJob, beat := d.clock.beat }] } }

/-- A request goes to an Icehouse that holds it (05 R138). -/
def holdRequest (r : IceRequest) (d : Device) : Device :=
  nextId { d with comp := { d.comp with ice := d.comp.ice ++ [{ r with id := d.comp.nextJob }] } }

/-- A Throughput acquisition of one row that cannot succeed: a credit stall (03 R83). -/
def creditStall (d : Device) (g src : Nat) (strict needCredit : Bool) : Bool :=
  needCredit && !strict && !canAcquire d g src 1

/-- A row leaves for a remote Glasshouse (03 R83, R84, R86): the credit is acquired or drawn, the source port checks
the row, and it travels; in Strict mode the target's crossing holds it until beat `due` (05 R135). -/
def sendRemote (sender : RowSender) (src q g n : Nat) (strict : Bool) (due : Nat) (needCredit : Bool) (data : List Byte)
    (d : Device) : Device :=
  let refuse := fun d => senderDone sender (creditViolation src src g n 1 [q] d)
  let send := fun (d : Device) =>
    if holdsCredit d g src n then
      nextId { d with comp := { d.comp with flights := d.comp.flights ++ [{ sender := sender, source := src, target := g, row := n, data := data, queue := q, ticket := ticketNow d q, id := d.comp.nextJob, beat := d.clock.beat, held := strict, due := due }] } }
    else refuse d
  if !needCredit then send d
  else if strict then
    if canDraw d g src 1 then send (drawRows g src 1 d) else refuse d
  else if canAcquire d g src 1 then send (acquireRows g src 1 d)
  else refuse d

/-- The next row of a descriptor goes over the Pergola to endpoint `dst`: at once in Throughput mode, in a slot of the entry
that carries it in Strict mode (05 R496); `f` sends it, given the hops. Where it waits for a slot, nothing happens. -/
def leaveBy (j : MoverJob) (dst : Nat) (f : Nat → Device → Device) (d : Device) : Device :=
  if !stepStrict d j.queue then f 0 d
  else match carryNow d j.queue j.run (j.mover * 64 + j.pav) dst with
    | .wait => d
    | .slot place hops => d |> takeSlot j.queue j.run place |> f hops
    | .openSlot hops => f hops d

/-- Is a mover's row to a DRAM address refused: in the key-value ranges, outside what the Cloakroom added to the windows of the
command (07 R186)? The row is dropped (Assumption 99). -/
def kvRefused (d : Device) (q a : Nat) : Bool :=
  inKv d a 512 && !(((stepOf d q).map (·.kvWins)).getD []).any (fun b => decide (b.1 ≤ a) && decide (a + 512 ≤ b.1 + b.2))

/-- A row of a descriptor goes to its destination (03 R79, R83; 05 R138); `read` is what its reading does where it leaves. -/
def deliverRow (j : MoverJob) (dst : Nat) (meets : Bool) (read : Device → Device) (data : List Byte) (d : Device) : Device :=
  let strict := stepStrict d j.queue
  let sent := fun d => modJob j.id (fun j => { j with sent := j.sent + 1 }) (read d)
  match regionOf d dst with
  | .glass g off =>
    if g == j.pav then d |> rowPut g (off / 512) data |> rowMeeting meets g (off / 512) |> sent |> jobRowDone j.id
    else if creditStall d g j.pav strict (bitOf j.flags 1) then d
    else leaveBy j (j.mover * 64 + g) (fun hops d =>
      d |> sent |> sendRemote (.mover j.id) j.pav j.queue g (off / 512) strict (if strict then remoteDue d hops else 0)
        (bitOf j.flags 1) data) d
  | .dram =>
    if kvRefused d j.queue dst then sent d |> jobRowDone j.id
    else leaveBy j (128 + (iceOf d dst).1) (fun hops d =>
      if strict then
        d |> sent |> holdRequest { sender := .mover j.id, queue := j.queue, write := some [(dst, data)], due := iceDue d hops }
      else d |> memPut dst data |> sent |> jobRowDone j.id) d
  | _ => d |> sent |> jobRowDone j.id

/-- The next row of a descriptor is read where it lies and delivered (03 R79, R80; 05 R138). -/
def moveRow (j : MoverJob) (ecc : EccEvent) (meets : MoveMeets) (d : Device) : Device :=
  let ends := jobRow j j.sent
  let strict := stepStrict d j.queue
  let sent := modJob j.id (fun j => { j with sent := j.sent + 1 })
  if bitOf j.flags 0 then deliverRow j ends.2 meets.write id (List.replicate 512 0) d
  else match regionOf d ends.1 with
    | .dram => leaveBy j (128 + (iceOf d ends.1).1) (fun hops d =>
        if strict then
          d |> sent |> holdRequest { sender := .mover j.id, queue := j.queue, addr := ends.1, dest := ends.2, due := iceDue d hops }
        else d |> checkBurst ecc ends.1 [j.queue] |> deliverRow j ends.2 meets.write id (memBytes d ends.1 512)) d
    | .glass g off =>
      let n := off / 512
      let read := fun d => d |> checkRow ecc g n false [j.queue] |> rowMeeting meets.read g n
      if g == j.pav then deliverRow j ends.2 meets.write read (rowBytes d g n) d
      else leaveBy j (j.mover * 64 + g) (fun hops d =>
        if refusedAt d g j.queue then d |> creditViolation g j.pav g n 2 [j.queue] |> sent |> jobRowDone j.id
        else if strict then
          d |> read |> sent |> holdRow { sender := .mover j.id, dom := 24 + j.pav, glass := j.pav, row := (rowOf ends.2).2,
                                         data := rowBytes d g n, queue := j.queue, due := remoteDue d hops }
        else d |> read |> deliverRow j ends.2 meets.write id (rowBytes d g n)) d
    | _ => d |> sent |> jobRowDone j.id

/-- MOVER_ROW_SEND: mover `m` of pavilion `p` reads its next row and sends it (03 R79, R83; 05 R138, R496). -/
def moverRowSend (p m : Nat) (ecc : EccEvent) (meets : MoveMeets) (d : Device) : Device :=
  match moverQueue d p m with
  | [] => d
  | j :: _ => moveRow j ecc meets d

/-- The rows in flight that no crossing holds any more and no earlier store of the same thread goes before (05 R135, R137;
04 Table 4.3). -/
def arrivingRows (d : Device) : List RowFlight :=
  d.comp.flights.filter (fun r => !r.held && beatReached d r.due && storeTurn d r.sender r.id)

/-- The command on whose behalf a row in flight travels, while it is in flight itself. -/
def flightQueues (d : Device) (r : RowFlight) : List Nat := if ticketNow d r.queue == r.ticket then [r.queue] else []

/-- The `i`-th of those rows arrives at its target and is checked (03 R84, R87, R88). -/
def remoteArrival (i : Nat) (ecc : EccEvent) (meets : Bool) (d : Device) : Device :=
  match (arrivingRows d)[i]? with
  | none => d
  | some r =>
    let qs := flightQueues d r
    let d := { d with comp := { d.comp with flights := d.comp.flights.erase r } }
    if r.poolClosed || refusedAt d r.target r.queue || !inWindow d r.target r.source r.row then
      senderDone r.sender (creditViolation r.target r.source r.target r.row 0 qs d)
    else
      d |> checkRow ecc r.target r.row true qs |> rowPut r.target r.row r.data |> rowMeeting meets r.target r.row
        |> senderDone r.sender

/-! Crossings into a Glasshouse and Icehouses in Strict mode (05 R137, R138). -/

/-- The release offset k of the crossing from domain `dom` into domain `dst`: 1, or what entries in effect raise it to
(05 R137). -/
def crossingOffset (d : Device) (dom dst : Nat) : Nat :=
  d.comp.steps.foldl (fun m s => s.2.segs.foldl (fun m r => r.crossings.foldl (fun m x =>
    if x.1 == dom * 256 + dst then max m x.2 else m) m) m) 1

/-- Does the crossing into Glasshouse `g` release a row that it holds since beat `b`? -/
def heldReleased (d : Device) (g b : Nat) (r : HeldRow) : Bool :=
  r.glass == g && r.beat == b && beatReached d (max (b + crossingOffset d r.dom (8 + g)) r.due) && storeTurn d r.sender r.id

/-- A row that a crossing releases is in its bank. -/
def landRow (meets : List Nat) (r : HeldRow) (d : Device) : Device :=
  d |> rowPut r.glass r.row r.data |> rowMeeting (meets.contains r.row) r.glass r.row |> senderDone r.sender

/-- CROSSING_RELEASE: the crossings into Glasshouse `g` release, in order, the rows written in beat `b`, each at beat b + k of
its crossing: rows of the Hem unit, of the cluster and of remote reads become visible; a row in flight to the Glasshouse
may arrive (05 R135, R137). -/
def crossingRelease (g b : Nat) (meets : List Nat) (d : Device) : Device :=
  let rows := d.comp.held.filter (heldReleased d g b)
  let pass := beatReached d (b + crossingOffset d (24 + g) (8 + g))
  let free := fun (r : RowFlight) => if pass && r.target == g && r.beat == b then { r with held := false } else r
  let d := { d with comp := { d.comp with held := d.comp.held.filter (fun r => !heldReleased d g b r)
                                          flights := d.comp.flights.map free } }
  forEach rows (landRow meets) d

/-- May the Icehouse release a request: its 4 beats have passed, and no earlier store of the same thread is on its way? -/
def iceReleased (d : Device) (r : IceRequest) : Bool := beatReached d r.due && storeTurn d r.sender r.id

/-- ICEHOUSE_REPLY: the first Strict request whose 4 beats have passed is released: a read's row is written, a write is
visible (05 R138). DESIGN CHOICE (Assumption 97): a read gives the bytes as they stand at the release. -/
def iceReply (ecc : EccEvent) (meets : Bool) (d : Device) : Device :=
  match d.comp.ice.find? (iceReleased d) with
  | none => d
  | some r =>
    let d := { d with comp := { d.comp with ice := d.comp.ice.filter (fun x => x.id != r.id) } }
    match r.write with
    | some ws => d |> senderWrite r.sender (forEach ws (fun w => memPut w.1 w.2)) |> senderDone r.sender
    | none =>
      let t := rowOf r.dest
      d |> checkBurst ecc r.addr [r.queue] |> rowPut t.1 t.2 (memBytes d r.addr 512) |> rowMeeting meets t.1 t.2
        |> senderDone r.sender

/-- MOVER_DESCRIPTOR_COMPLETE: every row is visible; NOTIFY advances fence TAG of the pavilion's cluster (04 R111). -/
def moverComplete (id : Nat) (d : Device) : Device :=
  match d.comp.jobs.find? (fun j => j.id == id) with
  | some j =>
    if j.total ≤ j.sent && j.total ≤ j.visible then
      let d := { d with comp := { d.comp with jobs := d.comp.jobs.filter (fun k => k.id != id) } }
      d |> applyIf (bitOf j.flags 2) (advanceFence j.pav j.tag) |> callDone j.caller
    else d
  | none => d

/-- CREDIT_RETURN: REL of pool (g, s) as the source port now sees it (03 R85). -/
def creditReturn (g s : Nat) (d : Device) : Device :=
  { d with comp := { d.comp with relSeen := tabPut (g * 16 + s) (poolRel d g s) d.comp.relSeen } }

/-! Scrub (03 R89 to R92). -/

/-- The rows of Glasshouse `g` are zeroed. -/
def zeroGlass (g : Nat) (d : Device) : Device := memZero (rowAddr g 0) 0x2000000 d

/-- The four local memories of cluster `g` are zeroed (04 R118). -/
def zeroLocals (g : Nat) (d : Device) : Device :=
  forEach (List.range 4) (fun c d => memZero (localAddr (4 * g + c)) 0x20000 d) d

/-- LOCAL_CLEAR_COMPLETE: zeroing of the local memories of cluster `g` ends (04 R118). -/
def localClearComplete (g : Nat) (d : Device) : Device :=
  if rbit d (KS_STATUS g) 1 then d |> zeroLocals g |> setBit (KS_STATUS g) 1 false |> forEach (busyQueues d) finishEnded
  else d

/-- SCRUB commands that wait for Glasshouse `g` see it done; one with none left completes (03 R91). -/
def scrubDoneFor (g q : Nat) (d : Device) : Device :=
  match cmdOf d q with
  | some c =>
    if c.scrubbing.contains g then
      let left := c.scrubbing.filter (· != g)
      let d := modCmd q (fun c => { c with scrubbing := left }) d
      if left.isEmpty then finishExec q d else d
    else d
  | none => d

/-- SCRUB_COMPLETE of Glasshouse `g`: all rows are zero, the fence lifts, a killed command's Glasshouse becomes unowned;
the shorter clearing of the cluster's local memories has ended too (03 R89, R92; 04 R118). -/
def scrubComplete (g : Nat) (d : Device) : Device :=
  if rbit d (GH_STATUS g) 0 then
    let owner := ownerOf d g
    let d := d |> zeroGlass g |> setBit (GH_STATUS g) 0 false |> setBit (GH_STATUS g) 1 false
      |> applyIf (rbit d (KS_STATUS g) 1) (fun d => d |> zeroLocals g |> setBit (KS_STATUS g) 1 false)
    match owner with
    | some q => d |> recordFlags [g] |> freePavilion g |> finishEnded q
    | none => forEach (busyQueues d) (scrubDoneFor g) d
  else d

end Sys2Proof.Machine
end

