-- ==== Sys2Proof/Machine/Cells.lean ====
section
/-! DEFINITION. The pavilion array: operand layout, products and accumulation (02 R35 to R59). -/
namespace Sys2Proof.Machine

/-! Formats (05 Table 5.6). -/

/-- Is the code an integer format? -/
def fmtIsInt (c : Nat) : Bool := c == 0x01 || c == 0x02 || c == 0x03

/-- Is the code one of Table 5.6? -/
def fmtKnown (c : Nat) : Bool :=
  fmtIsInt c || (decide (0x10 ≤ c) && decide (c ≤ 0x16)) || c == 0x20 || c == 0x21 || c == 0x22

/-- The element format of a float code. -/
def fmtElem (c : Nat) : FFmt :=
  match c with
  | 0x10 => e4m3
  | 0x11 => e5m2
  | 0x12 => e4m3
  | 0x13 => e5m2
  | 0x14 => e2m3
  | 0x15 => e3m2
  | 0x16 => e2m1
  | 0x20 => bf16
  | 0x21 => fp16
  | _ => fp32

/-- MXFP8? -/
def fmtMx8 (c : Nat) : Bool := c == 0x12 || c == 0x13
/-- MXFP6? -/
def fmtMx6 (c : Nat) : Bool := c == 0x14 || c == 0x15
/-- MXFP4? -/
def fmtMx4 (c : Nat) : Bool := c == 0x16
/-- An MX format? -/
def fmtMx (c : Nat) : Bool := fmtMx8 c || fmtMx6 c || fmtMx4 c
/-- FP8? -/
def fmtFp8 (c : Nat) : Bool := c == 0x10 || c == 0x11
/-- A 16-bit float? -/
def fmtHalf (c : Nat) : Bool := c == 0x20 || c == 0x21

/-- Bits of one stored element. -/
def fmtBits (c : Nat) : Nat :=
  if c == 0x01 || fmtMx4 c then 4 else if fmtMx6 c then 6 else if fmtHalf c then 16
  else if c == 0x03 || c == 0x22 || c == 0 then 32 else 8

/-- A pairing of Table 2.1, weights then activations. -/
def pairingOk (w a : Nat) : Bool :=
  (w == 0x02 && a == 0x02) || (w == 0x01 && a == 0x02) || (w == 0x01 && a == 0x01) || (fmtFp8 w && fmtFp8 a) ||
  (fmtMx8 w && fmtMx8 a) || (fmtMx6 w && (fmtMx6 a || fmtMx8 a)) || (fmtMx4 w && (fmtMx4 a || fmtMx8 a || fmtMx6 a)) ||
  (w == 0x20 && a == 0x20) || (w == 0x21 && a == 0x21)

/-- A pairing that 2:4 sparsity applies to (02 R57). -/
def sparseOk (w a : Nat) : Bool :=
  (w == 0x02 && a == 0x02) || (w == 0x01 && a == 0x02) || (w == 0x01 && a == 0x01) || (fmtFp8 w && fmtFp8 a)

/-- Two weight columns share a row (02 R40): 4-bit weights with wider activations. -/
def columnsShare (w a : Nat) : Bool := (w == 0x01 && a == 0x02) || (fmtMx4 w && !fmtMx4 a)

/-- Weight rows of a tile, without scale or metadata rows (02 Table 2.1). -/
def weightRows (w a : Nat) : Nat := if columnsShare w a then 128 else 256

/-- Scale or metadata rows of a tile (02 Table 2.1, Table 2.5). -/
def extraRows (w a : Nat) (sparse : Bool) : Nat :=
  if sparse then if w == 0x01 && a == 0x01 then 128 else 64
  else if fmtMx8 w then 8 else if fmtMx4 w then if fmtMx4 a then 16 else 8
  else 0

/-- The row count of a TILE (05 Table 5.7). -/
def tileRows (w a : Nat) (sparse : Bool) : Nat := weightRows w a + extraRows w a sparse

/-- Weight elements that one column keeps per pass (02 Table 2.1, Table 2.5). -/
def columnElems (w a : Nat) : Nat :=
  if (w == 0x01 && a == 0x01) || (fmtMx4 w && fmtMx4 a) then 1024 else if fmtHalf w then 256 else 512

/-- Element `i` of a row from byte `off` (02 Table 2.2). -/
def elemCode (fmt : Nat) (row : List Byte) (off i : Nat) : Nat :=
  match fmtBits fmt with
  | 4 => fieldOf (leField row (off + i / 2) 1) (if i % 2 = 0 then 3 else 7) (if i % 2 = 0 then 0 else 4)
  | 6 => fieldOf (leField row (off + 6 * i / 8) 2) (6 * i % 8 + 5) (6 * i % 8)
  | 16 => leField row (off + 2 * i) 2
  | 32 => leField row (off + 4 * i) 4
  | _ => leField row (off + i) 1

/-- The 32-bit words of a 512-byte row. -/
def rowWords (row : List Byte) : List Word := (List.range 128).map (fun i => BitVec.ofNat 32 (leField row (4 * i) 4))

/-- Code of kept weight `i` of column `j` of a tile (02 R40). -/
def weightCode (t : Tile) (j i : Nat) : Nat :=
  if columnsShare t.wfmt t.afmt then elemCode t.wfmt (t.rows.getD (j / 2) []) (j % 2 * 256) i
  else elemCode t.wfmt (t.rows.getD j []) 0 i

/-- Scale code of block `b` of weight column `j` (02 R41); 127 where the format has none. -/
def weightScale (t : Tile) (j b : Nat) : Nat :=
  if fmtMx6 t.wfmt then leField (t.rows.getD j []) (384 + b) 1
  else if fmtMx8 t.wfmt || fmtMx4 t.wfmt then
    let s := columnElems t.wfmt t.afmt / 32
    let g := 512 / s
    leField (t.rows.getD (weightRows t.wfmt t.afmt + j / g) []) (j % g * s + b) 1
  else 127

/-- The metadata nibble of group `g` of column `j` of a sparse tile (02 R58, R59). -/
def sparseNibble (t : Tile) (j g : Nat) : Nat :=
  let c := if t.wfmt == 0x01 && t.afmt == 0x01 then 2 else 4
  let row := t.rows.getD (weightRows t.wfmt t.afmt + j / c) []
  elemCode 0x01 row (j % c * (512 / c)) g

/-- An activation vector as it enters the array: its rows (two in sparse mode, 02 R57) and its scale bytes. -/
structure ActVector where
  /-- Rows -/
  rows : List (List Byte)
  /-- Scale row and first byte of the vector's scales (02 R41) -/
  scales : List Byte
  deriving DecidableEq, Repr

/-- Activation elements per row (02 Table 2.2); MXFP4 and INT4 hold 1,024. -/
def rowElems (fmt : Nat) : Nat := match fmtBits fmt with
  | 4 => 1024
  | 16 => 256
  | _ => 512

/-- Code of activation element `k` (02 R40). -/
def actCode (fmt : Nat) (v : ActVector) (k : Nat) : Nat :=
  elemCode fmt (v.rows.getD (k / rowElems fmt) []) 0 (k % rowElems fmt)

/-- Scale code of activation block `b`. -/
def actScale (fmt : Nat) (v : ActVector) (b : Nat) : Nat :=
  if fmtMx6 fmt then leField (v.rows.getD 0 []) (384 + b) 1
  else if fmtMx8 fmt || fmtMx4 fmt then leField v.scales b 1
  else 127

/-- The pairs (activation index, weight index) that column `j` multiplies, in ascending reduction order (02 R58). -/
def productPairs (t : Tile) (j : Nat) : List (Nat × Nat) :=
  (List.range (columnElems t.wfmt t.afmt)).map (fun i =>
    if t.sparse then
      let nib := sparseNibble t j (i / 2)
      (4 * (i / 2) + (if i % 2 = 0 then nib % 4 else nib / 4), i)
    else (i, i))

/-- The exact integer column sum (02 R43). -/
def intColumn (t : Tile) (v : ActVector) (j : Nat) : Int :=
  (productPairs t j).foldl (fun s p =>
    s + signedOf (fmtBits t.afmt) (actCode t.afmt v p.1) * signedOf (fmtBits t.wfmt) (weightCode t j p.2)) 0

/-- Exact sum of products with the flags its special values raise (02 R47); the empty sum is answered by the first. -/
def sumProducts (ps : List (FVal × FVal)) : FVal × Nat :=
  match ps.map (fun p => (mulF p.1 p.2, isNanF p.1 || isNanF p.2)) with
  | [] => (.fin false 0 0, 0)
  | q :: qs =>
    let gen := (q :: qs).any (fun r => isNanF r.1 && !r.2)
    let nanIn := (q :: qs).any (·.2)
    let s := qs.foldl (fun a r => addF a r.1) q.1
    let clash := isNanF s && (q :: qs).all (fun r => !isNanF r.1)
    (s, flagIf nanIn fNanIn ||| flagIf (gen || clash) fNanGen)

/-- One group of 32 reduction indices of an FP8 or MX column (02 R54): the rounded group sum and its flags. -/
def groupSum (t : Tile) (v : ActVector) (j g : Nat) (ps : List (Nat × Nat)) : FVal × Nat :=
  let sa := actScale t.afmt v g
  let sw := weightScale t j g
  if sa == 0xFF || sw == 0xFF then (.nan, fNanScale ||| fNanIn)
  else
    let s := sumProducts (ps.map (fun p =>
      (decodeF (fmtElem t.afmt) (actCode t.afmt v p.1), decodeF (fmtElem t.wfmt) (weightCode t j p.2))))
    let scaled := scaleF s.1 ((sa : Int) + (sw : Int) - 254)
    let r := opResult [] scaled
    (decodeF fp32 r.1, s.2 ||| (if isNanF scaled then 0 else r.2))

/-- One step of an FP32 chain: RNE32(acc + x), flags for a new NaN or an overflow (02 R54 to R56). -/
def chainAdd (acc : Nat) (x : FVal) : Nat × Nat :=
  let a := decodeF fp32 acc
  let s := addF a x
  let r := opResult [] s
  (r.1, if isNanF a || isNanF x then 0 else r.2)

/-- The FP8 or MX chain of column `j` from initial value `acc` (02 R54). -/
def groupChain (t : Tile) (v : ActVector) (j acc : Nat) : Nat × Nat :=
  let ps := productPairs t j
  let n := columnElems t.wfmt t.afmt * (if t.sparse then 2 else 1) / 32
  let per := ps.length / n
  (List.range n).foldl (fun a g =>
    let s := groupSum t v j g ((ps.drop (g * per)).take per)
    let r := chainAdd a.1 s.1
    (r.1, a.2 ||| s.2 ||| r.2)) (acc, 0)

/-- The BF16 or FP16 fused chain of column `j` (02 R55). -/
def fusedChain (t : Tile) (v : ActVector) (j acc : Nat) : Nat × Nat :=
  (productPairs t j).foldl (fun a p =>
    let x := decodeF (fmtElem t.afmt) (actCode t.afmt v p.1)
    let w := decodeF (fmtElem t.wfmt) (weightCode t j p.2)
    let nanIn := isNanF x || isNanF w
    let prod := mulF x w
    let r := chainAdd a.1 prod
    (r.1, a.2 ||| r.2 ||| flagIf nanIn fNanIn ||| flagIf (isNanF prod && !nanIn) fNanGen)) (acc, 0)

/-- One vector against one column: the entry's new 48-bit pattern and the flags. -/
def columnResult (t : Tile) (v : ActVector) (j : Nat) (old : BitVec 48) : BitVec 48 × Nat :=
  if fmtIsInt t.wfmt then (BitVec.ofInt 48 (old.toInt + intColumn t v j), 0)
  else
    let r := if fmtHalf t.wfmt then fusedChain t v j (old.toNat % 2 ^ 32) else groupChain t v j (old.toNat % 2 ^ 32)
    (BitVec.ofNat 48 r.1, r.2)

/-- One vector through the array into an accumulator entry (02 R36, R43, R54, R55). -/
def vectorResult (t : Tile) (v : ActVector) (old : AccEntry) : AccEntry × Nat :=
  let outs := (List.range 256).map (fun j => columnResult t v j (old.cols.getD j 0))
  ({ isFloat := !fmtIsInt t.wfmt, cols := outs.map (·.1) }, outs.foldl (fun a o => a ||| o.2) 0)

/-! The store of a pavilion. -/

/-- Accumulator entry `e` of bank `b` of pavilion `p`; one that the command has not written is zero after a KILL, and
otherwise free (02 R39). -/
def accOf (d : Device) (p b e : Nat) : AccEntry :=
  let v := pavOf d p
  let k := b * 1024 + e % 1024
  tabGet (match v.era with
    | none => {}
    | some n => { isFloat := (Config.unwritten n (k * 257 + 256)).toNat % 2 == 1,
                  cols := (List.range 256).map (fun j => Config.unwritten n (k * 257 + j)) }) v.acc k

/-- Replace an accumulator entry. -/
def setAcc (p b e : Nat) (v : AccEntry) (d : Device) : Device :=
  modPav p (fun x => { x with acc := tabPut (b * 1024 + e % 1024) v x.acc }) d

/-- Arithmetic flags are raised in PV_ARITH_FLAGS and in the running command's record (02 R64). -/
def raiseFlags (p flags : Nat) (d : Device) : Device :=
  d |> orBits (PV_ARITH_FLAGS p) flags |> modPav p (fun v => { v with record := v.record ||| flags })

/-- TILE: the rows go to the shadow registers and await the swap wave (02 R37). -/
def loadTile (p w a : Nat) (sparse : Bool) (row n : Nat) (d : Device) : Device :=
  let rows := (List.range n).map (fun i => rowBytes d p ((row + i) % 65536))
  modPav p (fun v => { v with shadow := { wfmt := w, afmt := a, sparse := sparse, rows := rows }, swapDue := true }) d

/-- The swap wave: the shadow tile becomes active (02 R37). -/
def swapWave (p : Nat) (d : Device) : Device :=
  modPav p (fun v => if v.swapDue then { v with active := v.shadow, shadow := v.active, swapDue := false } else v) d

/-- Vector `k` of a STREAM: its rows and scales (05 Table 5.7, 02 R41). -/
def streamVector (d : Device) (p : Nat) (t : Tile) (row step scaleRow k : Nat) : ActVector :=
  let r := row + k * step
  let rows := if t.sparse then [rowBytes d p (r % 65536), rowBytes d p ((r + 1) % 65536)] else [rowBytes d p (r % 65536)]
  let s := if fmtMx4 t.afmt then 32 else 16
  let g := 512 / s
  { rows := rows, scales := sliceBytes (rowBytes d p ((scaleRow + k / g) % 65536)) (k % g * s) s }

/-- What a vector through weight registers that the command has not loaded gives: a free entry and free flags (02 R39). -/
def unloadedResult (n : Nat) : AccEntry × Nat :=
  ({ isFloat := (Config.unwritten n 256).toNat % 2 == 1, cols := (List.range 256).map (Config.unwritten n) },
    (Config.unwritten n 257).toNat % 256)

/-- Rows `a` to `a + n`, wrapping at the end of the Glasshouse. -/
def rowRange (a n : Nat) : List Nat := (List.range n).map (fun i => (a + i) % 65536)

/-- Scale rows that a STREAM of `n` vectors reads for an activation format (02 R41). -/
def streamScaleRows (afmt n : Nat) : Nat :=
  if fmtMx8 afmt then (n + 31) / 32 else if fmtMx4 afmt then (n + 15) / 16 else 0

/-- The rows that a STREAM reads: those of its vectors, two each in sparse mode, and its scale rows (02 R41, R57). -/
def streamRows (d : Device) (p n row step scaleRow : Nat) : List Nat :=
  let t := (pavOf (swapWave p d) p).active
  (List.range n).flatMap (fun k => rowRange (row + k * step) (if t.sparse then 2 else 1)) ++
    rowRange scaleRow (streamScaleRows t.afmt n)

/-- STREAM: `n` vectors through the active tile into consecutive entries (02 R36 to R38, 05 Table 5.7). -/
def streamVectors (p n row step scaleRow bank entry : Nat) (d : Device) : Device :=
  let d := swapWave p d
  forEach (List.range n) (fun k d =>
    let t := (pavOf d p).active
    if t.rows.isEmpty then
      let r := unloadedResult d.freeCtr
      d |> setAcc p bank (entry + k) r.1 |> raiseFlags p r.2 |> nextFree
    else
      let r := vectorResult t (streamVector d p t row step scaleRow k) (accOf d p bank (entry + k))
      d |> setAcc p bank (entry + k) r.1 |> raiseFlags p r.2) d

/-- ACC_INIT: `n` entries to zero or to values from rows (02 R38, 05 Table 5.7); a NaN that enters so sets NAN_IN
(02 R47). -/
def initAcc (p n bank entry : Nat) (fromRow : Option Nat) (float : Bool) (d : Device) : Device :=
  forEach (List.range n) (fun k d =>
    let words := match fromRow with
      | none => []
      | some a => rowWords (rowBytes d p ((a + 2 * k) % 65536)) ++ rowWords (rowBytes d p ((a + 2 * k + 1) % 65536))
    let cols := (List.range 256).map (fun j =>
      let w : Word := words.getD j 0
      if float then BitVec.ofNat 48 w.toNat else w.signExtend 48)
    let nan := float && words.any (fun w => isNanF (decodeF fp32 w.toNat))
    d |> setAcc p bank (entry + k) { isFloat := float, cols := cols } |> raiseFlags p (flagIf nan fNanIn)) d

end Sys2Proof.Machine
end

