-- ==== Sys2Proof/Machine/Hem.lean ====
section
/-! DEFINITION. The Hem unit: parameter blocks over items, conversion, requantisation, element-wise functions,
reductions, transcendental primitives, row writes and signature records (02 R47 to R62; 05 R131, R495). -/
namespace Sys2Proof.Machine

/-- One lane as a function reads it: a 48-bit accumulator integer, or 32 bits. -/
inductive Lane where
  /-- A lane of an integer accumulator entry. -/
  | acc (v : Int)
  /-- A lane of a vector register or of a float entry. -/
  | bits (w : Nat)
  deriving DecidableEq, Repr

/-- Vector register `r` of pavilion `p`, 512 lanes. -/
def vreg (d : Device) (p r : Nat) : List Word := tabGet [] (pavOf d p).vregs r

/-- Lane `c` of vector register `r`. -/
def vlane (d : Device) (p r c : Nat) : Nat := ((vreg d p r).getD c 0).toNat

/-- Write vector register `r`. -/
def setVreg (p r : Nat) (ws : List Nat) (d : Device) : Device :=
  modPav p (fun v => { v with vregs := tabPut r (ws.map (BitVec.ofNat 32)) v.vregs }) d

/-- The lanes that item `v` of a block takes as its first operand (05 R495). -/
def srcLanes (d : Device) (p : Nat) (h : HemBlock) (v : Nat) : List Lane :=
  if bitOf h.ctrl 2 then
    let b := if bitOf h.ctrl 3 then 1 else 0
    let half := fun e => (List.range 256).map (fun c =>
      let x := accOf d p b e
      let w := x.cols.getD c 0
      if x.isFloat then Lane.bits (w.toNat % 2 ^ 32) else Lane.acc w.toInt)
    half (h.src + v) ++ half (h.src + v + 512)
  else (List.range 512).map (fun c => Lane.bits (vlane d p (h.src + v) c))

/-- A lane read by a float function: an integer entry is saturated to INT32 and converted to FP32 (05 R495, 02 R43). -/
def laneFloat (l : Lane) : FVal × Nat :=
  match l with
  | .acc v => let s := satInt 32 v; (decodeF fp32 (encodeRne fp32 (ofIntF s.1)), flagIf s.2 fAccSat)
  | .bits w => (decodeF fp32 w, 0)

/-- A lane read by an integer function (05 R495). -/
def laneInt (l : Lane) : Int :=
  match l with
  | .acc v => v
  | .bits w => signedOf 32 w

/-- What a block computes for one lane: the FP32 code or the integer, and the flags. -/
inductive LaneOut where
  /-- A float result as FP32 code. -/
  | flt (code : Nat)
  /-- An integer result within INT32. -/
  | int (v : Int)
  deriving DecidableEq, Repr

/-- The 32 bits a register holds for a result. -/
def LaneOut.word (o : LaneOut) : Nat :=
  match o with
  | .flt c => c
  | .int v => patternOf 32 v

/-- The value a result stands for. -/
def LaneOut.val (o : LaneOut) : FVal :=
  match o with
  | .flt c => decodeF fp32 c
  | .int v => ofIntF v

/-- An integer result: exact, saturated to 48 bits, then to INT32; either saturation sets REQ_SAT (05 R495). -/
def intOut (v : Int) : LaneOut × Nat :=
  let a := satInt 48 v
  let b := satInt 32 a.1
  (.int b.1, flagIf (a.2 || b.2) fReqSat)

/-- Element-wise min or max of floats (05 R495): NaN if either is NaN; between +0 and -0 the SRC operand. -/
def floatPick (least : Bool) (a b : FVal) : FVal :=
  if isNanF a || isNanF b then .nan
  else match cmpF a b with
    | .eq => a
    | .lt => if least then a else b
    | .gt => if least then b else a

/-- An ELEMENT float function (codes 0 to 9) on one lane: `z` is the DST lane's bits. -/
def elementFloat (sub : Nat) (a b : FVal) (z : Nat) : LaneOut × Nat :=
  let nanIn := flagIf (isNanF a || isNanF b) fNanIn
  let pack := fun (ins : List FVal) (x : FVal) => let r := opResult ins x; (LaneOut.flt r.1, r.2)
  match sub with
  | 0 => pack [a, b] (addF a b)
  | 1 => pack [a, b] (addF a (negF b))
  | 2 => pack [a, b] (mulF a b)
  | 3 =>
    let c := decodeF fp32 z
    let m := mulF a b
    let r := pack [a, b, c] (addF m c)
    (r.1, r.2 ||| flagIf (isNanF m && !(isNanF a || isNanF b)) fNanGen)
  | 4 => (.flt (encodeRne fp32 (floatPick true a b)), nanIn)
  | 5 => (.flt (encodeRne fp32 (floatPick false a b)), nanIn)
  | 6 => (.flt (encodeRne fp32 (if z != 0 then a else b)), nanIn)
  | 7 => (.flt (encodeRne fp32 (if negSign a then negF a else a)), flagIf (isNanF a) fNanIn)
  | 8 => (.flt (encodeRne fp32 (negF a)), flagIf (isNanF a) fNanIn)
  | _ =>
    if isNanF a || isNanF b then (.int 2, nanIn)
    else match cmpF a b with
      | .lt => (.int (-1), 0)
      | .eq => (.int 0, 0)
      | .gt => (.int 1, 0)

/-- An ELEMENT integer function (code 0x10 + `sub`) on one lane. -/
def elementInt (sub : Nat) (a b : Int) (z : Nat) : LaneOut × Nat :=
  match sub with
  | 0 => intOut (a + b)
  | 1 => intOut (a - b)
  | 2 => intOut (a * b)
  | 4 => intOut (min a b)
  | 5 => intOut (max a b)
  | 6 => intOut (if z != 0 then a else b)
  | 7 => intOut (if a < 0 then -a else a)
  | _ => intOut (-a)

/-! Transcendental primitives (02 R60). -/

/-- Is a code in the FP32 normal range? -/
def fp32Normal (code : Nat) : Bool := let e := fieldOf code 30 23; decide (0 < e) && decide (e < 255)

/-- A result within `lo` to `hi` units of the last place around the truncated code `k` of sign `neg`, the distance a free
choice inside the bound (02 R60). -/
def ulpChoice (op x : Nat) (neg : Bool) (k : Nat) (lo hi : Int) : Nat :=
  withSign fp32 neg ((k : Int) + clampInt lo hi (Config.transcUlp op x)).toNat

/-- The result of a bounded primitive whose exact magnitude is about m * 2^e (with sticky): bounds in ulp for an exact
and an inexact result. Outside the normal range the value is free. -/
def boundedResult (op x : Nat) (neg : Bool) (m : Nat) (e : Int) (exact : Bool) (bound : Int) : Nat × Nat :=
  let r := roundMag fp32 .rtz neg m e
  if r.overflow then (infCode fp32 neg, fFpOvf)
  else if fp32Normal r.code then
    (if exact then ulpChoice op x neg r.code (-bound) bound else ulpChoice op x neg r.code (1 - bound) bound, 0)
  else (Config.transcValue op x % 2 ^ 32, 0)

/-- 2^(f / 2^s) for f < 2^s as a multiple of 2^-200, truncated: a square root for each bit of f, the lowest first. -/
def exp2Fraction : (s f y : Nat) → Nat
  | 0, _, y => y
  | s + 1, f, y => exp2Fraction s (f / 2) (Nat.sqrt ((if f % 2 = 1 then 2 * y else y) * 2 ^ 200))

/-- exp2 of an FP32 value (02 Table 2.6): within 1 ulp where the exact result is in the normal range. -/
def exp2Result (x : Nat) : Nat × Nat :=
  match decodeF fp32 x with
  | .nan => (fp32.nan, fNanIn)
  | .inf neg => (if neg then 0 else infCode fp32 false, 0)
  | .fin neg m e =>
    if !neg && decide (128 ≤ (roundQuantum .rtz neg m e 0).1) then (infCode fp32 false, fFpOvf)
    else
      let k := roundQuantum .rtz neg m e 0
      let n : Int := if neg then -(k.1 : Int) else k.1
      if !k.2 && decide (-149 ≤ n) then (encodeRne fp32 (.fin false 1 n), 0)
      else if decide (n < -150) || decide (0 ≤ e) then (Config.transcValue 0 x % 2 ^ 32, 0)
      else
        let s := (-e).toNat
        let low := if neg then 2 ^ s * (k.1 + 1) - m else m % 2 ^ s
        let y := exp2Fraction s (low % 2 ^ s) (2 ^ 200)
        boundedResult 0 x false (2 * y + 1) ((if neg then n - 1 else n) - 201) false 1

/-- Reciprocal (02 Table 2.6). -/
def recipResult (x : Nat) : Nat × Nat :=
  match decodeF fp32 x with
  | .nan => (fp32.nan, fNanIn)
  | .inf neg => (withSign fp32 neg 0, 0)
  | .fin neg m e =>
    if m = 0 then (infCode fp32 neg, 0)
    else
      let q := divMag 1 m 0 e 40
      boundedResult 1 x neg q.1 q.2 (q.1 % 2 == 0) 1

/-- Inverse square root (02 Table 2.6). A zero of negative sign is not stated: its result is free. -/
def rsqrtResult (x : Nat) : Nat × Nat :=
  match decodeF fp32 x with
  | .nan => (fp32.nan, fNanIn)
  | .inf neg => if neg then (fp32.nan, fNanGen) else (0, 0)
  | .fin neg m e =>
    if m = 0 then (if neg then Config.transcValue 2 x % 2 ^ 32 else infCode fp32 false, 0)
    else if neg then (fp32.nan, fNanGen)
    else
      let q := divMag 1 m 0 e 80
      let s := sqrtMag q.1 q.2 40
      boundedResult 2 x false s.1 s.2 (q.1 % 2 == 0 && s.1 % 2 == 0) 2

/-- A TRANSC function on one lane; exp is exp2 of RNE32(x * log2 e) (02 R60). -/
def transcResult (sub x : Nat) : Nat × Nat :=
  match sub with
  | 0 => exp2Result x
  | 1 => recipResult x
  | 2 => rsqrtResult x
  | _ =>
    let v := decodeF fp32 x
    let r := opResult [v] (mulF v (decodeF fp32 0x3FB8AA3B))
    let y := exp2Result r.1
    (y.1, r.2 ||| y.2)

/-! Cross-lane reductions (02 R61). -/

/-- One level of the pairwise tree. -/
def pairUp {α : Type} (f : α → α → α) : List α → List α
  | a :: b :: rest => f a b :: pairUp f rest
  | xs => xs

/-- The nine-level tree over 512 lanes. -/
def treeReduce {α : Type} (f : α → α → α) (xs : List α) : List α := iterN 9 (pairUp f) xs

/-- A partial result of a reduction: value code, lane index, flags. -/
structure RedVal where
  code : Nat
  index : Nat
  flags : Nat
  deriving DecidableEq, Repr

/-- Combine two partial results, the first of lower lanes (02 R61). -/
def redCombine (sub : Nat) (a b : RedVal) : RedVal :=
  let x := decodeF fp32 a.code
  let y := decodeF fp32 b.code
  match sub with
  | 0 => let r := opResult [x, y] (addF x y); ⟨r.1, 0, a.flags ||| b.flags ||| r.2⟩
  | 3 =>
    if isNanF x then ⟨a.code, a.index, a.flags ||| b.flags⟩
    else if isNanF y then ⟨b.code, b.index, a.flags ||| b.flags⟩
    else if ltF x y then ⟨b.code, b.index, a.flags ||| b.flags⟩ else ⟨a.code, a.index, a.flags ||| b.flags⟩
  | _ =>
    if isNanF x || isNanF y then ⟨fp32.nan, 0, a.flags ||| b.flags⟩
    else
      let keepB := if sub == 1 then ltF x y else ltF y x
      ⟨if keepB then b.code else a.code, 0, a.flags ||| b.flags⟩

/-! Rows of items (05 R495). -/

/-- Lanes as they go to rows: element codes and, for MX formats, 16 scale codes. -/
structure ItemCodes where
  codes : List Nat
  scales : List Nat
  deriving DecidableEq, Repr

/-- Pack 4-bit codes into bytes, even element in the low nibble (02 Table 2.2). -/
def packNibbles : List Nat → List Byte
  | a :: b :: rest => BitVec.ofNat 8 (a % 16 + b % 16 * 16) :: packNibbles rest
  | [a] => [BitVec.ofNat 8 (a % 16)]
  | [] => []

/-- The data bytes of one item (02 R40, R41). -/
def itemData (fmt : Nat) (it : ItemCodes) : List Byte :=
  match fmtBits fmt with
  | 4 => packNibbles it.codes
  | 6 =>
    let v := it.codes.reverse.foldl (fun a c => a * 64 + c % 64) 0
    leBytes 384 v ++ it.scales.map (BitVec.ofNat 8) ++ List.replicate 112 0
  | 8 => it.codes.map (BitVec.ofNat 8)
  | 16 => it.codes.flatMap (leBytes 2)
  | _ => it.codes.flatMap (leBytes 4)

/-- The scale bytes an item has outside its data rows (02 R41). -/
def itemScales (fmt : Nat) (it : ItemCodes) : List Byte :=
  if fmtMx8 fmt || fmtMx4 fmt then it.scales.map (BitVec.ofNat 8) else []

/-- Data rows that `n` items occupy (05 R495). -/
def itemRows (fmt n : Nat) : Nat :=
  match fmtBits fmt with
  | 4 => (n + 1) / 2
  | 16 => 2 * n
  | 32 => 4 * n
  | _ => n

/-- Scale rows that `n` items occupy (05 R495). -/
def scaleRowCount (fmt n : Nat) : Nat := if fmtMx8 fmt || fmtMx4 fmt then (n + 31) / 32 else 0

/-- Rows that a Hem block reads or writes from ROW. -/
def hemRows (h : HemBlock) (n : Nat) : Nat := if h.fn == 4 then 0 else itemRows h.fmt n + scaleRowCount h.fmt n

/-- Item `v` of `n` is written to its rows from `row` (05 R495); rows are written whole. -/
def writeItem (p row fmt n v : Nat) (it : ItemCodes) (d : Device) : Device :=
  let bytes := itemData fmt it
  let d := match fmtBits fmt with
    | 4 =>
      let r := row + v / 2
      if v % 2 = 0 then rowPut p r bytes d else rowPut p r (overlay (rowBytes d p r) 256 bytes) d
    | 16 => d |> rowPut p (row + 2 * v) (sliceBytes bytes 0 512) |> rowPut p (row + 2 * v + 1) (sliceBytes bytes 512 512)
    | 32 => forEach (List.range 4) (fun i d => rowPut p (row + 4 * v + i) (sliceBytes bytes (512 * i) 512) d) d
    | _ => rowPut p (row + v) bytes d
  let sc := itemScales fmt it
  if sc.isEmpty then d
  else
    let r := row + itemRows fmt n + v / 32
    let old := if v % 32 = 0 then [] else rowBytes d p r
    rowPut p r (overlay (sliceBytes old 0 512) (v % 32 * 16) sc) d

/-- Item `v` of `n` read from its rows (05 R495). -/
def readItem (d : Device) (p row fmt n v : Nat) : ItemCodes :=
  let bytes := match fmtBits fmt with
    | 4 => sliceBytes (rowBytes d p (row + v / 2)) (v % 2 * 256) 256
    | 16 => rowBytes d p (row + 2 * v) ++ rowBytes d p (row + 2 * v + 1)
    | 32 => (List.range 4).flatMap (fun i => rowBytes d p (row + 4 * v + i))
    | _ => rowBytes d p (row + v)
  let scales :=
    if fmtMx6 fmt then (List.range 16).map (fun b => leField bytes (384 + b) 1)
    else if fmtMx8 fmt || fmtMx4 fmt then
      (List.range 16).map (fun b => leField (rowBytes d p (row + itemRows fmt n + v / 32)) (v % 32 * 16 + b) 1)
    else []
  { codes := (List.range 512).map (fun i => elemCode fmt bytes 0 i), scales := scales }

/-- The bytes that one item occupies in its tensor (05 R495). -/
def itemBytes (fmt : Nat) : Nat :=
  match fmtBits fmt with
  | 4 => if fmtMx4 fmt then 272 else 256
  | 16 => 1024
  | 32 => 2048
  | _ => if fmtMx8 fmt then 528 else 512

/-- A signature record of a block leaves the Hem unit for Belvedere (02 R62, 05 R495). -/
def sendSignature (q : Nat) (h : HemBlock) (n : Nat) (items : List ItemCodes) (d : Device) : Device :=
  let bytes := items.flatMap (fun it => itemData h.fmt it ++ itemScales h.fmt it)
  let rec_ : SigRecord := { queue := q, tensor := h.tensor, offset := h.elemBase / 512 * itemBytes h.fmt,
                            length := n * itemBytes h.fmt, crc := crc64 bytes }
  { d with comp := { d.comp with sigWire := d.comp.sigWire ++ [rec_] } }

/-! Conversion of results to stored codes. -/

/-- Rounding of element `i` of tensor `t` under CTRL bit 0 (02 R52, R53). -/
def blockRnd (seed : Nat) (h : HemBlock) (i : Nat) : Rnd :=
  if bitOf h.ctrl 0 then .stochastic (roundingWord seed h.tensor i) else .rne

/-- The 512 results of item `v` converted to DST_FMT (05 R495; 02 R48 to R50): codes, register words, flags. -/
def convertItem (seed : Nat) (h : HemBlock) (v : Nat) (outs : List LaneOut) : ItemCodes × List Nat × Nat :=
  let lanes := (List.range 512).map (fun c => (outs.getD c (.flt 0), blockRnd seed h (h.elemBase + 512 * v + c)))
  if h.fmt == 0 then (⟨lanes.map (fun l => l.1.word), []⟩, lanes.map (fun l => l.1.word), 0)
  else if fmtIsInt h.fmt then
    let w := fmtBits h.fmt
    let rs := lanes.map (fun l => match l.1 with
      | .int x => let s := satInt w x; (s.1, flagIf s.2 fReqSat)
      | .flt c => convertInt w l.2 (decodeF fp32 c))
    (⟨rs.map (fun r => patternOf w r.1), []⟩, rs.map (fun r => patternOf 32 r.1), rs.foldl (fun a r => a ||| r.2) 0)
  else if fmtMx h.fmt then
    let f := fmtElem h.fmt
    let bs := (List.range 16).map (fun b => convertBlock f (((lanes.drop (32 * b)).take 32).map (fun l => (l.1.val, l.2))))
    let codes := bs.flatMap (fun b => b.2.1)
    let scales := bs.map (·.1)
    let words := (List.range 512).map (fun c =>
      let s := scales.getD (c / 32) 0
      if s == 0xFF then fp32.nan
      else encodeRne fp32 (scaleF (decodeF f (codes.getD c 0)) ((s : Int) - 127)))
    (⟨codes, scales⟩, words, bs.foldl (fun a b => a ||| b.2.2) 0)
  else
    let f := fmtElem h.fmt
    let rs := lanes.map (fun l => convertFloat f (bitOf h.ctrl 1) l.2 l.1.val)
    (⟨rs.map (·.1), []⟩, rs.map (fun r => encodeRne fp32 (decodeF f r.1)), rs.foldl (fun a r => a ||| r.2) 0)

/-- Does the block send a signature record for its row writes (05 R495)? -/
def signsTensor (d : Device) (q t : Nat) : Bool :=
  match stepOf d q with
  | some s => bitOf (tensorFlags d s.image s.prog t) 2
  | none => false

/-- The seed of the step of queue `q` (02 R53). -/
def seedOf (d : Device) (q : Nat) : Nat := ((stepOf d q).map (·.seed)).getD 0

/-- Channels per row of the blocked layout (06 Table 6.1). -/
def blockChannels (fmt : Nat) : Nat :=
  match fmtBits fmt with
  | 4 => 1024
  | 16 => 256
  | 32 => 128
  | _ => 512

/-- Channels and pixels of the feature map that tensor `t` of the step of queue `q` is: the first window record that names it
gives them (06 R162). A tensor that no record names is no feature map to the device. -/
def mapShape (d : Device) (q t : Nat) : Option (Nat × Nat) :=
  match stepOf d q with
  | none => none
  | some s =>
    let records := (progSegs d s.image s.prog).flatMap (fun g => (segStreams d s.image g).flatMap (fun v => v.windows d))
    match records.find? (fun a => memNat d (a + 24) 2 == t) with
    | some a => let o := windowOut d a; some (memNat d (a + 16) 2, o.1 * o.2)
    | none => (records.find? (fun a => memNat d (a + 22) 2 == t)).map (fun a =>
        (memNat d (a + 14) 2, memNat d (a + 4) 2 * memNat d (a + 6) 2))

/-- Is element `i` of a blocked tensor of `channels` channels and `pixels` pixels unused, beyond the last channel
(06 R158, R160)? -/
def unusedElement (fmt channels pixels i : Nat) : Bool :=
  let g := blockChannels fmt
  decide (channels ≤ i / g / pixels * g + i % g)

/-- Item `v` with the elements from the last channel onward zero (06 R160). -/
def zeroUnused (h : HemBlock) (shape : Option (Nat × Nat)) (v : Nat) (it : ItemCodes) : ItemCodes :=
  match shape with
  | none => it
  | some (channels, pixels) =>
    { it with codes := it.codes.zipIdx.map (fun x =>
        if unusedElement h.fmt channels pixels (h.elemBase + 512 * v + x.2) then 0 else x.1) }

/-- Items computed by a block are written to rows when ROW names any, and signed (05 R495); elements beyond the last channel
of a feature map are written as zero (06 R160). -/
def storeItems (p q : Nat) (h : HemBlock) (n : Nat) (items : List ItemCodes) (d : Device) : Device :=
  if h.row == 2 ^ 32 - 1 then d
  else
    let shape := mapShape d q h.tensor
    let items := items.zipIdx.map (fun x => zeroUnused h shape x.2 x.1)
    let d := forEach ((List.range n).zip items) (fun vi d => writeItem p h.row h.fmt n vi.1 vi.2 d) d
    if signsTensor d q h.tensor then sendSignature q h n items d else d

/-- A block whose lanes are computed one by one: results to registers, then to rows. `toReg` says the register receives
the converted value (CONVERT, REQUANT). Every item reads the registers as they were before the block, also one that an
earlier item of the block writes (05 is silent on items in flight: Assumption 101, DESIGN CHOICE). -/
def runLanes (p q : Nat) (h : HemBlock) (n : Nat) (toReg : Bool) (f : Device → Nat → List (LaneOut × Nat)) (d : Device) :
    Device :=
  let seed := seedOf d q
  let results := (List.range n).map (fun v =>
    let outs := f d v
    let conv := convertItem seed h v (outs.map (·.1))
    let stored := toReg || h.row != 2 ^ 32 - 1
    (conv.1, if toReg then conv.2.1 else outs.map (fun o => o.1.word),
      outs.foldl (fun a o => a ||| o.2) (if stored then conv.2.2 else 0)))
  let d := forEach ((List.range n).zip results) (fun vr d =>
    d |> setVreg p (h.dst + vr.1) vr.2.2.1 |> raiseFlags p vr.2.2.2) d
  storeItems p q h n (results.map (·.1)) d

/-- FN 0x01 CONVERT (02 R48 to R50, 05 R495). -/
def hemConvert (p q : Nat) (h : HemBlock) (n : Nat) (d : Device) : Device :=
  runLanes p q h n true (fun d v => (srcLanes d p h v).map (fun l =>
    let x := laneFloat l; (LaneOut.flt (encodeRne fp32 x.1), x.2))) d

/-- Parameters of lane `c` of a REQUANT block (05 R495). -/
def reqParams (d : Device) (p : Nat) (h : HemBlock) (c : Nat) : ReqParams :=
  let row := rowBytes d p ((h.paramRow + c / 32) % 65536)
  let o := c % 32 * 16
  { b := signedOf 32 (leField row o 4), m := leField row (o + 4) 4, s := leField row (o + 8) 1,
    lo := signedOf 8 (leField row (o + 9) 1), hi := signedOf 8 (leField row (o + 10) 1) }

/-- FN 0x02 REQUANT (02 R51, R52; 05 R495). -/
def hemRequant (p q : Nat) (h : HemBlock) (n : Nat) (d : Device) : Device :=
  let seed := seedOf d q
  let ps := (List.range 512).map (reqParams d p h)
  runLanes p q h n true (fun d v => ((srcLanes d p h v).zip ps).zipIdx.map (fun lc =>
    let w := if bitOf h.ctrl 0 then some (roundingWord seed h.tensor (h.elemBase + 512 * v + lc.2)) else none
    let r := requantize lc.1.2 w (laneInt lc.1.1)
    (LaneOut.int r.1, r.2))) d

/-- FN 0x03 ELEMENT (05 Table 5.8, R495). -/
def hemElement (p q : Nat) (h : HemBlock) (n : Nat) (d : Device) : Device :=
  runLanes p q h n false (fun d v => (srcLanes d p h v).zipIdx.map (fun lc =>
    let b := vlane d p (h.src2 + v) lc.2
    let z := vlane d p (h.dst + v) lc.2
    if h.sub < 0x10 then
      let a := laneFloat lc.1
      let r := elementFloat h.sub a.1 (decodeF fp32 b) z
      (r.1, a.2 ||| r.2)
    else elementInt (h.sub - 0x10) (laneInt lc.1) (signedOf 32 b) z)) d

/-- FN 0x05 TRANSC (02 R60). -/
def hemTransc (p q : Nat) (h : HemBlock) (n : Nat) (d : Device) : Device :=
  runLanes p q h n false (fun d v => (srcLanes d p h v).map (fun l =>
    let a := laneFloat l
    let r := transcResult h.sub (encodeRne fp32 a.1)
    (LaneOut.flt r.1, a.2 ||| r.2))) d

/-- FN 0x04 REDUCE (02 R61, 05 R495). -/
def hemReduce (p : Nat) (h : HemBlock) (n : Nat) (d : Device) : Device :=
  let item := fun v =>
    let leaves := (srcLanes d p h v).zipIdx.map (fun lc =>
      let a := laneFloat lc.1
      (⟨encodeRne fp32 a.1, 512 * v + lc.2, a.2 ||| flagIf (isNanF a.1) fNanIn⟩ : RedVal))
    (treeReduce (redCombine h.sub) leaves).headD ⟨0, 0, 0⟩
  match (List.range n).map item with
  | [] => d
  | r :: rs =>
    let out := rs.foldl (redCombine h.sub) r
    let lanes := [out.code, if h.sub == 3 then out.index else 0] ++ List.replicate 510 0
    d |> setVreg p h.dst lanes |> raiseFlags p out.flags

/-- FN 0x06 CRC (02 R62, 05 R495): signature records of rows that other units wrote. -/
def hemCrc (p q : Nat) (h : HemBlock) (n : Nat) (d : Device) : Device :=
  sendSignature q h n ((List.range n).map (readItem d p h.row h.fmt n)) d

/-- A stored element loaded exactly into a register lane (05 R495). -/
def loadLane (fmt : Nat) (it : ItemCodes) (c : Nat) : Nat :=
  let code := it.codes.getD c 0
  if fmt == 0 then code
  else if fmtIsInt fmt then patternOf 32 (signedOf (fmtBits fmt) code)
  else if fmtMx fmt then
    let s := it.scales.getD (c / 32) 0
    if s == 0xFF then fp32.nan
    else encodeRne fp32 (scaleF (decodeF (fmtElem fmt) code) ((s : Int) - 127))
  else encodeRne fp32 (decodeF (fmtElem fmt) code)

/-- Does a stored item hold a NaN in a float format, an MX block of scale 0xFF included (02 R47)? -/
def itemNan (fmt : Nat) (it : ItemCodes) : Bool :=
  it.scales.any (· == 0xFF) ||
    (fmt != 0 && !fmtIsInt fmt && it.codes.any (fun c => isNanF (decodeF (fmtElem fmt) c)))

/-- FN 0x07 LOADV (05 R495); a NaN that enters sets NAN_IN (02 R47). -/
def hemLoadv (p : Nat) (h : HemBlock) (n : Nat) (d : Device) : Device :=
  forEach (List.range n) (fun v d =>
    let it := readItem d p h.row h.fmt n v
    d |> setVreg p (h.dst + v) ((List.range 512).map (loadLane h.fmt it))
      |> raiseFlags p (flagIf (it.scales.any (· == 0xFF)) fNanScale ||| flagIf (itemNan h.fmt it) fNanIn)) d

/-- FN 0x08 STOREV (02 R48 to R50, 05 R495). -/
def hemStorev (p q : Nat) (h : HemBlock) (n : Nat) (d : Device) : Device :=
  let seed := seedOf d q
  let results := (List.range n).map (fun v =>
    let lanes := srcLanes d p h v
    let r := convertItem seed h v (lanes.map (fun l => match l with
      | .bits w => LaneOut.flt w
      | .acc x => LaneOut.int (satInt 32 x).1))
    (r.1, r.2.2 ||| lanes.foldl (fun a l => a ||| (laneFloat l).2) 0))
  let d := forEach results (fun r d => raiseFlags p r.2 d) d
  storeItems p q h n (results.map (·.1)) d

end Sys2Proof.Machine
end

