-- ==== Sys2Proof/Machine/Image.lean ====
section
/-! DEFINITION. The loading checks of a Parterre image (05 R121 to R143, R495, R496; 02 R57; 03 R78; 04 R100; 06 R161 to
R164; 07 R199, R201; 14 R394, R400), and its binding to the chip (05 R123). -/
namespace Sys2Proof.Machine

/-! The header (05 Tables 5.1, 5.2). -/

/-- PAV_COUNT. -/
def imgPavs (d : Device) (img : Nat) : Nat := memNat d (img + 6) 1
/-- IH_COUNT. -/
def imgIces (d : Device) (img : Nat) : Nat := memNat d (img + 7) 1
/-- MODES: bit 0 STRICT_OK, bit 1 THROUGHPUT_OK, bit 2 PLACEMENT_FREE. -/
def imgModes (d : Device) (img : Nat) : Nat := memNat d (img + 8) 1
/-- IMAGE_BYTES. -/
def imgBytes (d : Device) (img : Nat) : Nat := memNat d (img + 12) 4
/-- IMAGE_ID. -/
def imgId (d : Device) (img : Nat) : Nat := memNat d (img + 16) 8
/-- STRICT_OK. -/
def imgStrict (d : Device) (img : Nat) : Bool := bitOf (imgModes d img) 0

/-- Are the `n` bytes at `a` zero? -/
def zeroAt (d : Device) (a n : Nat) : Bool := allZero (memBytes d a n)

/-- The DIGEST holds: SHA-512 of the image with the field taken as zero (05 Table 5.1). -/
def digestOk (d : Device) (img : Nat) : Bool :=
  sha512 (memBytes d img 32 ++ List.replicate 64 0 ++ memBytes d (img + 96) (imgBytes d img - 96)) == memBytes d (img + 32) 64

/-- The first checks of loading: MAGIC, FORMAT, reserved fields, size, no byte in the device reserve (14 R393), DIGEST
(05 R122). -/
def headerOk (d : Device) (img : Nat) : Bool :=
  memNat d img 4 == 0x52545250 && memNat d (img + 4) 2 == 1 && decide (imgModes d img < 8) && decide (1 ≤ imgPavs d img) &&
  zeroAt d (img + 9) 3 && zeroAt d (img + 24) 8 && zeroAt d (img + 192) 64 &&
  imgBytes d img % 64 == 0 && decide (256 ≤ imgBytes d img) && inDram d img (imgBytes d img) &&
  !inReserve d img (imgBytes d img) && digestOk d img

/-- The image suits the chip: units and placement (05 R122, 00 R6). -/
def chipOk (d : Device) (img : Nat) : Bool :=
  decide (imgPavs d img ≤ pavCount d) && imgIces d img == iceCount d &&
    (bitOf (imgModes d img) 2 || fld d DEV_CONFIG 9 8 == 0)

/-- Entry size of section `k`; 1 for the two with directories of their own (05 Table 5.2). -/
def secEntry (k : Nat) : Nat := [48, 64, 32, 16, 1, 1, 40, 16, 8, 16, 8, 8].getD k 1

/-- Section `k` lies in the image, on a 64-byte boundary, in whole entries (05 R121). -/
def dirOk (d : Device) (img k : Nat) : Bool :=
  secOffset d img k % 64 == 0 && decide (secOffset d img k + secLength d img k ≤ imgBytes d img) &&
    secLength d img k % secEntry k == 0 && (secLength d img k == 0 || decide (256 ≤ secOffset d img k))

/-- Entries of section `k`. -/
def secSize (d : Device) (img k : Nat) : Nat := secLength d img k / secEntry k

/-- Every entry of section `k` satisfies `f`. -/
def allEntries (d : Device) (img k : Nat) (f : Nat → Bool) : Bool := (List.range (secSize d img k)).all f

/-! Endpoints and link slots (05 Table 5.9, R135, R496). -/

/-- Is the endpoint one that the image may name? -/
def endpointOk (d : Device) (img e : Nat) : Bool :=
  match e / 64 with
  | 0 => decide (e % 64 < imgPavs d img)
  | 1 => decide (e % 64 < imgPavs d img)
  | 2 => decide (e % 64 < imgIces d img)
  | _ => decide (e % 64 < 4)

/-- Section 7: link slots (05 Table 5.10, R135). -/
def linkOk (d : Device) (img l : Nat) : Bool :=
  let e := linkSlot d img l
  endpointOk d img e.src && endpointOk d img e.dst && decide (e.vc ≤ 1) && decide (e.hops ≤ 6) &&
    decide (hopCount (routerOf d e.src) (routerOf d e.dst) ≤ e.hops) && decide (1 ≤ e.beats) && decide (e.slots < 2 ^ 19)

/-- Do two reservations of one step program clash: same VC, a common slot, link and beat (05 R135)? -/
def slotsClash (d : Device) (x y : Nat × LinkSlot) : Bool :=
  let until_ := fun (z : Nat × LinkSlot) => z.1 + z.2.first + z.2.beats + 2 * z.2.hops
  x.2.vc == y.2.vc && (x.2.slots &&& y.2.slots) != 0 &&
    decide (x.1 + x.2.first < until_ y) && decide (y.1 + y.2.first < until_ x) &&
    (pathLinks d x.2.src x.2.dst).any (fun l => (pathLinks d y.2.src y.2.dst).contains l)

/-- No two of a list clash. -/
def pairwiseOk {α : Type} (clash : α → α → Bool) : List α → Bool
  | [] => true
  | x :: xs => xs.all (fun y => !clash x y) && pairwiseOk clash xs

/-- Rows a carrying entry has already taken: (entry of the list, beat, rows). -/
abbrev SlotUse := List ((Nat × Nat) × Nat)

/-- Rows that entry `i` carries in beat `b` so far. -/
def slotUsed (u : SlotUse) (i b : Nat) : Nat := ((u.find? (fun e => e.1 == (i, b))).map (·.2)).getD 0

/-- The beat, from `b` on, in which the carrying entry of a row from `src` to `dst` has a free slot (05 R496), and the
entry; a reservation covers 2 * HOPS beats past its BEATS (05 R135); `fuel` bounds the search by the last reserved beat. -/
def carryBeat (links : List LinkSlot) (u : SlotUse) (src dst : Nat) : Nat → Nat → Option (Nat × Nat)
  | 0, _ => none
  | fuel + 1, b =>
    match links.zipIdx.find? (fun l => l.1.vc == 0 && l.1.src == src && l.1.dst == dst &&
        decide (l.1.first ≤ b) && decide (b < l.1.first + l.1.beats + 2 * l.1.hops)) with
    | some l => if slotUsed u l.2 b < onesBelow l.1.slots 19 then some (b, l.2)
      else carryBeat links u src dst fuel (b + 1)
    | none => carryBeat links u src dst fuel (b + 1)

/-- Endpoint to which a row of a descriptor of mover `m` of pavilion `p` leaves; none: it stays in the pavilion. -/
def rowTarget (d : Device) (p m : Nat) (j : MoverJob) (r : Nat) : Option Nat :=
  let ends := jobRow j r
  let target := fun a => match regionOf d a with
    | .glass g _ => if g == p then none else some (m * 64 + g)
    | _ => some (128 + (iceOf d a).1)
  match target ends.2 with
  | some t => some t
  | none => if bitOf j.flags 0 then none else target ends.1

/-- The ac by which the last row of a MOVE issued at `ac` has left, and the slots used; none: a row of a listed segment
that no entry carries (05 R130, R496). -/
def moveLeaves (d : Device) (links : List LinkSlot) (p m : Nat) (j : MoverJob) (listed : Bool) (ac : Nat) (u : SlotUse) :
    Option (Nat × SlotUse) :=
  let last := links.foldl (fun x l => max x (l.first + l.beats + 2 * l.hops)) 0
  (List.range j.total).foldl (fun (s : Option (Nat × SlotUse)) r =>
    match s with
    | none => none
    | some (t, u) =>
      match rowTarget d p m j r with
      | none => some (t + 1, u)
      | some dst =>
        match carryBeat links u (m * 64 + p) dst (last - t / 16) (t / 16) with
        | some (b, i) => some (max t (16 * b) + 1, ((i, b), slotUsed u i b + 1) :: u)
        | none => if listed then none else some (16 * (t / 16 + 1), u)) (some (ac, u))

/-! Microcode (05 R128 to R131, R495; 02 R57; 14 R400). -/

/-- Rows `a`, `a + stride`, …, `n` of them, lie in the Glasshouse. -/
def rowsFit (a stride n : Nat) : Bool := n == 0 || decide (a + (n - 1) * stride < 65536)

/-- Does one of those rows lie at 63,488 or above (14 R400)? -/
def goldHit (a stride n : Nat) : Bool := n != 0 && decide (63488 ≤ a + (n - 1) * stride)

/-- Does a Hem block write rows or sign them (05 R495, 14 R394)? -/
def hemWrites (h : HemBlock) : Bool := h.fn == 6 || (h.row != 2 ^ 32 - 1 && h.fn != 4 && h.fn != 7)

/-- SUBOP lies in its range for FN (05 Table 5.8). -/
def hemSubOk (h : HemBlock) : Bool :=
  match h.fn with
  | 3 => decide (h.sub ≤ 9) || (decide (0x10 ≤ h.sub) && decide (h.sub ≤ 0x18) && h.sub != 0x13)
  | 4 => decide (h.sub ≤ 3)
  | 5 => decide (h.sub ≤ 3)
  | _ => h.sub == 0

/-- The ranges of R495 for a block of `n` items. -/
def hemRangesOk (h : HemBlock) (n : Nat) : Bool :=
  let usesSrc := decide (1 ≤ h.fn) && (decide (h.fn ≤ 5) || h.fn == 8)
  let writesReg := h.fn == 1 || h.fn == 2 || h.fn == 3 || h.fn == 5 || h.fn == 7
  (!usesSrc || (if bitOf h.ctrl 2 then decide (h.src + n ≤ 512) else decide (h.src + n ≤ 64))) &&
  (h.fn != 3 || decide (h.src2 + n ≤ 64)) && (!writesReg || decide (h.dst + n ≤ 64)) && (h.fn != 4 || decide (h.dst < 64)) &&
  (if h.row == 2 ^ 32 - 1 then h.fn != 6 && h.fn != 7 && h.fn != 8 else decide (h.row + hemRows h n ≤ 65536)) &&
  (h.fn != 2 || decide (h.paramRow + 16 ≤ 65536))

/-- A Hem parameter block named by a HEM of `n` items (05 R131, R495). -/
def hemOk (d : Device) (a n : Nat) : Bool :=
  let h := hemAt d a
  decide (1 ≤ h.fn) && decide (h.fn ≤ 8) && hemSubOk h && (h.fmt == 0 || fmtKnown h.fmt) && decide (h.ctrl < 16) &&
    zeroAt d (a + 10) 2 && zeroAt d (a + 22) 2 && (h.fn != 2 || h.fmt == 1 || h.fmt == 2) && hemRangesOk h n

/-- Ac for which a Hem block occupies the Hem unit (02 Table 2.6, 05 R495). -/
def hemTime (h : HemBlock) (n : Nat) : Nat :=
  max (n * (if h.fn == 5 then 4 else 1)) (if h.row == 2 ^ 32 - 1 then 0 else hemRows h n)

/-- One instruction's fields (05 Table 5.7; 02 R35, R57). Bits of A and B that Table 5.7 gives no use and does not call
zero must be zero (Assumption 102, DESIGN CHOICE). -/
def instrOk (d : Device) (img : Nat) (v : StreamView) (firstBlock : Nat) (x : MicroInstr) : Bool :=
  match x.op with
  | 0 => true
  | 1 =>
    let w := fieldOf x.b 7 0
    let a := fieldOf x.b 15 8
    let sparse := bitOf x.b 16
    decide (x.b < 2 ^ 17) && pairingOk w a && (!sparse || sparseOk w a) && x.n == tileRows w a sparse && rowsFit x.a 1 x.n
  | 2 => decide (1 ≤ x.n) && decide (x.n ≤ 1024) && rowsFit (fieldOf x.a 15 0) (fieldOf x.a 31 16) x.n &&
      fieldOf x.b 15 11 == 0 && decide (fieldOf x.b 9 0 + x.n ≤ 1024)
  | 3 => decide (x.b < 2 ^ 12) && decide (fieldOf x.b 9 0 + x.n ≤ 1024) && (x.a == 2 ^ 32 - 1 || rowsFit x.a 1 (2 * x.n))
  | 4 => x.a % 32 == 0 && decide (firstBlock ≤ v.base + x.a) && decide (v.base + x.a + 32 ≤ v.limit) && hemOk d (v.base + x.a) x.n
  | 5 => decide (x.b < 2)
  | 6 => decide (x.b < 11) && x.b != v.pav && decide (1 ≤ x.n) && decide (x.n ≤ 4096)
  | 7 => decide (x.a < 2 ^ 10) && x.b == 0
  | 8 => decide (x.a < 2 ^ 13) && decide (fieldOf x.a 12 10 < imgPavs d img)
  | _ => false

/-- The pairing that the latest TILE before instruction `i` set: weight and activation formats. -/
def pairingAt (xs : List MicroInstr) (i : Nat) : Nat × Nat :=
  match ((xs.take i).filter (fun x => x.op == 1)).getLast? with
  | some x => (fieldOf x.b 7 0, fieldOf x.b 15 8)
  | none => (0, 0)

/-- Is the latest TILE before instruction `i` sparse? The vectors of a STREAM then take a second row each (02 R57). -/
def pairingSparse (xs : List MicroInstr) (i : Nat) : Bool :=
  (((xs.take i).filter (fun x => x.op == 1)).getLast?).any (fun x => bitOf x.b 16)

/-- Every STREAM names scale rows exactly where its pairing is MX, and they fit, as the second rows of sparse vectors do
(05 Table 5.7). -/
def scalesOk (xs : List MicroInstr) : Bool :=
  xs.zipIdx.all (fun xi => xi.1.op != 2 ||
    (let p := pairingAt xs xi.2
     let x := xi.1
     (!pairingSparse xs xi.2 || rowsFit (fieldOf x.a 15 0 + 1) (fieldOf x.a 31 16) x.n) &&
     if fmtMx p.1 || fmtMx p.2 then rowsFit (fieldOf xi.1.b 31 16) 1 (streamScaleRows p.2 xi.1.n)
     else fieldOf xi.1.b 31 16 == 0))

/-- Unit and occupancy of an instruction other than MOVE (05 Table 5.7): 0 none, 1 weight port, 2 activation port,
3 accumulator store, 4 Hem unit. -/
def unitTime (d : Device) (v : StreamView) (xs : List MicroInstr) (i : Nat) (x : MicroInstr) : Nat × Nat :=
  match x.op with
  | 1 => (1, x.n)
  | 2 => (2, x.n + streamScaleRows (pairingAt xs i).2 x.n)
  | 3 => (3, x.n)
  | 4 => (4, hemTime (hemAt d (v.base + x.a)) x.n)
  | _ => (0, 0)

/-- Issue times: AC never falls, and no unit is asked before it is free (05 R130). -/
def timesOk (d : Device) (v : StreamView) : Bool :=
  let xs := v.instrs d
  (xs.zipIdx.foldl (fun (s : Bool × Nat × List (Nat × Nat)) xi =>
    let ut := unitTime d v xs xi.2 xi.1
    let ok := s.1 && decide (s.2.1 ≤ xi.1.ac) && (ut.1 == 0 || decide (tabGet 0 s.2.2 ut.1 ≤ xi.1.ac))
    (ok, xi.1.ac, if ut.1 == 0 then s.2.2 else tabPut ut.1 (xi.1.ac + ut.2) s.2.2)) (true, 0, [])).1

/-! Window records (06 R161 to R164). -/

/-- Is the code an element format of a feature map (06 Table 6.1, R159)? -/
def mapFormat (f : Nat) : Bool := fmtIsInt f || fmtFp8 f || fmtMx6 f || fmtHalf f || f == 0x22

/-- Is a pattern of a map format finite, within its width (06 R163)? -/
def padFinite (f v : Nat) : Bool :=
  decide (v < 2 ^ fmtBits f) && (fmtIsInt f ||
    (match decodeF (fmtElem f) v with
     | .fin _ _ _ => true
     | _ => false))

/-- What the window record at `a` says of itself (06 R163). -/
def windowShapeOk (d : Device) (a : Nat) : Bool :=
  let b := fun o => memNat d (a + o) 1
  let h := fun o => memNat d (a + o) 2
  let op := b 1
  let fl := b 2
  let pool := op == 2 || op == 3
  let cin := h 14
  let cout := h 16
  let g := 2 ^ b 3
  let dil := fun k x => x * (k - 1) + 1
  let out := windowOut d a
  b 0 == 0xC0 && decide (op ≤ 3) && decide (fl < 8) && (!bitOf fl 0 || pool) && (!bitOf fl 1 || op == 3) &&
  (!bitOf fl 2 || !pool) && (if op == 1 then decide (b 3 ≤ 9) else b 3 == 0) &&
  [4, 6, 14].all (fun o => decide (1 ≤ h o)) && [8, 9, 10, 11, 12, 13].all (fun o => decide (1 ≤ b o)) && h 26 == 0 &&
  (op != 1 || (cin % g == 0 && cout % max 1 (cin / g) == 0)) &&
  (!pool || (cout == cin && decide (b 18 < dil (b 8) (b 12)) && decide (b 19 < dil (b 8) (b 12)) &&
    decide (b 20 < dil (b 9) (b 13)) && decide (b 21 < dil (b 9) (b 13)))) &&
  (bitOf fl 2 || memNat d (a + 28) 4 == 0) && decide (out.1 ≤ 65535) && decide (out.2 ≤ 65535)

/-- The window record at `a` with the tensors of step program `i` that it names (06 R163). -/
def windowOk (d : Device) (img i a : Nat) : Bool :=
  let input := memNat d (a + 22) 2
  let infmt := memNat d (tensorAddr d img i input + 1) 1
  windowShapeOk d a && decide (input < progTensorCount d img i) && decide (memNat d (a + 24) 2 < progTensorCount d img i) &&
  mapFormat infmt && (!bitOf (memNat d (a + 2) 1) 2 || padFinite infmt (memNat d (a + 28) 4))

/-! Attention records (07 R189, R199, R201). -/

/-- An attention record (07 Table 7.6). -/
structure AttnRecord where
  op : Nat
  flags : Nat
  seq : Nat
  layer : Nat
  layers : Nat
  kbLog2 : Nat
  fmt : Nat
  chunk : Nat
  dest : Nat
  ac : Nat
  seqRow : Nat
  fence : Nat
  value : Nat
  deriving DecidableEq, Repr

/-- The attention record at an address. -/
def attnAt (d : Device) (a : Nat) : AttnRecord :=
  { op := memNat d (a + 1) 1, flags := memNat d (a + 2) 1, seq := memNat d (a + 3) 1, layer := memNat d (a + 4) 1,
    layers := memNat d (a + 5) 1, kbLog2 := memNat d (a + 6) 1, fmt := memNat d (a + 7) 1, chunk := memNat d (a + 8) 4,
    dest := memNat d (a + 12) 4, ac := memNat d (a + 16) 4, seqRow := memNat d (a + 20) 2, fence := memNat d (a + 22) 2,
    value := memNat d (a + 24) 4 }

/-- Element size in bytes. -/
def AttnRecord.eb (r : AttnRecord) : Nat := if fmtHalf r.fmt then 2 else 1
/-- Tokens per chunk, C (07, Page layout). -/
def AttnRecord.chunkTokens (r : AttnRecord) : Nat := 512 / r.eb
/-- KB. -/
def AttnRecord.kb (r : AttnRecord) : Nat := 2 ^ r.kbLog2
/-- Rows that the walk writes (07 R200). -/
def AttnRecord.rows (r : AttnRecord) : Nat := if r.op == 0 then r.chunkTokens else r.kb / r.eb
/-- Ac for which the walk occupies the walker (07 R201). -/
def AttnRecord.time (r : AttnRecord) : Nat :=
  if r.op == 0 then r.chunkTokens else r.chunkTokens * r.kb / 512 + r.kb / r.eb

/-- Tokens per page of a geometry, 0 where none is supported (07 R189). -/
def pageTokens (layers kb : Nat) : Nat := ([64, 32, 16].find? (fun pt => decide (2 * layers * kb * pt ≤ 65536))).getD 0

/-- The attention record at `a` (07 R199, R189). -/
def attnOk (d : Device) (a : Nat) : Bool :=
  let r := attnAt d a
  memNat d a 1 == 0xC1 && decide (r.op ≤ 1) && decide (r.flags < 4) && decide (r.seq < 64) && decide (r.layer < r.layers) &&
  decide (r.layers ≤ 64) && decide (6 ≤ r.kbLog2) && decide (r.kbLog2 ≤ 9) && (fmtFp8 r.fmt || fmtHalf r.fmt) &&
  decide (r.fence < 1024) && zeroAt d (a + 28) 4 && pageTokens r.layers r.kb != 0 &&
  decide (r.chunk * r.chunkTokens < 262144) && decide (r.dest + r.rows ≤ 65536)

/-- No walk starts before the previous walk's occupancy ends (07 R201). -/
def walksOk (d : Device) (as : List Nat) : Bool :=
  (as.foldl (fun (s : Bool × Nat) a =>
    let r := attnAt d a
    (s.1 && decide (s.2 ≤ r.ac), r.ac + r.time)) (true, 0)).1

/-! Segments, step programs, tensors. -/

/-- A microcode directory entry and its stream, with its window and attention records (05 R128 to R130; 06 R163; 07 R199,
R201). -/
def streamOk (d : Device) (img m : Nat) : Bool :=
  let e := microAddr d img m
  let v := streamView d img m
  let xs := v.instrs d
  let first := v.records + 32 * ((v.tail d).n + (v.tail d).a)
  zeroAt d (e + 1) 3 && zeroAt d (e + 12) 4 && decide (v.pav < imgPavs d img) && decide (1 ≤ v.count) &&
  decide (v.base + 16 * v.count ≤ v.limit) && decide (first ≤ v.limit) &&
  (List.range v.count).all (fun i => memNat d (v.base + 16 * i + 1) 1 == 0) &&
  (v.tail d).op == 0 && (xs.dropLast).all (fun x => x.op != 0) && xs.all (instrOk d img v first) && scalesOk xs &&
  (v.windows d).all (windowShapeOk d) && (v.attentions d).all (attnOk d) && walksOk d (v.attentions d) &&
  (!imgStrict d img || timesOk d v)

/-- Rows 63,488 onward that a stream names (14 R400). -/
def streamGold (d : Device) (v : StreamView) : Bool :=
  let xs := v.instrs d
  xs.zipIdx.any (fun xi =>
    let x := xi.1
    match x.op with
    | 1 => goldHit x.a 1 x.n
    | 2 => goldHit (fieldOf x.a 15 0 + (if pairingSparse xs xi.2 then 1 else 0)) (fieldOf x.a 31 16) x.n ||
        goldHit (fieldOf x.b 31 16) 1 (streamScaleRows (pairingAt xs xi.2).2 x.n)
    | 3 => x.a != 2 ^ 32 - 1 && goldHit x.a 1 (2 * x.n)
    | 4 =>
      let h := hemAt d (v.base + x.a)
      (h.row != 2 ^ 32 - 1 && goldHit h.row 1 (hemRows h x.n)) || (h.fn == 2 && goldHit h.paramRow 1 16)
    | _ => false) ||
  (v.attentions d).any (fun a => let r := attnAt d a; goldHit r.dest 1 r.rows)

/-- Mover entry `m` as a descriptor of pavilion `p`, nothing bound. -/
def rawJob (d : Device) (img m p mover : Nat) : MoverJob :=
  { moverFields (memBytes d (moverAddr d img m + 8) 32) 0 0 with pav := p, mover := mover }

/-- Are both ends of mover entry `m` absolute? -/
def moverAbsolute (d : Device) (img m : Nat) : Bool :=
  memNat d (moverAddr d img m) 1 == 0xFF && memNat d (moverAddr d img m + 1) 1 == 0xFF

/-- Does an absolute end of mover entry `m` name rows 63,488 onward of Glasshouse `p` (14 R400)? -/
def moverGold (d : Device) (img m p : Nat) : Bool :=
  let j := rawJob d img m p 0
  let hit := fun bind (a stride : Nat) => memNat d (moverAddr d img m + bind) 1 == 0xFF &&
    (List.range j.blocks).any (fun b => match regionOf d (a + b * stride) with
      | .glass g off => g == p && goldHit (off / 512) 1 j.rows
      | _ => false)
  (!bitOf j.flags 0 && hit 0 j.src j.sstride) || hit 1 j.dst j.dstride

/-- Section 6: a mover entry's own fields (05 R132, 03 Table 3.3). -/
def moverEntryOk (d : Device) (img m : Nat) : Bool :=
  let e := moverAddr d img m
  let bs := memBytes d (e + 8) 32
  let j := rawJob d img m 0 0
  let bind := fun o => decide (memNat d (e + o) 1 ≤ 15) || memNat d (e + o) 1 == 0xFF
  bind 0 && bind 1 && zeroAt d (e + 2) 6 && moverReservedOk bs && decide (1 ≤ j.rows) && decide (j.rows ≤ 4096) &&
    decide (1 ≤ j.blocks) && decide (j.flags < 8) && decide (j.tag < 1024)

/-- The MOVEs of a segment's streams: stream, instruction, mover entry. -/
def segMoves (d : Device) (img s : Nat) : List (StreamView × MicroInstr × Nat) :=
  (segStreams d img s).flatMap (fun v => ((v.instrs d).filter (fun x => x.op == 5)).map (fun x =>
    (v, x, segFirst d img s 1 + x.a)))

/-- Mover entry `m` as a descriptor of a mover of pavilion `p`, with the base that each BIND value adds where it is known. An
unknown source base leaves a descriptor whose rows' target the destination alone fixes. -/
def resolvedJob (d : Device) (img m p mover : Nat) (base : Nat → Option Nat) : Option MoverJob :=
  let e := moverAddr d img m
  let job := fun x y => { moverFields (memBytes d (e + 8) 32) x y with pav := p, mover := mover }
  let away := fun (j : MoverJob) => bitOf j.flags 0 || (match regionOf d j.dst with
    | .glass g _ => g != p
    | _ => true)
  match base (memNat d e 1), base (memNat d (e + 1) 1) with
  | some x, some y => some (job x y)
  | none, some y => if away (job 0 y) then some (job 0 y) else none
  | _, none => none

/-- The base of a BIND value as the image alone gives it: that of an absolute end (05 R132). -/
def imageBase (bind : Nat) : Option Nat := if bind == 0xFF then some 0 else none

/-- The base of a BIND value with buffers bound (05 R132). -/
def bufferBase (bufs : List (Nat × Nat)) (bind : Nat) : Option Nat :=
  if bind == 0xFF then some 0 else (bufs[bind]?).map (·.1)

/-- Does an occupancy from `ac` to `last` keep out of the golden slot that the segment holds for pavilion `p` (05 R125)? -/
def slotKept (d : Device) (img s p ac last : Nat) : Bool :=
  let gac := segGoldenAc d img s
  !bitOf (segGolden d img s) p || decide (last ≤ gac) || decide (gac + 60000 ≤ ac)

/-- MOVEs keep their movers' occupancy and the golden slots, and every row of a listed segment is carried (05 R125, R130, R496):
over the descriptors whose rows `base` fixes. -/
def moveTimesOk (d : Device) (img s : Nat) (base : Nat → Option Nat) : Bool :=
  let links := (segList d img s 2).map (linkSlot d img)
  let listed := bitOf (segFlags d img s) 0
  (segStreams d img s).all (fun v => [0, 1].all (fun mover =>
    let ms := ((v.instrs d).filter (fun x => x.op == 5 && x.b % 2 == mover)).filterMap (fun x =>
      (resolvedJob d img (segFirst d img s 1 + x.a) v.pav mover base).map (fun j => (x.ac, j)))
    ((ms.foldl (fun (st : Option (Nat × SlotUse)) x =>
      match st with
      | none => none
      | some (free, u) =>
        if x.1 < free then none
        else (moveLeaves d links v.pav mover x.2 listed x.1 u).filter (fun r => slotKept d img s v.pav x.1 r.1))
      (some (0, []))).isSome)))

/-- The streams of a segment keep the golden slots that it holds (05 R125). -/
def segSlotsOk (d : Device) (img s : Nat) : Bool :=
  (segStreams d img s).all (fun v =>
    let xs := v.instrs d
    xs.zipIdx.all (fun xi =>
      let ut := unitTime d v xs xi.2 xi.1
      ut.1 == 0 || slotKept d img s v.pav xi.1.ac (xi.1.ac + ut.2)))

/-- Section 1: a segment (05 R125, R128). -/
def segmentOk (d : Device) (img s : Nat) : Bool :=
  let a := segAddr d img s
  let mask := segPavMask d img s
  let gold := segGolden d img s
  let gac := segGoldenAc d img s
  let sizes := [secLength d img 5 / 16, secSize d img 6, secSize d img 7, secSize d img 8, secSize d img 9, secSize d img 10,
    secSize d img 11]
  decide (segFlags d img s < 8) && zeroAt d (a + 3) 1 && zeroAt d (a + 60) 4 &&
  (List.range 7).all (fun k => segCount d img s k == 0 ||
    decide (segFirst d img s k + segCount d img s k ≤ sizes.getD k 0)) &&
  mask != 0 && decide (mask < 2 ^ imgPavs d img) && clearBits gold mask == 0 &&
  (segAlt d img s == 0xFFFF || decide (segAlt d img s < secSize d img 1)) &&
  (if gold == 0 then gac == 2 ^ 32 - 1 else decide (gac + 60000 ≤ segWcet d img s))

/-- The microcode of a segment: one stream for each pavilion (05 R128), golden rows and slots kept (14 R400, 05 R125). -/
def segStreamsOk (d : Device) (img s : Nat) : Bool :=
  let vs := segStreams d img s
  (segList d img s 0).all (streamOk d img) &&
  (List.range 8).all (fun p => (vs.filter (fun v => v.pav == p)).length == (if bitOf (segPavMask d img s) p then 1 else 0)) &&
  vs.all (fun v => !bitOf (segGolden d img s) v.pav || !streamGold d v) && (!imgStrict d img || segSlotsOk d img s) &&
  (segMoves d img s).all (fun m => decide (m.2.1.a < segCount d img s 1))

/-- The movers of a segment: absolute descriptors are valid for their pavilions (03 R78), no descriptor of the segment names
golden rows of a pavilion that it gives a golden slot (14 R400), occupancy. -/
def segMoversOk (d : Device) (img s : Nat) : Bool :=
  (segMoves d img s).all (fun m =>
    !moverAbsolute d img m.2.2 || moverValid d m.1.pav (rawJob d img m.2.2 m.1.pav 0)) &&
  (segList d img s 1).all (fun m => (bitsSet (segGolden d img s) 8).all (fun p => !moverGold d img m p)) &&
  (!imgStrict d img || moveTimesOk d img s imageBase)

/-- The largest sum of static grants over any beat (05 Table 5.3, R140). -/
def peakGrant (d : Device) (img i : Nat) : Nat :=
  let at_ := fun s g => memNat d (powerAddr d img g + 4) 4 + segStart d img s
  let inForce := fun s b =>
    if segStart d img s ≤ b && b < segStart d img s + (segWcet d img s + 15) / 16 then
      (List.range 30).foldl (fun sum r =>
        let mine := (segList d img s 6).filter (fun g => memNat d (powerAddr d img g) 1 == r && decide (at_ s g ≤ b))
        let latest := mine.foldl (fun (x : Option Nat) g => match x with
          | none => some g
          | some h => if at_ s h ≤ at_ s g then some g else some h) none
        sum + (match latest with
          | some g => memNat d (powerAddr d img g + 2) 2
          | none => 0)) 0
    else 0
  let beats := (progSegs d img i).flatMap (fun s => (segList d img s 6).map (at_ s))
  beats.foldl (fun m b => max m ((progSegs d img i).foldl (fun sum s => sum + inForce s b) 0)) 0

/-- Section 0: a step program (05 Table 5.3, R143; 04 R100). -/
def progOk (d : Device) (img i : Nat) : Bool :=
  let a := progAddr d img i
  let mask := progPavMask d img i
  let segs := progSegs d img i
  decide (progFlags d img i < 8) && zeroAt d (a + 27) 1 && zeroAt d (a + 37) 11 && decide (1 ≤ progSegCount d img i) &&
  decide (progFirstSeg d img i + progSegCount d img i ≤ secSize d img 1) &&
  mask != 0 && decide (mask < 2 ^ imgPavs d img) && decide (progSlots d img i < 2 ^ 19) &&
  (if bitOf (progFlags d img i) 2 then decide (progBucket d img i ≤ 10) else progBucket d img i == 0xFF) &&
  decide (progFirstTensor d img i + progTensorCount d img i ≤ secSize d img 2) &&
  decide (progFirstThread d img i + progThreadCount d img i ≤ secSize d img 3) &&
  decide (48 * (progFirstCode d img i + progCodeCount d img i) ≤ secLength d img 4) &&
  progWcet d img i == segs.foldl (fun m s => max m (segStart d img s * 16 + segWcet d img s)) 0 &&
  progSlots d img i == segs.foldl (fun m s =>
    (segList d img s 2).foldl (fun m l => m ||| (linkSlot d img l).slots) m) 0 &&
  progPeak d img i == peakGrant d img i

/-- Hem blocks of the segments of a step program that write or sign tensor `t`: (segment, block). -/
def tensorWriters (d : Device) (img i t : Nat) : List (Nat × HemBlock) :=
  (progSegs d img i).flatMap (fun s => (segStreams d img s).flatMap (fun v =>
    ((v.hems d).filter (fun h => h.1.tensor == t && hemWrites h.1)).map (fun h => (s, h.1))))

/-- The segments of a step program: within it, bounded in real time (05 R125, R143); each REDUNDANT writer of a twin
pair on pavilions apart from the other writers (05 R125); no alternatives for twins (14 R394). -/
def progSegsOk (d : Device) (img i : Nat) : Bool :=
  let segs := progSegs d img i
  segs.all (fun s =>
    clearBits (segPavMask d img s) (progPavMask d img i) == 0 &&
    (!bitOf (progFlags d img i) 0 || decide (segWcet d img s ≤ 200000)) &&
    (segAlt d img s == 0xFFFF || segs.contains (segAlt d img s))) &&
  (List.range (progTensorCount d img i)).all (fun t =>
    !(bitOf (tensorFlags d img i t) 2 && tensorTwin d img i t != 2 ^ 32 - 1) ||
    (let ws := ((tensorWriters d img i t ++ tensorWriters d img i (tensorTwin d img i t)).map (·.1)).eraseDups
     let red := ws.filter (fun s => bitOf (segFlags d img s) 2)
     ws.all (fun s => segAlt d img s == 0xFFFF) &&
     red.all (fun r => (ws.filter (fun s => !bitOf (segFlags d img s) 2)).all (fun s =>
       segPavMask d img r &&& segPavMask d img s == 0))))

/-- Section 2: the tensors of a step program (05 R126, 14 R394). -/
def progTensorsOk (d : Device) (img i : Nat) : Bool :=
  (List.range (progTensorCount d img i)).all (fun t =>
    let w := tensorTwin d img i t
    !(bitOf (tensorFlags d img i t) 2 && w != 2 ^ 32 - 1) ||
    (decide (w < progTensorCount d img i) && bitOf (tensorFlags d img i w) 2 && tensorBytes d img i w == tensorBytes d img i t &&
      tensorTwin d img i w == 2 ^ 32 - 1))

/-- A tensor entry's own fields (05 Table 5.5). -/
def tensorEntryOk (d : Device) (img t : Nat) : Bool :=
  let a := secAddr d img 2 + 32 * t
  let b := memNat d a 1
  (decide (b ≤ 15) || b == 0xFF) && fmtKnown (memNat d (a + 1) 1) && decide (memNat d (a + 2) 1 < 8) && zeroAt d (a + 3) 1 &&
    zeroAt d (a + 24) 8 && (b != 0xFF || inGlass d (memNat d (a + 8) 8) (memNat d (a + 16) 8))

/-- Section 3: a thread start entry's own fields (04 R100). -/
def threadEntryOk (d : Device) (img t : Nat) : Bool :=
  let a := threadAddr d img t
  decide (memNat d a 1 < 32) && decide (fieldOf (memNat d a 1) 4 2 < imgPavs d img) && fieldOf (memNat d (a + 1) 1) 6 4 == 0 &&
    zeroAt d (a + 6) 2 && decide (memNat d (a + 8) 4 < 2 ^ 19)

/-- The thread starts of a step program name its segments (04 R100), and in a Strict image none lies in a golden slot of its
pavilion (05 R125). -/
def progThreadsOk (d : Device) (img i : Nat) : Bool :=
  (List.range (progThreadCount d img i)).all (fun k =>
    let e := threadAddr d img (progFirstThread d img i + k)
    let seg := memNat d (e + 2) 2
    let ac := 16 * memNat d (e + 4) 2
    decide (seg < progSegCount d img i) &&
      (!imgStrict d img || slotKept d img (progFirstSeg d img i + seg) (fieldOf (memNat d e 1) 4 2) ac (ac + 1)))

/-- Section 4: a Kiosk code set directory entry (05 R127). -/
def codeEntryOk (d : Device) (img c : Nat) : Bool :=
  let a := codeAddr d img c
  decide (memNat d a 1 < imgPavs d img) && zeroAt d (a + 1) 7 && (List.range 5).all (fun j =>
    let off := memNat d (a + 8 + 8 * j) 4
    let len := memNat d (a + 12 + 8 * j) 4
    len % 64 == 0 && decide (len ≤ (if j == 4 then 0x40000 else 0x10000)) && decide (off + len ≤ secLength d img 4))

/-- The code sets of a step program, at most one for each cluster it uses (05 Table 5.3). -/
def progCodeOk (d : Device) (img i : Nat) : Bool :=
  let cs := (List.range (progCodeCount d img i)).map (fun k => progFirstCode d img i + k)
  cs.all (codeEntryOk d img) && pairwiseOk (fun x y => memNat d (codeAddr d img x) 1 == memNat d (codeAddr d img y) 1) cs

/-- The microcode of a step program: window records (06 R163), Hem blocks that sign (05 R495), no stochastic block on a
twin (14 R394). -/
def progMicroOk (d : Device) (img i : Nat) : Bool :=
  let twin := fun t => bitOf (tensorFlags d img i t) 2 && ((tensorTwin d img i t != 2 ^ 32 - 1) ||
    (List.range (progTensorCount d img i)).any (fun u => bitOf (tensorFlags d img i u) 2 && tensorTwin d img i u == t))
  (progSegs d img i).all (fun s => (segStreams d img s).all (fun v =>
    (v.windows d).all (windowOk d img i) &&
    (v.hems d).all (fun hn =>
      let h := hn.1
      let known := decide (h.tensor < progTensorCount d img i)
      let signs := h.fn == 6 || (hemWrites h && known && bitOf (tensorFlags d img i h.tensor) 2)
      (known || h.tensor == 0) && (!signs || h.elemBase % 512 == 0) && !(bitOf h.ctrl 0 && known && twin h.tensor))))

/-- Link slots of a step program: no two clash (05 R135). -/
def progLinksOk (d : Device) (img i : Nat) : Bool :=
  pairwiseOk (slotsClash d) ((progSegs d img i).flatMap (fun s =>
    (segList d img s 2).map (fun l => (segStart d img s, linkSlot d img l))))

/-- Section 8: a crossing entry (05 Table 5.11). -/
def crossingOk (d : Device) (img c : Nat) : Bool :=
  let a := crossAddr d img c
  decide (memNat d a 1 ≤ 47) && decide (memNat d (a + 1) 1 ≤ 47) && decide (1 ≤ memNat d (a + 2) 2) && decide (memNat d (a + 2) 2 ≤ 255)

/-- A credit grant entry (05 Table 5.12). -/
structure GrantEntry where
  src : Nat
  target : Nat
  kind : Nat
  beat : Nat
  base : Nat
  count : Nat
  deriving DecidableEq, Repr

/-- Credit grant entry `g`. -/
def grantEntry (d : Device) (img g : Nat) : GrantEntry :=
  let a := grantAddr d img g
  { src := memNat d a 1, target := memNat d (a + 1) 1, kind := memNat d (a + 2) 1, beat := memNat d (a + 4) 4,
    base := memNat d (a + 8) 2, count := memNat d (a + 10) 2 }

/-- Section 9: a credit grant entry (05 Table 5.12, 03 R81). -/
def grantOk (d : Device) (img g : Nat) : Bool :=
  let a := grantAddr d img g
  let e := grantEntry d img g
  decide (e.src ≤ 10) && (decide (8 ≤ e.src) || decide (e.src < imgPavs d img)) && decide (e.target < imgPavs d img) &&
  e.src != e.target && decide (e.kind ≤ 3) && zeroAt d (a + 3) 1 && zeroAt d (a + 12) 4 &&
  (e.kind == 3 || (decide (1 ≤ e.count) && decide (e.count ≤ 4096))) && (e.kind != 0 || decide (e.base + e.count ≤ 65536))

/-- Credit windows of a segment keep golden rows (14 R400). -/
def segGrantsOk (d : Device) (img s : Nat) : Bool :=
  (segList d img s 4).all (fun g =>
    let e := grantEntry d img g
    e.kind != 0 || !bitOf (segGolden d img s) e.target || !goldHit e.base 1 e.count)

/-- Section 10: a refresh-window entry (05 R138). -/
def refreshOk (d : Device) (img r : Nat) : Bool :=
  let a := secAddr d img 10 + 8 * r
  decide (memNat d a 1 < imgIces d img) && decide (memNat d (a + 1) 1 < 16) && memNat d (a + 2) 2 == 3

/-- The refresh windows of a segment lie on the grid (05 R138). -/
def segRefreshOk (d : Device) (img s : Nat) : Bool :=
  (segList d img s 5).all (fun r =>
    let a := secAddr d img 10 + 8 * r
    (segStart d img s + memNat d (a + 4) 4) % 125 == (3 * memNat d (a + 1) 1 + 5 * memNat d a 1) % 125)

/-- Section 11: a power grant entry (05 R140). -/
def powerOk (d : Device) (img g : Nat) : Bool :=
  let a := powerAddr d img g
  let r := memNat d a 1
  zeroAt d (a + 1) 1 && (if r < 8 then decide (r < imgPavs d img) else if r < 20 then decide (r - 8 < imgIces d img)
    else if r < 28 then decide (r - 20 < imgPavs d img) else decide (r ≤ 29))

/-- Section `k` holds (05 R122, step 2). -/
def sectionOk (d : Device) (img k : Nat) : Bool :=
  let progs := List.range (secSize d img 0)
  let segs := List.range (secSize d img 1)
  dirOk d img k &&
  (match k with
   | 0 => progs.all (progOk d img)
   | 1 => segs.all (segmentOk d img) && progs.all (progSegsOk d img)
   | 2 => allEntries d img 2 (tensorEntryOk d img) && progs.all (progTensorsOk d img)
   | 3 => allEntries d img 3 (threadEntryOk d img) && progs.all (progThreadsOk d img)
   | 4 => progs.all (progCodeOk d img)
   | 5 => segs.all (segStreamsOk d img) && progs.all (progMicroOk d img)
   | 6 => allEntries d img 6 (moverEntryOk d img) && segs.all (segMoversOk d img)
   | 7 => allEntries d img 7 (linkOk d img) && progs.all (progLinksOk d img)
   | 8 => allEntries d img 8 (crossingOk d img)
   | 9 => allEntries d img 9 (grantOk d img) && segs.all (segGrantsOk d img)
   | 10 => allEntries d img 10 (refreshOk d img) && segs.all (segRefreshOk d img)
   | _ => allEntries d img 11 (powerOk d img))

/-- Why an image fails loading: status and DETAIL0; none where it loads (05 R122, 08 Table 8.3). -/
def imageFault (d : Device) (img : Nat) : Option (Nat × Nat) :=
  if !headerOk d img then some (0x10, 0x800000FF)
  else if !chipOk d img then some (0x12, 0)
  else match (List.range 12).find? (fun k => !sectionOk d img k) with
    | some k => some (0x10, 0x80000000 + k)
    | none => none

/-- Is step program `i` marked empty (06 R164)? -/
def progEmpty (d : Device) (img i : Nat) : Bool :=
  (progSegs d img i).any (fun s => (segStreams d img s).any (fun v => (v.windows d).any (fun a =>
    let o := windowOut d a
    o.1 == 0 || o.2 == 0)))

/-! Binding of buffers at acceptance (05 R132, 08 R231). -/

/-- The bound buffers of a binding table. -/
def bindTable (d : Device) (table count : Nat) : List (Nat × Nat) :=
  (List.range count).map (fun i => (memNat d (table + 16 * i) 8, memNat d (table + 16 * i + 8) 8))

/-- The buffers are populated DRAM outside the device reserve (01 R30, 14 R393), and contain every tensor of program `i`
that they bind; no output lies in the key-value ranges (07 R186, 08 R231). -/
def bindingOk (d : Device) (img i : Nat) (bufs : List (Nat × Nat)) : Bool :=
  bufs.all (fun b => inDram d b.1 b.2 && !inReserve d b.1 b.2) &&
  (List.range (progTensorCount d img i)).all (fun t =>
    let a := tensorAddr d img i t
    let b := memNat d a 1
    let off := memNat d (a + 8) 8
    b == 0xFF ||
      (match bufs[b]? with
       | some buf => decide (off + tensorBytes d img i t ≤ buf.2) &&
           (!bitOf (tensorFlags d img i t) 1 || !inKv d (buf.1 + off) (tensorBytes d img i t))
       | none => false))

/-- Every mover descriptor that the program's streams start is valid once bound (05 R132, 03 R78); in Strict mode those of a
Strict image keep the movers' occupancy, and their rows are carried (05 R130, R496; Assumption 95). -/
def boundMoversOk (d : Device) (img i : Nat) (bufs : List (Nat × Nat)) : Bool :=
  let base := bufferBase bufs
  (progSegs d img i).all (fun s =>
    (segMoves d img s).all (fun m =>
      let e := moverAddr d img m.2.2
      match base (memNat d e 1), base (memNat d (e + 1) 1) with
      | some x, some y => moverValid d m.1.pav { moverFields (memBytes d (e + 8) 32) x y with pav := m.1.pav }
      | _, _ => false) &&
    (!(imgStrict d img && strictMode d) || moveTimesOk d img s base))

end Sys2Proof.Machine
end

