-- ==== Sys2Proof/Machine/Rv.lean ====
section
/-! DEFINITION. The base instruction set of a Kiosk thread: registers, compressed instructions, RV64IM, Zba, Zbb, Zicsr
(04 R95, R96, Table 4.1). PRESUMED: the encodings and meanings are those of the RISC-V standard that 04 cites. -/
namespace Sys2Proof.Machine

/-- Integer register `i`; x0 reads zero. -/
def xreg (th : Thread) (i : Nat) : Nat := if i = 0 then 0 else (tabGet 0 th.x i).toNat

/-- Write integer register `i`; x0 discards writes. -/
def setX (i v : Nat) (th : Thread) : Thread :=
  if i = 0 then th else { th with x := tabPut i (BitVec.ofNat 64 v) th.x }

/-- Floating-point register `i`. -/
def freg (th : Thread) (i : Nat) : Nat := (tabGet 0 th.f i).toNat

/-- Write floating-point register `i`. -/
def setF (i v : Nat) (th : Thread) : Thread := { th with f := tabPut i (BitVec.ofNat 64 v) th.f }

/-- Vector register `i` as a number of 512 bits. -/
def vregT (th : Thread) (i : Nat) : Nat := (tabGet 0 th.v i).toNat

/-- Write vector register `i`. -/
def setV (i v : Nat) (th : Thread) : Thread := { th with v := tabPut i (BitVec.ofNat 512 v) th.v }

/-- What an instruction does to its thread. -/
inductive ThreadOut where
  /-- The thread goes on. -/
  | ok (th : Thread)
  /-- A synchronous exception with its RISC-V cause (04 Table 4.11). -/
  | trap (cause : Nat)
  deriving DecidableEq, Repr

/-- Two's complement of 64 bits. -/
def s64 (v : Nat) : Int := signedOf 64 v
/-- Two's complement of 32 bits. -/
def s32 (v : Nat) : Int := signedOf 32 v
/-- 64-bit pattern of an integer. -/
def u64 (v : Int) : Nat := patternOf 64 v
/-- A 32-bit result sign-extended to 64 bits. -/
def sext32 (v : Nat) : Nat := u64 (s32 v)

/-! Instruction fields. -/

/-- rd. -/
def iRd (w : Nat) : Nat := fieldOf w 11 7
/-- funct3. -/
def iF3 (w : Nat) : Nat := fieldOf w 14 12
/-- rs1. -/
def iRs1 (w : Nat) : Nat := fieldOf w 19 15
/-- rs2. -/
def iRs2 (w : Nat) : Nat := fieldOf w 24 20
/-- funct7. -/
def iF7 (w : Nat) : Nat := fieldOf w 31 25
/-- Major opcode. -/
def iOp (w : Nat) : Nat := fieldOf w 6 0
/-- I-type immediate. -/
def immI (w : Nat) : Int := signedOf 12 (fieldOf w 31 20)
/-- S-type immediate. -/
def immS (w : Nat) : Int := signedOf 12 (fieldOf w 31 25 * 32 + fieldOf w 11 7)
/-- B-type immediate. -/
def immB (w : Nat) : Int :=
  signedOf 13 (fieldOf w 31 31 * 2 ^ 12 + fieldOf w 7 7 * 2 ^ 11 + fieldOf w 30 25 * 2 ^ 5 + fieldOf w 11 8 * 2)
/-- U-type immediate. -/
def immU (w : Nat) : Int := signedOf 32 (fieldOf w 31 12 * 2 ^ 12)
/-- J-type immediate. -/
def immJ (w : Nat) : Int :=
  signedOf 21 (fieldOf w 31 31 * 2 ^ 20 + fieldOf w 19 12 * 2 ^ 12 + fieldOf w 20 20 * 2 ^ 11 + fieldOf w 30 21 * 2)

/-! Compressed instructions, expanded to 32-bit words. -/

/-- An R-type word. -/
def encR (f7 rs2 rs1 f3 rd op : Nat) : Nat := f7 * 2 ^ 25 + rs2 * 2 ^ 20 + rs1 * 2 ^ 15 + f3 * 2 ^ 12 + rd * 2 ^ 7 + op
/-- An I-type word. -/
def encI (imm : Int) (rs1 f3 rd op : Nat) : Nat := patternOf 12 imm * 2 ^ 20 + rs1 * 2 ^ 15 + f3 * 2 ^ 12 + rd * 2 ^ 7 + op
/-- An S-type word. -/
def encS (imm : Int) (rs2 rs1 f3 op : Nat) : Nat :=
  let v := patternOf 12 imm
  v / 32 * 2 ^ 25 + rs2 * 2 ^ 20 + rs1 * 2 ^ 15 + f3 * 2 ^ 12 + v % 32 * 2 ^ 7 + op
/-- A B-type word. -/
def encB (imm : Int) (rs2 rs1 f3 : Nat) : Nat :=
  let v := patternOf 13 imm
  fieldOf v 12 12 * 2 ^ 31 + fieldOf v 10 5 * 2 ^ 25 + rs2 * 2 ^ 20 + rs1 * 2 ^ 15 + f3 * 2 ^ 12 +
    fieldOf v 4 1 * 2 ^ 8 + fieldOf v 11 11 * 2 ^ 7 + 0x63
/-- A J-type word. -/
def encJ (imm : Int) (rd : Nat) : Nat :=
  let v := patternOf 21 imm
  fieldOf v 20 20 * 2 ^ 31 + fieldOf v 10 1 * 2 ^ 21 + fieldOf v 11 11 * 2 ^ 20 + fieldOf v 19 12 * 2 ^ 12 + rd * 2 ^ 7 + 0x6F

/-- Quadrant 0 of the compressed instructions. -/
def expandQ0 (h : Nat) : Option Nat :=
  let rd := 8 + fieldOf h 4 2
  let rs1 := 8 + fieldOf h 9 7
  let uimmD : Nat := fieldOf h 12 10 * 8 + fieldOf h 6 5 * 64
  let uimmW : Nat := fieldOf h 12 10 * 8 + fieldOf h 6 6 * 4 + fieldOf h 5 5 * 64
  match fieldOf h 15 13 with
  | 0 =>
    let imm : Nat := fieldOf h 12 11 * 16 + fieldOf h 10 7 * 64 + fieldOf h 6 6 * 4 + fieldOf h 5 5 * 8
    if imm = 0 then none else some (encI imm 2 0 rd 0x13)
  | 1 => some (encI uimmD rs1 3 rd 0x07)
  | 2 => some (encI uimmW rs1 2 rd 0x03)
  | 3 => some (encI uimmD rs1 3 rd 0x03)
  | 5 => some (encS uimmD rd rs1 3 0x27)
  | 6 => some (encS uimmW rd rs1 2 0x23)
  | 7 => some (encS uimmD rd rs1 3 0x23)
  | _ => none

/-- Quadrant 1, the arithmetic group (funct3 = 4). -/
def expandQ1Alu (h : Nat) : Option Nat :=
  let rd := 8 + fieldOf h 9 7
  let rs2 := 8 + fieldOf h 4 2
  let sh := fieldOf h 12 12 * 32 + fieldOf h 6 2
  let imm := signedOf 6 sh
  match fieldOf h 11 10 with
  | 0 => some (encI sh rd 5 rd 0x13)
  | 1 => some (encI (sh + 0x400 : Nat) rd 5 rd 0x13)
  | 2 => some (encI imm rd 7 rd 0x13)
  | _ =>
    match fieldOf h 12 12, fieldOf h 6 5 with
    | 0, 0 => some (encR 0x20 rs2 rd 0 rd 0x33)
    | 0, 1 => some (encR 0 rs2 rd 4 rd 0x33)
    | 0, 2 => some (encR 0 rs2 rd 6 rd 0x33)
    | 0, _ => some (encR 0 rs2 rd 7 rd 0x33)
    | _, 0 => some (encR 0x20 rs2 rd 0 rd 0x3B)
    | _, 1 => some (encR 0 rs2 rd 0 rd 0x3B)
    | _, _ => none

/-- Quadrant 1. -/
def expandQ1 (h : Nat) : Option Nat :=
  let rd := fieldOf h 11 7
  let imm6 := signedOf 6 (fieldOf h 12 12 * 32 + fieldOf h 6 2)
  let jimm := signedOf 12 (fieldOf h 12 12 * 2 ^ 11 + fieldOf h 11 11 * 16 + fieldOf h 10 9 * 2 ^ 8 + fieldOf h 8 8 * 2 ^ 10 +
    fieldOf h 7 7 * 64 + fieldOf h 6 6 * 128 + fieldOf h 5 3 * 2 + fieldOf h 2 2 * 32)
  let bimm := signedOf 9 (fieldOf h 12 12 * 256 + fieldOf h 11 10 * 8 + fieldOf h 6 5 * 64 + fieldOf h 4 3 * 2 + fieldOf h 2 2 * 32)
  match fieldOf h 15 13 with
  | 0 => some (encI imm6 rd 0 rd 0x13)
  | 1 => if rd = 0 then none else some (encI imm6 rd 0 rd 0x1B)
  | 2 => some (encI imm6 0 0 rd 0x13)
  | 3 =>
    if rd = 2 then
      let imm := signedOf 10 (fieldOf h 12 12 * 512 + fieldOf h 6 6 * 16 + fieldOf h 5 5 * 64 + fieldOf h 4 3 * 128 + fieldOf h 2 2 * 32)
      if imm = 0 then none else some (encI imm 2 0 2 0x13)
    else if imm6 = 0 then none
    else some (patternOf 20 imm6 * 2 ^ 12 + rd * 2 ^ 7 + 0x37)
  | 4 => expandQ1Alu h
  | 5 => some (encJ jimm 0)
  | 6 => some (encB bimm 0 (8 + fieldOf h 9 7) 0)
  | _ => some (encB bimm 0 (8 + fieldOf h 9 7) 1)

/-- Quadrant 2. -/
def expandQ2 (h : Nat) : Option Nat :=
  let rd := fieldOf h 11 7
  let rs2 := fieldOf h 6 2
  let sh := fieldOf h 12 12 * 32 + rs2
  let ldD : Nat := fieldOf h 12 12 * 32 + fieldOf h 6 5 * 8 + fieldOf h 4 2 * 64
  let ldW : Nat := fieldOf h 12 12 * 32 + fieldOf h 6 4 * 4 + fieldOf h 3 2 * 64
  let stD : Nat := fieldOf h 12 10 * 8 + fieldOf h 9 7 * 64
  let stW : Nat := fieldOf h 12 9 * 4 + fieldOf h 8 7 * 64
  match fieldOf h 15 13 with
  | 0 => some (encI sh rd 1 rd 0x13)
  | 1 => some (encI ldD 2 3 rd 0x07)
  | 2 => if rd = 0 then none else some (encI ldW 2 2 rd 0x03)
  | 3 => if rd = 0 then none else some (encI ldD 2 3 rd 0x03)
  | 4 =>
    if fieldOf h 12 12 = 0 then
      if rs2 = 0 then if rd = 0 then none else some (encI 0 rd 0 0 0x67)
      else some (encR 0 rs2 0 0 rd 0x33)
    else if rs2 = 0 then
      if rd = 0 then some 0x00100073 else some (encI 0 rd 0 1 0x67)
    else some (encR 0 rs2 rd 0 rd 0x33)
  | 5 => some (encS stD rs2 2 3 0x27)
  | 6 => some (encS stW rs2 2 2 0x23)
  | _ => some (encS stD rs2 2 3 0x23)

/-- The 32-bit word of a compressed instruction; none where it is illegal. -/
def expandC (h : Nat) : Option Nat :=
  match h % 4 with
  | 0 => expandQ0 h
  | 1 => expandQ1 h
  | 2 => expandQ2 h
  | _ => none

/-! Arithmetic. -/

/-- Leading zeros of a `w`-bit value. -/
def clzW (w v : Nat) : Nat := if v % 2 ^ w = 0 then w else w - 1 - Nat.log2 (v % 2 ^ w)
/-- Trailing zeros of a `w`-bit value. -/
def ctzW (w v : Nat) : Nat := (firstBelow w (fun i => bitOf v i)).getD w
/-- Rotate a `w`-bit value right. -/
def rorW (w v n : Nat) : Nat :=
  let v := v % 2 ^ w
  let n := n % w
  (v / 2 ^ n + v * 2 ^ (w - n)) % 2 ^ w
/-- Complement of 64 bits. -/
def not64 (v : Nat) : Nat := 2 ^ 64 - 1 - v % 2 ^ 64
/-- OR-combine within bytes (Zbb orc.b). -/
def orcB (v : Nat) : Nat := leNat ((leBytes 8 v).map (fun b => if b = 0 then 0 else 0xFF))
/-- Byte reversal (Zbb rev8). -/
def rev8 (v : Nat) : Nat := beNat (leBytes 8 v)

/-- Division and remainder of the M extension on `w`-bit patterns. -/
def divW (w : Nat) (f3 a b : Nat) : Nat :=
  let sa := signedOf w a
  let sb := signedOf w b
  let a := a % 2 ^ w
  let b := b % 2 ^ w
  match f3 with
  | 4 => if b = 0 then 2 ^ w - 1 else patternOf w (Int.tdiv sa sb)
  | 5 => if b = 0 then 2 ^ w - 1 else a / b
  | 6 => if b = 0 then a else patternOf w (Int.tmod sa sb)
  | _ => if b = 0 then a else a % b

/-- OP (0x33) on 64-bit operands. -/
def opResult64 (f7 f3 a b : Nat) : Option Nat :=
  let sh := b % 64
  match f7, f3 with
  | 0x00, 0 => some (a + b)
  | 0x20, 0 => some (a + 2 ^ 64 - b)
  | 0x00, 1 => some (a * 2 ^ sh)
  | 0x00, 2 => some (if s64 a < s64 b then 1 else 0)
  | 0x00, 3 => some (if a < b then 1 else 0)
  | 0x00, 4 => some (a ^^^ b)
  | 0x00, 5 => some (a / 2 ^ sh)
  | 0x20, 5 => some (u64 (s64 a / (2 ^ sh : Nat)))
  | 0x00, 6 => some (a ||| b)
  | 0x00, 7 => some (a &&& b)
  | 0x01, 0 => some (a * b)
  | 0x01, 1 => some (u64 (s64 a * s64 b / (2 ^ 64 : Nat)))
  | 0x01, 2 => some (u64 (s64 a * (b : Int) / (2 ^ 64 : Nat)))
  | 0x01, 3 => some (a * b / 2 ^ 64)
  | 0x01, f => some (divW 64 f a b)
  | 0x10, 2 => some (a * 2 + b)
  | 0x10, 4 => some (a * 4 + b)
  | 0x10, 6 => some (a * 8 + b)
  | 0x20, 7 => some (a &&& not64 b)
  | 0x20, 6 => some (a ||| not64 b)
  | 0x20, 4 => some (not64 (a ^^^ b))
  | 0x05, 4 => some (if s64 a < s64 b then a else b)
  | 0x05, 5 => some (min a b)
  | 0x05, 6 => some (if s64 a < s64 b then b else a)
  | 0x05, 7 => some (max a b)
  | 0x30, 1 => some (rorW 64 a (64 - sh))
  | 0x30, 5 => some (rorW 64 a sh)
  | _, _ => none

/-- OP-32 (0x3B). -/
def opResult32 (f7 f3 rs2 a b : Nat) : Option Nat :=
  let sh := b % 32
  let lo := a % 2 ^ 32
  match f7, f3 with
  | 0x00, 0 => some (sext32 (a + b))
  | 0x20, 0 => some (sext32 (a + 2 ^ 64 - b))
  | 0x00, 1 => some (sext32 (a * 2 ^ sh))
  | 0x00, 5 => some (sext32 (lo / 2 ^ sh))
  | 0x20, 5 => some (u64 (s32 a / (2 ^ sh : Nat)))
  | 0x01, 0 => some (sext32 (a * b))
  | 0x01, f => if f < 4 then none else some (sext32 (divW 32 f a b))
  | 0x04, 0 => some (lo + b)
  | 0x04, 4 => if rs2 = 0 then some (a % 2 ^ 16) else none
  | 0x10, 2 => some (lo * 2 + b)
  | 0x10, 4 => some (lo * 4 + b)
  | 0x10, 6 => some (lo * 8 + b)
  | 0x30, 1 => some (sext32 (rorW 32 a (32 - sh)))
  | 0x30, 5 => some (sext32 (rorW 32 a sh))
  | _, _ => none

/-- OP-IMM (0x13). -/
def opImm64 (w a : Nat) : Option Nat :=
  let imm := u64 (immI w)
  let sh := fieldOf w 25 20
  let f6 := fieldOf w 31 26
  match iF3 w with
  | 0 => some (a + imm)
  | 2 => some (if s64 a < immI w then 1 else 0)
  | 3 => some (if a < imm then 1 else 0)
  | 4 => some (a ^^^ imm)
  | 6 => some (a ||| imm)
  | 7 => some (a &&& imm)
  | 1 =>
    if f6 = 0 then some (a * 2 ^ sh)
    else match fieldOf w 31 20 with
      | 0x600 => some (clzW 64 a)
      | 0x601 => some (ctzW 64 a)
      | 0x602 => some (onesBelow a 64)
      | 0x604 => some (u64 (signedOf 8 a))
      | 0x605 => some (u64 (signedOf 16 a))
      | _ => none
  | _ =>
    if f6 = 0 then some (a / 2 ^ sh)
    else if f6 = 0x10 then some (u64 (s64 a / (2 ^ sh : Nat)))
    else if f6 = 0x18 then some (rorW 64 a sh)
    else match fieldOf w 31 20 with
      | 0x287 => some (orcB a)
      | 0x6B8 => some (rev8 a)
      | _ => none

/-- OP-IMM-32 (0x1B). -/
def opImm32 (w a : Nat) : Option Nat :=
  let sh := fieldOf w 24 20
  match iF3 w with
  | 0 => some (sext32 (a + u64 (immI w)))
  | 1 =>
    if iF7 w = 0 then some (sext32 (a * 2 ^ sh))
    else if fieldOf w 31 26 = 0x02 then some (a % 2 ^ 32 * 2 ^ fieldOf w 25 20)
    else match fieldOf w 31 20 with
      | 0x600 => some (clzW 32 a)
      | 0x601 => some (ctzW 32 a)
      | 0x602 => some (onesBelow a 32)
      | _ => none
  | 5 =>
    if iF7 w = 0 then some (sext32 (a % 2 ^ 32 / 2 ^ sh))
    else if iF7 w = 0x20 then some (u64 (s32 a / (2 ^ sh : Nat)))
    else if iF7 w = 0x30 then some (sext32 (rorW 32 a sh))
    else none
  | _ => none

/-- Is a branch taken? -/
def branchTaken (f3 a b : Nat) : Option Bool :=
  match f3 with
  | 0 => some (a == b)
  | 1 => some (a != b)
  | 4 => some (decide (s64 a < s64 b))
  | 5 => some (decide (s64 b ≤ s64 a))
  | 6 => some (decide (a < b))
  | 7 => some (decide (b ≤ a))
  | _ => none

/-! User CSRs (04 Table 4.1, R96). -/

/-- What a thread's CSR reads: `ktid`, `kcmd` and `time` come from outside the thread. -/
def csrRead (ktid kcmd time : Nat) (th : Thread) (n : Nat) : Option Nat :=
  match n with
  | 0x001 => some th.fflags
  | 0x002 => some th.frm
  | 0x003 => some (th.frm * 32 + th.fflags)
  | 0x008 => some th.vstart
  | 0x009 => some (if th.vxsat then 1 else 0)
  | 0x00A => some th.vxrm
  | 0x00F => some (th.vxrm * 2 + (if th.vxsat then 1 else 0))
  | 0xC00 => some th.cycle
  | 0xC01 => some time
  | 0xC02 => some th.instret
  | 0xC20 => some th.vl
  | 0xC21 => some (if th.vill then 2 ^ 63 else th.vtype)
  | 0xC22 => some 64
  | 0xCC0 => some ktid
  | 0xCC1 => some kcmd
  | _ => none

/-- A write of a writable CSR. -/
def csrWrite (n v : Nat) (th : Thread) : Option Thread :=
  match n with
  | 0x001 => some { th with fflags := v % 32 }
  | 0x002 => some { th with frm := v % 8 }
  | 0x003 => some { th with fflags := v % 32, frm := v / 32 % 8 }
  | 0x008 => some { th with vstart := v % 512 }
  | 0x009 => some { th with vxsat := bitOf v 0 }
  | 0x00A => some { th with vxrm := v % 4 }
  | 0x00F => some { th with vxsat := bitOf v 0, vxrm := v / 2 % 4 }
  | _ => none

/-- SYSTEM (0x73): the Zicsr instructions; every other one is illegal (04 R96). -/
def execCsr (ktid kcmd time w : Nat) (th : Thread) : Option Thread :=
  let n := fieldOf w 31 20
  let f3 := iF3 w
  let src := if f3 < 4 then xreg th (iRs1 w) else iRs1 w
  match csrRead ktid kcmd time th n with
  | none => none
  | some old =>
    let new := match f3 % 4 with
      | 1 => some src
      | 2 => if iRs1 w = 0 then none else some (old ||| src)
      | 3 => if iRs1 w = 0 then none else some (old &&& not64 src)
      | _ => none
    if f3 % 4 = 0 then none
    else match new with
      | none => some (setX (iRd w) old th)
      | some v => (csrWrite n v th).map (setX (iRd w) old)

/-- An integer, control-flow or CSR instruction of a thread: its effect but for the advance of pc, and the next pc.
None: not one of these instructions, or illegal. -/
def execBase (ktid kcmd time w len : Nat) (th : Thread) : Option (Thread × Nat) :=
  let a := xreg th (iRs1 w)
  let b := xreg th (iRs2 w)
  let next := th.pc + len
  let put := fun (r : Option Nat) => r.map (fun v => (setX (iRd w) v th, next))
  match iOp w with
  | 0x37 => put (some (u64 (immU w)))
  | 0x17 => put (some (u64 ((th.pc : Int) + immU w)))
  | 0x6F => some (setX (iRd w) next th, u64 ((th.pc : Int) + immJ w))
  | 0x67 => if iF3 w = 0 then some (setX (iRd w) next th, u64 ((a : Int) + immI w) / 2 * 2) else none
  | 0x63 => (branchTaken (iF3 w) a b).map (fun t => (th, if t then u64 ((th.pc : Int) + immB w) else next))
  | 0x13 => put (opImm64 w a)
  | 0x1B => put (opImm32 w a)
  | 0x33 => put (opResult64 (iF7 w) (iF3 w) a b)
  | 0x3B => put (opResult32 (iF7 w) (iF3 w) (iRs2 w) a b)
  | 0x0F => if iF3 w ≤ 1 then some (th, next) else none
  | 0x73 => (execCsr ktid kcmd time w th).map (fun t => (t, next))
  | _ => none

end Sys2Proof.Machine
end

