-- ==== Sys2Proof/Machine/RvFloat.lean ====
section
/-! DEFINITION. The F and D instructions of a Kiosk thread (04 Table 4.1). PRESUMED: encodings and meanings are those of
the RISC-V standard that 04 cites. -/
namespace Sys2Proof.Machine

/-- Invalid operation. -/
abbrev xNV : Nat := 16
/-- Divide by zero. -/
abbrev xDZ : Nat := 8
/-- Overflow. -/
abbrev xOF : Nat := 4
/-- Underflow. -/
abbrev xUF : Nat := 2
/-- Inexact. -/
abbrev xNX : Nat := 1

/-- A rounding mode field with frm for DYN; none for a reserved mode. -/
def rmOf (rm frm : Nat) : Option Rnd :=
  match if rm = 7 then frm else rm with
  | 0 => some .rne
  | 1 => some .rtz
  | 2 => some .rdn
  | 3 => some .rup
  | 4 => some .rmm
  | _ => none

/-- A value rounded into fp32 or fp64 with exception flags. -/
def fpRound (f : FFmt) (r : Rnd) (v : FVal) : Nat × Nat :=
  match v with
  | .nan => (f.nan, 0)
  | .inf neg => (infCode f neg, 0)
  | .fin neg m e =>
    let k := roundMag f r neg m e
    if k.overflow then
      let toMax := r == .rtz || (r == .rdn && !neg) || (r == .rup && neg)
      (if toMax then withSign f neg f.maxCode else infCode f neg, xOF ||| xNX)
    else (withSign f neg k.code, flagIf k.inexact xNX ||| flagIf (k.inexact && k.tiny) xUF)

/-- A signalling NaN code. -/
def isSNan (f : FFmt) (c : Nat) : Bool := isNanF (decodeF f c) && !bitOf c (f.mb - 1)

/-- The invalid flag of signalling operands. -/
def snanFlag (f : FFmt) (cs : List Nat) : Nat := flagIf (cs.any (isSNan f)) xNV

/-- Sum with the sign of an exact zero under the rounding mode. -/
def addSigned (r : Rnd) (a b : FVal) : FVal :=
  match addF a b with
  | .fin neg 0 e => if r == .rdn && !(isZeroF a && isZeroF b && negSign a == negSign b) then .fin true 0 e
                    else if isZeroF a && isZeroF b && negSign a == negSign b then .fin (negSign a) 0 e
                    else .fin neg 0 e
  | v => v

/-- Result of an operation with a NaN: canonical NaN, invalid where it arose or an operand signals. -/
def fpOp (f : FFmt) (r : Rnd) (cs : List Nat) (v : FVal) : Nat × Nat :=
  let nanIn := cs.any (fun c => isNanF (decodeF f c))
  let x := fpRound f r v
  (x.1, x.2 ||| snanFlag f cs ||| flagIf (isNanF v && !nanIn) xNV)

/-! Seven-bit estimates (04 Table 4.1: vfrec7 and vfrsqrt7 of V 1.0; Assumption 6). -/

/-- Exponent field and fraction of a finite non-zero code; a subnormal is normalised, its exponent at most 0. -/
def normalParts (f : FFmt) (c : Nat) : Int × Nat :=
  let ex := fieldOf c (f.eb + f.mb - 1) f.mb
  let man := c % 2 ^ f.mb
  if ex = 0 then
    let z := f.mb - 1 - Nat.log2 man
    (-(z : Int), man * 2 ^ (z + 1) % 2 ^ f.mb)
  else ((ex : Int), man)

/-- The estimate of 1/x for a fraction whose top seven bits are `i`: 128 * (2/x - 1) rounded, x the middle of its interval. -/
def recipSeven (i : Nat) : Nat := (256 * (255 - 2 * i) + (257 + 2 * i)) / (2 * (257 + 2 * i))

/-- The estimate of 1/sqrt(x) by the exponent's low bit and the fraction's top six bits: 128 * (2/sqrt(x) - 1) rounded. -/
def rsqrtSeven (odd : Bool) (i : Nat) : Nat :=
  (Nat.sqrt (262144 * (if odd then 128 else 64) / (129 + 2 * i)) + 1) / 2 - 128

/-- vfrec7: the result and the exception flags. -/
def fpRecip7 (f : FFmt) (r : Rnd) (c : Nat) : Nat × Nat :=
  match decodeF f c with
  | .nan => (f.nan, snanFlag f [c])
  | .inf neg => (withSign f neg 0, 0)
  | .fin neg 0 _ => (infCode f neg, xDZ)
  | .fin neg _ _ =>
    let p := normalParts f c
    if p.1 < -1 then
      let toMax := r == .rtz || (r == .rdn && !neg) || (r == .rup && neg)
      (if toMax then withSign f neg f.maxCode else infCode f neg, xOF ||| xNX)
    else
      let sig := recipSeven (p.2 / 2 ^ (f.mb - 7)) * 2 ^ (f.mb - 7)
      let ex : Int := 2 * (f.bias : Int) - 1 - p.1
      if 0 < ex then (withSign f neg (ex.toNat * 2 ^ f.mb + sig), 0)
      else
        let half := sig / 2 + 2 ^ (f.mb - 1)
        (withSign f neg (if ex = 0 then half else half / 2), 0)

/-- vfrsqrt7: the result and the exception flags. -/
def fpRsqrt7 (f : FFmt) (c : Nat) : Nat × Nat :=
  match decodeF f c with
  | .nan => (f.nan, snanFlag f [c])
  | .fin neg 0 _ => (infCode f neg, xDZ)
  | .inf neg => if neg then (f.nan, xNV) else (0, 0)
  | .fin neg _ _ =>
    if neg then (f.nan, xNV)
    else
      let p := normalParts f c
      let sig := rsqrtSeven (p.1 % 2 == 1) (p.2 / 2 ^ (f.mb - 6)) * 2 ^ (f.mb - 7)
      (((3 * (f.bias : Int) - 1 - p.1) / 2).toNat * 2 ^ f.mb + sig, 0)

/-- Division. -/
def fpDiv (f : FFmt) (r : Rnd) (ca cb : Nat) : Nat × Nat :=
  let a := decodeF f ca
  let b := decodeF f cb
  match a, b with
  | .fin na ma ea, .fin nb mb eb =>
    if mb = 0 then
      if ma = 0 then (f.nan, xNV) else (infCode f (na != nb), xDZ)
    else
      let q := divMag ma mb ea eb (f.mb + 4)
      fpRound f r (.fin (na != nb) q.1 q.2)
  | .inf _, .inf _ => (f.nan, xNV)
  | .inf na, .fin nb _ _ => (infCode f (na != nb), 0)
  | .fin na _ _, .inf nb => (withSign f (na != nb) 0, 0)
  | _, _ => (f.nan, snanFlag f [ca, cb])

/-- Square root. -/
def fpSqrt (f : FFmt) (r : Rnd) (ca : Nat) : Nat × Nat :=
  match decodeF f ca with
  | .nan => (f.nan, snanFlag f [ca])
  | .inf neg => if neg then (f.nan, xNV) else (infCode f false, 0)
  | .fin neg m e =>
    if m = 0 then (ca, 0)
    else if neg then (f.nan, xNV)
    else
      let s := sqrtMag m e (f.mb + 4)
      fpRound f r (.fin false s.1 s.2)

/-- Fused multiply-add of codes, with signs of product and addend flipped as given. -/
def fpFma (f : FFmt) (r : Rnd) (negP negC : Bool) (ca cb cc : Nat) : Nat × Nat :=
  let p := mulF (decodeF f ca) (decodeF f cb)
  let p := if negP then negF p else p
  let c := decodeF f cc
  let x := fpOp f r [ca, cb, cc] (addSigned r p (if negC then negF c else c))
  let bad := isNanF (mulF (decodeF f ca) (decodeF f cb)) && !isNanF (decodeF f ca) && !isNanF (decodeF f cb)
  (x.1, x.2 ||| flagIf bad xNV)

/-- fmin and fmax. -/
def fpMinMax (f : FFmt) (wantMax : Bool) (ca cb : Nat) : Nat × Nat :=
  let a := decodeF f ca
  let b := decodeF f cb
  let fl := snanFlag f [ca, cb]
  if isNanF a && isNanF b then (f.nan, fl)
  else if isNanF a then (cb, fl)
  else if isNanF b then (ca, fl)
  else
    let aLess := ltF a b || (isZeroF a && isZeroF b && negSign a)
    (if aLess != wantMax then ca else cb, fl)

/-- feq, flt, fle: selected by funct3 2, 1, 0. -/
def fpCompare (f : FFmt) (f3 ca cb : Nat) : Nat × Nat :=
  let a := decodeF f ca
  let b := decodeF f cb
  if isNanF a || isNanF b then (0, if f3 = 2 then snanFlag f [ca, cb] else xNV)
  else match f3 with
    | 2 => (if cmpF a b == .eq then 1 else 0, 0)
    | 1 => (if ltF a b then 1 else 0, 0)
    | _ => (if ltF a b || cmpF a b == .eq then 1 else 0, 0)

/-- fclass. -/
def fpClass (f : FFmt) (c : Nat) : Nat :=
  match decodeF f c with
  | .nan => if isSNan f c then 2 ^ 8 else 2 ^ 9
  | .inf neg => if neg then 1 else 2 ^ 7
  | .fin neg m _ =>
    let sub := fieldOf c (f.eb + f.mb - 1) f.mb == 0
    if m = 0 then if neg then 2 ^ 3 else 2 ^ 4
    else if sub then if neg then 2 ^ 2 else 2 ^ 5
    else if neg then 2 else 2 ^ 6

/-- Conversion to an integer of `w` bits, signed or not: its pattern in `w` bits and the flags. -/
def fpToInt (r : Rnd) (w : Nat) (signed : Bool) (v : FVal) : Nat × Nat :=
  let lo : Int := if signed then -(2 ^ (w - 1) : Nat) else 0
  let hi : Int := if signed then (2 ^ (w - 1) : Nat) - 1 else (2 ^ w : Nat) - 1
  match v with
  | .nan => (patternOf w hi, xNV)
  | .inf neg => (patternOf w (if neg then lo else hi), xNV)
  | .fin neg m e =>
    let k := roundQuantum r neg m e 0
    let x : Int := if neg then -(k.1 : Int) else k.1
    if x < lo then (patternOf w lo, xNV)
    else if hi < x then (patternOf w hi, xNV)
    else (patternOf w x, flagIf k.2 xNX)

/-- A single in a 64-bit register: NaN boxed, else canonical NaN. -/
def unbox (v : Nat) : Nat := if v / 2 ^ 32 = 2 ^ 32 - 1 then v % 2 ^ 32 else fp32.nan
/-- NaN boxing of a single. -/
def boxF (c : Nat) : Nat := c + (2 ^ 32 - 1) * 2 ^ 32
/-- Register operand in a format. -/
def fOperand (f : FFmt) (th : Thread) (i : Nat) : Nat := if f == fp32 then unbox (freg th i) else freg th i
/-- Write a result of a format. -/
def setFp (f : FFmt) (i c : Nat) (th : Thread) : Thread := setF i (if f == fp32 then boxF c else c) th
/-- Accrue flags. -/
def accrue (fl : Nat) (th : Thread) : Thread := { th with fflags := th.fflags ||| fl }

/-- Sign injection: 0 copy, 1 negate, 2 xor. -/
def fpSgnj (f : FFmt) (f3 ca cb : Nat) : Option Nat :=
  let s := f.eb + f.mb
  let mag := ca % 2 ^ s
  match f3 with
  | 0 => some (withSign f (bitOf cb s) mag)
  | 1 => some (withSign f (!bitOf cb s) mag)
  | 2 => some (withSign f (bitOf ca s != bitOf cb s) mag)
  | _ => none

/-- OP-FP (0x53) in format `f` (`g` is the other of single and double). -/
def execFpOp (f g : FFmt) (w : Nat) (th : Thread) : Option Thread :=
  let rd := iRd w
  let a := fOperand f th (iRs1 w)
  let b := fOperand f th (iRs2 w)
  let rnd := rmOf (iF3 w) th.frm
  let putF := fun (r : Nat × Nat) => accrue r.2 (setFp f rd r.1 th)
  let putX := fun (r : Nat × Nat) => accrue r.2 (setX rd r.1 th)
  match iF7 w / 4 with
  | 0x00 => rnd.map (fun r => putF (fpOp f r [a, b] (addSigned r (decodeF f a) (decodeF f b))))
  | 0x01 => rnd.map (fun r => putF (fpOp f r [a, b] (addSigned r (decodeF f a) (negF (decodeF f b)))))
  | 0x02 => rnd.map (fun r => putF (fpOp f r [a, b] (mulF (decodeF f a) (decodeF f b))))
  | 0x03 => rnd.map (fun r => putF (fpDiv f r a b))
  | 0x0B => if iRs2 w = 0 then rnd.map (fun r => putF (fpSqrt f r a)) else none
  | 0x04 => (fpSgnj f (iF3 w) a b).map (fun c => putF (c, 0))
  | 0x05 => if iF3 w ≤ 1 then some (putF (fpMinMax f (iF3 w == 1) a b)) else none
  | 0x14 => if iF3 w ≤ 2 then some (putX (fpCompare f (iF3 w) a b)) else none
  | 0x08 =>
    if iRs2 w = (if g == fp32 then 0 else 1) then
      rnd.map (fun r =>
        let c := fOperand g th (iRs1 w)
        let x := fpRound f r (decodeF g c)
        putF (x.1, x.2 ||| snanFlag g [c]))
    else none
  | 0x18 =>
    rnd.bind (fun r => match iRs2 w with
      | 0 => let x := fpToInt r 32 true (decodeF f a); some (putX (sext32 x.1, x.2))
      | 1 => let x := fpToInt r 32 false (decodeF f a); some (putX (sext32 x.1, x.2))
      | 2 => some (putX (fpToInt r 64 true (decodeF f a)))
      | 3 => some (putX (fpToInt r 64 false (decodeF f a)))
      | _ => none)
  | 0x1A =>
    let x := xreg th (iRs1 w)
    rnd.bind (fun r => match iRs2 w with
      | 0 => some (putF (fpRound f r (ofIntF (s32 x))))
      | 1 => some (putF (fpRound f r (ofIntF (x % 2 ^ 32 : Nat))))
      | 2 => some (putF (fpRound f r (ofIntF (s64 x))))
      | 3 => some (putF (fpRound f r (ofIntF (x : Nat))))
      | _ => none)
  | 0x1C =>
    if iRs2 w = 0 then
      match iF3 w with
      | 0 => some (setX rd (if f == fp32 then sext32 (freg th (iRs1 w)) else freg th (iRs1 w)) th)
      | 1 => some (setX rd (fpClass f a) th)
      | _ => none
    else none
  | 0x1E => if iRs2 w = 0 ∧ iF3 w = 0 then some (setFp f rd (xreg th (iRs1 w) % 2 ^ f.width) th) else none
  | _ => none

/-- A scalar floating-point instruction of a thread; none where it is not one or is illegal. -/
def execFloat (w len : Nat) (th : Thread) : Option (Thread × Nat) :=
  let fmt := fieldOf w 26 25
  let fg : Option (FFmt × FFmt) := match fmt with
    | 0 => some (fp32, fp64)
    | 1 => some (fp64, fp32)
    | _ => none
  let fma := fun negP negC => fg.bind (fun p => (rmOf (iF3 w) th.frm).map (fun r =>
    let x := fpFma p.1 r negP negC (fOperand p.1 th (iRs1 w)) (fOperand p.1 th (iRs2 w))
      (fOperand p.1 th (fieldOf w 31 27))
    (accrue x.2 (setFp p.1 (iRd w) x.1 th), th.pc + len)))
  match iOp w with
  | 0x53 => fg.bind (fun p => (execFpOp p.1 p.2 w th).map (fun t => (t, th.pc + len)))
  | 0x43 => fma false false
  | 0x47 => fma false true
  | 0x4B => fma true false
  | 0x4F => fma true true
  | _ => none

end Sys2Proof.Machine
end

