-- ==== Sys2Proof/Machine/RvVec.lean ====
section
/-! DEFINITION. The vector instructions of a Kiosk thread, VLEN 512, ELEN 64, but for its loads and stores (04 Table 4.1).
PRESUMED: encodings and meanings are those of the RISC-V vector standard that 04 cites; agnostic elements keep
their values or become ones (Config.agnostic). -/
namespace Sys2Proof.Machine

/-! Configuration. -/

/-- SEW of a vtype. -/
def vSew (vt : Nat) : Nat := 8 * 2 ^ fieldOf vt 5 3
/-- LMUL times 8 of a vtype; 0 where reserved. -/
def vLmul8 (vt : Nat) : Nat :=
  match fieldOf vt 2 0 with
  | 0 => 8
  | 1 => 16
  | 2 => 32
  | 3 => 64
  | 5 => 1
  | 6 => 2
  | 7 => 4
  | _ => 0
/-- VLMAX of a vtype. -/
def vlMax (vt : Nat) : Nat := 512 * vLmul8 vt / 8 / vSew vt
/-- Is a vtype supported (ELEN 64)? -/
def vtypeOk (vt : Nat) : Bool :=
  decide (vt < 256) && decide (vSew vt ≤ 64) && vLmul8 vt != 0 && decide (vSew vt * 8 ≤ 64 * vLmul8 vt)

/-- vsetvl family: new vtype and AVL. -/
def setVl (vt avl : Nat) (rd : Nat) (th : Thread) : Thread :=
  if vtypeOk vt then
    let n := min avl (vlMax vt)
    setX rd n { th with vtype := vt, vill := false, vl := n, vstart := 0 }
  else setX rd 0 { th with vtype := 0, vill := true, vl := 0, vstart := 0 }

/-- OPCFG: vsetvli, vsetivli, vsetvl. -/
def execVset (w : Nat) (th : Thread) : Option Thread :=
  let rd := iRd w
  let rs1 := iRs1 w
  let go := fun vt =>
    if rs1 != 0 then setVl vt (xreg th rs1) rd th
    else if rd != 0 then setVl vt (2 ^ 64) rd th
    else setVl vt th.vl rd th
  if bitOf w 31 = false then some (go (fieldOf w 30 20))
  else if bitOf w 30 then some (setVl (fieldOf w 29 20) rs1 rd th)
  else if fieldOf w 30 25 = 0 then some (go (xreg th (iRs2 w)))
  else none

/-! Elements. -/

/-- Element `i` of width `ew` of the group at register `r`. -/
def vget (th : Thread) (r ew i : Nat) : Nat :=
  fieldOf (vregT th (r + i * ew / 512)) (i * ew % 512 + ew - 1) (i * ew % 512)
/-- Write element `i`. -/
def vput (r ew i v : Nat) (th : Thread) : Thread :=
  let k := r + i * ew / 512
  setV k (putField (vregT th k) (i * ew % 512 + ew - 1) (i * ew % 512) (v % 2 ^ ew)) th
/-- Mask bit `i`. -/
def vmask (th : Thread) (r i : Nat) : Bool := bitOf (vregT th r) i
/-- Write mask bit `i` of register `r`. -/
def vputMask (r i : Nat) (b : Bool) (th : Thread) : Thread := setV r (putBit (vregT th r) i b) th

/-- The body elements: from vstart to vl - 1, active under the mask. -/
def vActive (th : Thread) (vm : Bool) : List Nat :=
  (List.range th.vl).filter (fun i => decide (th.vstart ≤ i) && (vm || vmask th 0 i))

/-- Write every active element with `f i`, sources read before the instruction. -/
def vMap (th : Thread) (vm : Bool) (vd ew : Nat) (f : Nat → Nat) : Thread :=
  let t := forEach (vActive th vm) (fun i t => vput vd ew i (f i) t) th
  { t with vstart := 0 }

/-- As `vMap` for results that may saturate. -/
def vMapSat (th : Thread) (vm : Bool) (vd ew : Nat) (f : Nat → Nat × Bool) : Thread :=
  let t := vMap th vm vd ew (fun i => (f i).1)
  if (vActive th vm).any (fun i => (f i).2) then { t with vxsat := true } else t

/-- As `vMap` for float results with flags. -/
def vMapF (th : Thread) (vm : Bool) (vd ew : Nat) (f : Nat → Nat × Nat) : Thread :=
  let t := vMap th vm vd ew (fun i => (f i).1)
  accrue ((vActive th vm).foldl (fun a i => a ||| (f i).2) 0) t

/-- Write every active mask bit with `f i`. -/
def vMapMask (th : Thread) (vm : Bool) (vd : Nat) (f : Nat → Bool) : Thread :=
  let t := forEach (vActive th vm) (fun i t => vputMask vd i (f i) t) th
  { t with vstart := 0 }

/-- Fixed-point rounding of v / 2^k under vxrm. -/
def vRoundShift (vxrm : Nat) (v : Int) (k : Nat) : Int :=
  let q := v / (2 ^ k : Nat)
  let rem := v % (2 ^ k : Nat)
  let half : Int := (2 ^ k : Nat)
  let up := match vxrm with
    | 0 => decide (half ≤ 2 * rem) && decide (0 < k)
    | 1 => decide (half < 2 * rem) || (2 * rem == half && q % 2 == 1 && decide (0 < k))
    | 2 => false
    | _ => rem != 0 && q % 2 == 0
  if up then q + 1 else q

/-- Saturate to `w` bits, signed or not. -/
def vSat (signed : Bool) (w : Nat) (v : Int) : Nat × Bool :=
  let lo : Int := if signed then -(2 ^ (w - 1) : Nat) else 0
  let hi : Int := if signed then (2 ^ (w - 1) : Nat) - 1 else (2 ^ w : Nat) - 1
  let r := clampInt lo hi v
  (patternOf w r, r != v)

/-- The single-width integer functions of OPIVV, OPIVX and OPIVI: `a` is vs2's element, `b` the other operand. -/
def vIntOp (f6 ew vxrm a b : Nat) : Option (Nat × Bool) :=
  let sa := signedOf ew a
  let sb := signedOf ew b
  let sh := b % ew
  let ok := fun (v : Nat) => some (v % 2 ^ ew, false)
  match f6 with
  | 0x00 => ok (a + b)
  | 0x02 => ok (a + 2 ^ ew - b)
  | 0x03 => ok (b + 2 ^ ew - a)
  | 0x04 => ok (min a b)
  | 0x05 => ok (if sa < sb then a else b)
  | 0x06 => ok (max a b)
  | 0x07 => ok (if sa < sb then b else a)
  | 0x09 => ok (a &&& b)
  | 0x0A => ok (a ||| b)
  | 0x0B => ok (a ^^^ b)
  | 0x20 => some (vSat false ew ((a : Int) + b))
  | 0x21 => some (vSat true ew (sa + sb))
  | 0x22 => some (vSat false ew ((a : Int) - b))
  | 0x23 => some (vSat true ew (sa - sb))
  | 0x25 => ok (a * 2 ^ sh)
  | 0x27 => some (vSat true ew (vRoundShift vxrm (sa * sb) (ew - 1)))
  | 0x28 => ok (a / 2 ^ sh)
  | 0x29 => ok (patternOf ew (sa / (2 ^ sh : Nat)))
  | 0x2A => ok (patternOf ew (vRoundShift vxrm a sh))
  | 0x2B => ok (patternOf ew (vRoundShift vxrm sa sh))
  | _ => none

/-- Comparisons into a mask. -/
def vCmpOp (f6 ew a b : Nat) : Option Bool :=
  let sa := signedOf ew a
  let sb := signedOf ew b
  match f6 with
  | 0x18 => some (a == b)
  | 0x19 => some (a != b)
  | 0x1A => some (decide (a < b))
  | 0x1B => some (decide (sa < sb))
  | 0x1C => some (decide (a ≤ b))
  | 0x1D => some (decide (sa ≤ sb))
  | 0x1E => some (decide (b < a))
  | 0x1F => some (decide (sb < sa))
  | _ => none

/-- Add or subtract with carry: value and carry or borrow. -/
def vCarryOp (f6 ew a b c : Nat) : Nat × Bool :=
  if f6 ≤ 0x11 then ((a + b + c) % 2 ^ ew, decide (2 ^ ew ≤ a + b + c))
  else ((a + 2 * 2 ^ ew - b - c) % 2 ^ ew, decide (a < b + c))

/-- OPIVV, OPIVX and OPIVI: `src i` is the second operand of element i, `scalar` its untruncated value where it is one. -/
def execVInt (w : Nat) (scalar : Option Nat) (src : Nat → Nat → Nat) (th : Thread) : Option Thread :=
  let f6 := fieldOf w 31 26
  let vm := bitOf w 25
  let vd := iRd w
  let v2 := iRs2 w
  let ew := vSew th.vtype
  let vmax := vlMax th.vtype
  let a := fun i => vget th v2 ew i
  let narrow := fun (signed sat : Bool) =>
    if ew = 64 then none
    else some (vMapSat th vm vd ew (fun i =>
      let x := vget th v2 (2 * ew) i
      let v : Int := if signed then signedOf (2 * ew) x else (x : Int)
      let k := src (2 * ew) i % (2 * ew)
      if sat then vSat signed ew (vRoundShift th.vxrm v k)
      else (patternOf ew (v / (2 ^ k : Nat)), false)))
  match f6 with
  | 0x0C => match scalar with
    | some k => some (vMap th vm vd ew (fun _ => if k < vmax then vget th v2 ew k else 0))
    | none => some (vMap th vm vd ew (fun i => let k := src ew i; if k < vmax then vget th v2 ew k else 0))
  | 0x0E => match scalar with
    | some k => some { (forEach ((vActive th vm).filter (fun i => decide (k ≤ i)))
        (fun i t => vput vd ew i (vget th v2 ew (i - k)) t) th) with vstart := 0 }
    | none => some (vMap th vm vd ew (fun i => let k := vget th (iRs1 w) 16 i; if k < vmax then vget th v2 ew k else 0))
  | 0x0F => match scalar with
    | some k => some (vMap th vm vd ew (fun i => if i + k < vmax then vget th v2 ew (i + k) else 0))
    | none => none
  | 0x10 => some (vMap th true vd ew (fun i => (vCarryOp f6 ew (a i) (src ew i) (if vmask th 0 i then 1 else 0)).1))
  | 0x12 => some (vMap th true vd ew (fun i => (vCarryOp f6 ew (a i) (src ew i) (if vmask th 0 i then 1 else 0)).1))
  | 0x11 => some (vMapMask th true vd (fun i => (vCarryOp f6 ew (a i) (src ew i) (if !vm && vmask th 0 i then 1 else 0)).2))
  | 0x13 => some (vMapMask th true vd (fun i => (vCarryOp f6 ew (a i) (src ew i) (if !vm && vmask th 0 i then 1 else 0)).2))
  | 0x17 => some (vMap th true vd ew (fun i => if vm || vmask th 0 i then src ew i else a i))
  | 0x2C => narrow false false
  | 0x2D => narrow true false
  | 0x2E => narrow false true
  | 0x2F => narrow true true
  | 0x30 => if scalar.isNone && ew != 64 then
      some { vput vd (2 * ew) 0 ((vActive th vm).foldl (fun s i => s + a i) (vget th (iRs1 w) (2 * ew) 0)) th with vstart := 0 }
    else none
  | 0x31 => if scalar.isNone && ew != 64 then
      some { vput vd (2 * ew) 0 (patternOf (2 * ew) ((vActive th vm).foldl (fun s i => s + signedOf ew (a i))
        (signedOf (2 * ew) (vget th (iRs1 w) (2 * ew) 0)))) th with vstart := 0 }
    else none
  | _ =>
    match vCmpOp f6 ew 0 0 with
    | some _ => some (vMapMask th vm vd (fun i => (vCmpOp f6 ew (a i) (src ew i)).getD false))
    | none => match vIntOp f6 ew th.vxrm 0 0 with
      | some _ => some (vMapSat th vm vd ew (fun i => (vIntOp f6 ew th.vxrm (a i) (src ew i)).getD (0, false)))
      | none => none

/-- One step of an integer reduction. -/
def vRedOp (f6 ew s a : Nat) : Nat :=
  match f6 with
  | 0 => (s + a) % 2 ^ ew
  | 1 => s &&& a
  | 2 => s ||| a
  | 3 => s ^^^ a
  | 4 => min s a
  | 5 => if signedOf ew a < signedOf ew s then a else s
  | 6 => max s a
  | _ => if signedOf ew s < signedOf ew a then a else s

/-- Mask-register logic. -/
def vMaskOp (f6 : Nat) (a b : Bool) : Bool :=
  match f6 with
  | 0x18 => a && !b
  | 0x19 => a && b
  | 0x1A => a || b
  | 0x1B => a != b
  | 0x1C => a || !b
  | 0x1D => !(a && b)
  | 0x1E => !(a || b)
  | _ => a == b

/-- Single-width multiply, divide and multiply-add of OPMVV and OPMVX: `a` vs2, `b` vs1 or rs1, `c` vd. -/
def vMulOp (f6 ew a b c : Nat) : Option Nat :=
  let sa := signedOf ew a
  let sb := signedOf ew b
  match f6 with
  | 0x20 => some (divW ew 5 a b)
  | 0x21 => some (divW ew 4 a b)
  | 0x22 => some (divW ew 7 a b)
  | 0x23 => some (divW ew 6 a b)
  | 0x24 => some (a * b / 2 ^ ew)
  | 0x25 => some (a * b)
  | 0x26 => some (patternOf ew (sa * (b : Int) / (2 ^ ew : Nat)))
  | 0x27 => some (patternOf ew (sa * sb / (2 ^ ew : Nat)))
  | 0x29 => some (b * c + a)
  | 0x2B => some (patternOf ew ((a : Int) - b * c))
  | 0x2D => some (a * b + c)
  | 0x2F => some (patternOf ew ((c : Int) - a * b))
  | _ => none

/-- Widening integer functions: operands of width `ew` (or vs2 already wide), old vd wide. -/
def vWideOp (f6 ew a wideA b c : Nat) : Option Int :=
  let sa := signedOf ew a
  let sb := signedOf ew b
  let ua : Int := a
  let ub : Int := b
  match f6 with
  | 0x30 => some (ua + ub)
  | 0x31 => some (sa + sb)
  | 0x32 => some (ua - ub)
  | 0x33 => some (sa - sb)
  | 0x34 => some ((wideA : Int) + ub)
  | 0x35 => some ((wideA : Int) + sb)
  | 0x36 => some ((wideA : Int) - ub)
  | 0x37 => some ((wideA : Int) - sb)
  | 0x38 => some (ua * ub)
  | 0x3A => some (sa * ub)
  | 0x3B => some (sa * sb)
  | 0x3C => some (ua * ub + c)
  | 0x3D => some (sa * sb + c)
  | 0x3E => some (sa * ub + c)
  | 0x3F => some (ua * sb + c)
  | _ => none

/-- VMUNARY0, VWXUNARY0, VRXUNARY0 and VXUNARY0. -/
def execVUnary (w : Nat) (isVV : Bool) (th : Thread) : Option Thread :=
  let vm := bitOf w 25
  let vd := iRd w
  let v2 := iRs2 w
  let sel := iRs1 w
  let ew := vSew th.vtype
  let act := vActive th vm
  let first := act.find? (fun i => vmask th v2 i)
  let before := fun i => match first with
    | some k => decide (i < k)
    | none => true
  match fieldOf w 31 26, isVV with
  | 0x10, true =>
    match sel with
    | 0x00 => some { setX vd (u64 (signedOf ew (vget th v2 ew 0))) th with vstart := 0 }
    | 0x10 => some { setX vd (act.filter (fun i => vmask th v2 i)).length th with vstart := 0 }
    | 0x11 => some { setX vd (match first with
        | some k => k
        | none => 2 ^ 64 - 1) th with vstart := 0 }
    | _ => none
  | 0x10, false =>
    if v2 = 0 then
      some { (if th.vl = 0 then th else vput vd ew 0 (xreg th sel) th) with vstart := 0 }
    else none
  | 0x12, true =>
    let k := match sel with
      | 2 => some (8, false)
      | 3 => some (8, true)
      | 4 => some (4, false)
      | 5 => some (4, true)
      | 6 => some (2, false)
      | 7 => some (2, true)
      | _ => none
    match k with
    | some (n, s) =>
      if ew / n < 8 then none
      else some (vMap th vm vd ew (fun i =>
        let x := vget th v2 (ew / n) i
        if s then patternOf ew (signedOf (ew / n) x) else x))
    | none => none
  | 0x14, true =>
    match sel with
    | 0x01 => some (vMapMask th vm vd before)
    | 0x02 => some (vMapMask th vm vd (fun i => first == some i))
    | 0x03 => some (vMapMask th vm vd (fun i => before i || first == some i))
    | 0x10 => some (vMap th vm vd ew (fun i => (act.filter (fun k => decide (k < i) && vmask th v2 k)).length))
    | 0x11 => some (vMap th vm vd ew (fun i => i))
    | _ => none
  | _, _ => none

/-- OPMVV and OPMVX. -/
def execVMul (w : Nat) (isVV : Bool) (src : Nat → Nat → Nat) (th : Thread) : Option Thread :=
  let f6 := fieldOf w 31 26
  let vm := bitOf w 25
  let vd := iRd w
  let v2 := iRs2 w
  let v1 := iRs1 w
  let ew := vSew th.vtype
  let a := fun i => vget th v2 ew i
  if f6 ≤ 7 then
    if isVV then some { vput vd ew 0 ((vActive th vm).foldl (fun s i => vRedOp f6 ew s (a i)) (vget th v1 ew 0)) th with vstart := 0 }
    else none
  else if 0x08 ≤ f6 ∧ f6 ≤ 0x0B then
    some (vMap th vm vd ew (fun i =>
      let x : Int := if f6 % 2 = 1 then signedOf ew (a i) else (a i : Int)
      let y : Int := if f6 % 2 = 1 then signedOf ew (src ew i) else (src ew i : Int)
      patternOf ew (vRoundShift th.vxrm (if f6 ≤ 0x09 then x + y else x - y) 1)))
  else if f6 = 0x0E ∧ !isVV then
    some (vMap th vm vd ew (fun i => if i = 0 then src ew 0 else vget th v2 ew (i - 1)))
  else if f6 = 0x0F ∧ !isVV then
    some (vMap th vm vd ew (fun i => if i + 1 = th.vl then src ew 0 else vget th v2 ew (i + 1)))
  else if f6 = 0x17 ∧ isVV then
    let picked := (List.range th.vl).filter (fun i => vmask th v1 i)
    some { forEach picked.zipIdx (fun p t => vput vd ew p.2 (a p.1) t) th with vstart := 0 }
  else if 0x18 ≤ f6 ∧ f6 ≤ 0x1F then
    if isVV then some (vMapMask th true vd (fun i => vMaskOp f6 (vmask th v2 i) (vmask th v1 i))) else none
  else if f6 = 0x10 ∨ f6 = 0x12 ∨ f6 = 0x14 then execVUnary w isVV th
  else match vMulOp f6 ew 0 1 0 with
    | some _ => some (vMap th vm vd ew (fun i => (vMulOp f6 ew (a i) (src ew i) (vget th vd ew i)).getD 0))
    | none =>
      if ew = 64 then none
      else match vWideOp f6 ew 0 0 0 0 with
        | some _ => some (vMap th vm vd (2 * ew) (fun i =>
            patternOf (2 * ew) ((vWideOp f6 ew (a i) (vget th v2 (2 * ew) i) (src ew i) (vget th vd (2 * ew) i)).getD 0)))
        | none => none

/-- The float format of a SEW. -/
def vFmt (ew : Nat) : Option FFmt := if ew = 32 then some fp32 else if ew = 64 then some fp64 else none

/-- Single-width float functions: `a` vs2, `b` vs1 or rs1, `c` vd. -/
def vFloatOp (f : FFmt) (r : Rnd) (f6 a b c : Nat) : Option (Nat × Nat) :=
  match f6 with
  | 0x00 => some (fpOp f r [a, b] (addSigned r (decodeF f a) (decodeF f b)))
  | 0x02 => some (fpOp f r [a, b] (addSigned r (decodeF f a) (negF (decodeF f b))))
  | 0x27 => some (fpOp f r [a, b] (addSigned r (decodeF f b) (negF (decodeF f a))))
  | 0x04 => some (fpMinMax f false a b)
  | 0x06 => some (fpMinMax f true a b)
  | 0x08 => (fpSgnj f 0 a b).map (fun x => (x, 0))
  | 0x09 => (fpSgnj f 1 a b).map (fun x => (x, 0))
  | 0x0A => (fpSgnj f 2 a b).map (fun x => (x, 0))
  | 0x20 => some (fpDiv f r a b)
  | 0x21 => some (fpDiv f r b a)
  | 0x24 => some (fpOp f r [a, b] (mulF (decodeF f a) (decodeF f b)))
  | 0x28 => some (fpFma f r false false b c a)
  | 0x29 => some (fpFma f r true true b c a)
  | 0x2A => some (fpFma f r false true b c a)
  | 0x2B => some (fpFma f r true false b c a)
  | 0x2C => some (fpFma f r false false a b c)
  | 0x2D => some (fpFma f r true true a b c)
  | 0x2E => some (fpFma f r false true a b c)
  | 0x2F => some (fpFma f r true false a b c)
  | _ => none

/-- Float comparisons into a mask. -/
def vFloatCmp (f : FFmt) (f6 a b : Nat) : Option (Bool × Nat) :=
  let pick := fun (r : Nat × Nat) => some (r.1 == 1, r.2)
  match f6 with
  | 0x18 => pick (fpCompare f 2 a b)
  | 0x19 => pick (fpCompare f 0 a b)
  | 0x1B => pick (fpCompare f 1 a b)
  | 0x1C => let r := fpCompare f 2 a b; some (r.1 == 0, r.2)
  | 0x1D => pick (fpCompare f 1 b a)
  | 0x1F => pick (fpCompare f 0 b a)
  | _ => none

/-- A code of FP32 as FP64, exactly. -/
def vWiden (c : Nat) : Nat × Nat := ((fpRound fp64 .rne (decodeF fp32 c)).1, snanFlag fp32 [c])

/-- VFUNARY0: conversions, selected by vs1. -/
def execVConvert (w : Nat) (r : Rnd) (th : Thread) : Option Thread :=
  let vm := bitOf w 25
  let vd := iRd w
  let v2 := iRs2 w
  let ew := vSew th.vtype
  let sel := iRs1 w
  let mode : Rnd := if sel % 8 = 6 ∨ sel % 8 = 7 then .rtz else r
  let signed := sel % 2 = 1
  match sel / 8, sel % 8 with
  | 0, k => (vFmt ew).bind (fun f =>
      if k = 2 ∨ k = 3 then some (vMapF th vm vd ew (fun i =>
        let x := vget th v2 ew i
        fpRound f r (ofIntF (if signed then signedOf ew x else (x : Int)))))
      else if k = 4 ∨ k = 5 then none
      else some (vMapF th vm vd ew (fun i => fpToInt mode ew signed (decodeF f (vget th v2 ew i)))))
  | 1, k =>
    if k = 2 ∨ k = 3 then (vFmt (2 * ew)).bind (fun f => some (vMapF th vm vd (2 * ew) (fun i =>
        let x := vget th v2 ew i
        fpRound f r (ofIntF (if signed then signedOf ew x else (x : Int))))))
    else if ew != 32 then none
    else if k = 4 then some (vMapF th vm vd 64 (fun i => vWiden (vget th v2 32 i)))
    else if k = 5 then none
    else some (vMapF th vm vd 64 (fun i => fpToInt mode 64 signed (decodeF fp32 (vget th v2 32 i))))
  | 2, k =>
    if k = 2 ∨ k = 3 then (vFmt ew).bind (fun f => some (vMapF th vm vd ew (fun i =>
        let x := vget th v2 (2 * ew) i
        fpRound f r (ofIntF (if signed then signedOf (2 * ew) x else (x : Int))))))
    else if k = 4 ∨ k = 5 then
      if ew = 32 then some (vMapF th vm vd 32 (fun i =>
        let c := vget th v2 64 i
        let x := fpRound fp32 (if k = 5 then .rtz else r) (decodeF fp64 c)
        (if k = 5 ∧ bitOf x.2 0 then x.1 ||| 1 else x.1, x.2 ||| snanFlag fp64 [c])))
      else none
    else (vFmt (2 * ew)).bind (fun f => some (vMapF th vm vd ew (fun i =>
        fpToInt mode ew signed (decodeF f (vget th v2 (2 * ew) i)))))
  | _, _ => none

/-- A float reduction in ascending element order. -/
def vFloatRed (f : FFmt) (r : Rnd) (f6 : Nat) (init : Nat) (xs : List Nat) : Nat × Nat :=
  xs.foldl (fun s x =>
    let y := match f6 with
      | 0x05 => fpMinMax f false s.1 x
      | 0x07 => fpMinMax f true s.1 x
      | _ => fpOp f r [s.1, x] (addSigned r (decodeF f s.1) (decodeF f x))
    (y.1, s.2 ||| y.2)) (init, 0)

/-- OPFVV and OPFVF. -/
def execVFloat (w : Nat) (isVV : Bool) (src : Nat → Nat → Nat) (th : Thread) : Option Thread :=
  let f6 := fieldOf w 31 26
  let vm := bitOf w 25
  let vd := iRd w
  let v2 := iRs2 w
  let ew := vSew th.vtype
  (rmOf 7 th.frm).bind (fun r =>
  if f6 = 0x12 ∧ isVV then execVConvert w r th
  else (vFmt ew).bind (fun f =>
    let a := fun i => vget th v2 ew i
    let wide := fun i => if f6 = 0x34 ∨ f6 = 0x36 then (vget th v2 64 i, 0) else vWiden (vget th v2 32 i)
    let addF6 := fun g6 => some (vMapF th vm vd 64 (fun i =>
      let x := wide i
      let y := vWiden (src 32 i)
      let z := (vFloatOp fp64 r g6 x.1 y.1 (vget th vd 64 i)).getD (0, 0)
      (z.1, x.2 ||| y.2 ||| z.2)))
    match f6, isVV with
    | 0x01, true => let z := vFloatRed f r f6 (vget th (iRs1 w) ew 0) ((vActive th vm).map a)
                    some (accrue z.2 { vput vd ew 0 z.1 th with vstart := 0 })
    | 0x03, true => let z := vFloatRed f r f6 (vget th (iRs1 w) ew 0) ((vActive th vm).map a)
                    some (accrue z.2 { vput vd ew 0 z.1 th with vstart := 0 })
    | 0x05, true => let z := vFloatRed f r f6 (vget th (iRs1 w) ew 0) ((vActive th vm).map a)
                    some (accrue z.2 { vput vd ew 0 z.1 th with vstart := 0 })
    | 0x07, true => let z := vFloatRed f r f6 (vget th (iRs1 w) ew 0) ((vActive th vm).map a)
                    some (accrue z.2 { vput vd ew 0 z.1 th with vstart := 0 })
    | 0x0E, false => some (vMap th vm vd ew (fun i => if i = 0 then src ew 0 else vget th v2 ew (i - 1)))
    | 0x0F, false => some (vMap th vm vd ew (fun i => if i + 1 = th.vl then src ew 0 else vget th v2 ew (i + 1)))
    | 0x10, true => if iRs1 w = 0 then some { setFp f vd (a 0) th with vstart := 0 } else none
    | 0x10, false => if v2 = 0 then some { (if th.vl = 0 then th else vput vd ew 0 (src ew 0) th) with vstart := 0 } else none
    | 0x13, true => match iRs1 w with
      | 0x00 => some (vMapF th vm vd ew (fun i => fpSqrt f r (a i)))
      | 0x04 => some (vMapF th vm vd ew (fun i => fpRsqrt7 f (a i)))
      | 0x05 => some (vMapF th vm vd ew (fun i => fpRecip7 f r (a i)))
      | 0x10 => some (vMap th vm vd ew (fun i => fpClass f (a i)))
      | _ => none
    | 0x17, false => some (vMap th true vd ew (fun i => if vm || vmask th 0 i then src ew i else a i))
    | 0x30, _ => if ew = 32 then addF6 0x00 else none
    | 0x32, _ => if ew = 32 then addF6 0x02 else none
    | 0x34, _ => if ew = 32 then addF6 0x00 else none
    | 0x36, _ => if ew = 32 then addF6 0x02 else none
    | 0x38, _ => if ew = 32 then addF6 0x24 else none
    | 0x3C, _ => if ew = 32 then addF6 0x2C else none
    | 0x3D, _ => if ew = 32 then addF6 0x2D else none
    | 0x3E, _ => if ew = 32 then addF6 0x2E else none
    | 0x3F, _ => if ew = 32 then addF6 0x2F else none
    | 0x31, true => if ew = 32 then
        let xs := (vActive th vm).map (fun i => vWiden (a i))
        let z := vFloatRed fp64 r 1 (vget th (iRs1 w) 64 0) (xs.map (·.1))
        some (accrue (xs.foldl (fun f x => f ||| x.2) z.2) { vput vd 64 0 z.1 th with vstart := 0 })
      else none
    | 0x33, true => if ew = 32 then
        let xs := (vActive th vm).map (fun i => vWiden (a i))
        let z := vFloatRed fp64 r 3 (vget th (iRs1 w) 64 0) (xs.map (·.1))
        some (accrue (xs.foldl (fun f x => f ||| x.2) z.2) { vput vd 64 0 z.1 th with vstart := 0 })
      else none
    | _, _ =>
      match vFloatCmp f f6 0 0 with
      | some _ => some (accrue ((vActive th vm).foldl (fun x i => x ||| ((vFloatCmp f f6 (a i) (src ew i)).getD (false, 0)).2) 0)
          (vMapMask th vm vd (fun i => ((vFloatCmp f f6 (a i) (src ew i)).getD (false, 0)).1)))
      | none => match vFloatOp f r f6 0 0 0 with
        | some _ => some (vMapF th vm vd ew (fun i => (vFloatOp f r f6 (a i) (src ew i) (vget th vd ew i)).getD (0, 0)))
        | none => none))

/-- Whole register moves vmv<n>r.v. -/
def execVMove (w : Nat) (th : Thread) : Option Thread :=
  let n := iRs1 w + 1
  if n = 1 ∨ n = 2 ∨ n = 4 ∨ n = 8 then
    if iRd w % n = 0 ∧ iRs2 w % n = 0 then
      some { forEach (List.range n) (fun i t => setV (iRd w + i) (vregT th (iRs2 w + i)) t) th with vstart := 0 }
    else none
  else none

/-! Reserved encodings: forms, register groups, overlaps, masks. A reserved encoding is no instruction of V 1.0 and
raises the illegal-instruction exception (04 R96). -/

/-- What an operand field of a vector instruction names. -/
inductive VOperand where
  /-- No group: a scalar register, an immediate, a selector, or the one element of a reduction. -/
  | single
  /-- One mask register. -/
  | mask
  /-- A group whose elements have this width in bits. -/
  | group (eew : Nat)
  deriving DecidableEq, Repr

/-- The functions (funct6) that each of the seven formats has, by funct3. -/
def vForms (f3 : Nat) : List Nat :=
  let shifts := [0x25, 0x28, 0x29, 0x2A, 0x2B, 0x2C, 0x2D, 0x2E, 0x2F]
  let fma := [0x28, 0x29, 0x2A, 0x2B, 0x2C, 0x2D, 0x2E, 0x2F]
  let muls := [0x08, 0x09, 0x0A, 0x0B, 0x10, 0x20, 0x21, 0x22, 0x23, 0x24, 0x25, 0x26, 0x27, 0x29, 0x2B, 0x2D, 0x2F, 0x30,
    0x31, 0x32, 0x33, 0x34, 0x35, 0x36, 0x37, 0x38, 0x3A, 0x3B, 0x3C, 0x3D, 0x3F]
  let floats := [0x00, 0x02, 0x04, 0x06, 0x08, 0x09, 0x0A, 0x10, 0x18, 0x19, 0x1B, 0x1C, 0x20, 0x24, 0x30, 0x32, 0x34, 0x36,
    0x38, 0x3C, 0x3D, 0x3E, 0x3F] ++ fma
  match f3 with
  | 0 => [0x00, 0x02, 0x04, 0x05, 0x06, 0x07, 0x09, 0x0A, 0x0B, 0x0C, 0x0E, 0x10, 0x11, 0x12, 0x13, 0x17, 0x18, 0x19, 0x1A,
      0x1B, 0x1C, 0x1D, 0x20, 0x21, 0x22, 0x23, 0x27, 0x30, 0x31] ++ shifts
  | 4 => [0x00, 0x02, 0x03, 0x04, 0x05, 0x06, 0x07, 0x09, 0x0A, 0x0B, 0x0C, 0x0E, 0x0F, 0x10, 0x11, 0x12, 0x13, 0x17, 0x18,
      0x19, 0x1A, 0x1B, 0x1C, 0x1D, 0x1E, 0x1F, 0x20, 0x21, 0x22, 0x23, 0x27] ++ shifts
  | 3 => [0x00, 0x03, 0x09, 0x0A, 0x0B, 0x0C, 0x0E, 0x0F, 0x10, 0x11, 0x17, 0x18, 0x19, 0x1C, 0x1D, 0x1E, 0x1F, 0x20,
      0x21] ++ shifts
  | 2 => [0x00, 0x01, 0x02, 0x03, 0x04, 0x05, 0x06, 0x07, 0x12, 0x14, 0x17, 0x18, 0x19, 0x1A, 0x1B, 0x1C, 0x1D, 0x1E,
      0x1F] ++ muls
  | 6 => [0x0E, 0x0F, 0x3E] ++ muls
  | 1 => [0x01, 0x03, 0x05, 0x07, 0x12, 0x13, 0x31, 0x33] ++ floats
  | _ => [0x0E, 0x0F, 0x17, 0x1D, 0x1F, 0x21, 0x27] ++ floats

/-- Destination, vs2 and vs1 operands of a vector instruction: `sel` is the vs1 field, `ew` is SEW. -/
def vOperands (f3 f6 sel ew : Nat) (vm : Bool) : VOperand × VOperand × VOperand :=
  let one := VOperand.group ew
  let two := VOperand.group (2 * ew)
  let src := if f3 ≤ 2 then one else .single
  if f3 = 0 ∨ f3 = 3 ∨ f3 = 4 then
    if f6 = 0x11 ∨ f6 = 0x13 ∨ (0x18 ≤ f6 ∧ f6 ≤ 0x1F) then (.mask, one, src)
    else if f6 = 0x17 ∧ vm then (one, .single, src)
    else if f6 = 0x0E ∧ f3 = 0 then (one, one, .group 16)
    else if 0x2C ≤ f6 ∧ f6 ≤ 0x2F then (one, two, src)
    else if f6 = 0x30 ∨ f6 = 0x31 then (.single, one, .single)
    else (one, one, src)
  else if f3 = 2 ∨ f3 = 6 then
    if f6 ≤ 7 then (.single, one, .single)
    else if f6 = 0x10 then (.single, if f3 = 2 ∧ sel ≠ 0 then .mask else .single, .single)
    else if f6 = 0x12 then (one, .group (if sel ≤ 3 then ew / 8 else if sel ≤ 5 then ew / 4 else ew / 2), .single)
    else if f6 = 0x14 then (if sel ≤ 3 then .mask else one, if sel = 0x11 then .single else .mask, .single)
    else if f6 = 0x17 then (one, one, .mask)
    else if 0x18 ≤ f6 ∧ f6 ≤ 0x1F then (.mask, .mask, .mask)
    else if 0x34 ≤ f6 ∧ f6 ≤ 0x37 then (two, two, src)
    else if 0x30 ≤ f6 then (two, one, src)
    else (one, one, src)
  else
    if f6 = 0x10 then (.single, .single, .single)
    else if f6 = 0x01 ∨ f6 = 0x03 ∨ f6 = 0x05 ∨ f6 = 0x07 ∨ f6 = 0x31 ∨ f6 = 0x33 then (.single, one, .single)
    else if f6 = 0x12 then (if sel / 8 = 1 then two else one, if sel / 8 = 2 then two else one, .single)
    else if f6 = 0x13 then (one, one, .single)
    else if f6 = 0x17 then (one, if vm then .single else one, .single)
    else if 0x18 ≤ f6 ∧ f6 ≤ 0x1F then (.mask, one, src)
    else if f6 = 0x34 ∨ f6 = 0x36 then (two, two, src)
    else if 0x30 ≤ f6 then (two, one, src)
    else (one, one, src)

/-- EMUL times 8 of a group. -/
def vEmul8 (vt eew : Nat) : Nat := eew * vLmul8 vt / vSew vt

/-- Registers of an operand. -/
def VOperand.regs (vt : Nat) (o : VOperand) : Nat :=
  match o with
  | .single => 0
  | .mask => 1
  | .group eew => max 1 (vEmul8 vt eew / 8)

/-- Element width of an operand; a mask has width 1. -/
def VOperand.eew (o : VOperand) : Nat :=
  match o with
  | .group eew => eew
  | _ => 1

/-- The group exists and register `r` is aligned to it. -/
def VOperand.fits (vt r : Nat) (o : VOperand) : Bool :=
  match o with
  | .group eew => decide (8 ≤ eew) && decide (eew ≤ 64) && decide (1 ≤ vEmul8 vt eew) && decide (vEmul8 vt eew ≤ 64) &&
      r % o.regs vt == 0
  | _ => true

/-- Do two operands share a register? -/
def vShare (vt : Nat) (a : VOperand) (ra : Nat) (b : VOperand) (rb : Nat) : Bool :=
  decide (ra < rb + b.regs vt) && decide (rb < ra + a.regs vt)

/-- May destination `a` at `ra` overlap source `b` at `rb`: equal widths, the lowest part of a wider source, or the highest
part of a wider destination. -/
def vOverlapOk (vt : Nat) (a : VOperand) (ra : Nat) (b : VOperand) (rb : Nat) : Bool :=
  !vShare vt a ra b rb || a.eew == b.eew || (decide (a.eew < b.eew) && ra == rb) ||
    (decide (b.eew < a.eew) && decide (8 ≤ vEmul8 vt b.eew) && ra + a.regs vt == rb + b.regs vt)

/-- Destinations that may share no register with a source: gathers, slides up, vcompress, viota, vmsbf and its like. -/
def vNoOverlap (f3 f6 sel : Nat) : Bool :=
  ((f3 == 0 || f3 == 3 || f3 == 4) && (f6 == 0x0C || f6 == 0x0E)) || ((f3 == 5 || f3 == 6) && f6 == 0x0E) ||
    (f3 == 2 && (f6 == 0x17 || (f6 == 0x14 && sel != 0x11)))

/-- Is the instruction one that runs only with vstart = 0: reductions, and mask instructions with a prefix? -/
def vNeedsStart (f3 f6 sel : Nat) : Bool :=
  (f3 == 0 && (f6 == 0x30 || f6 == 0x31)) ||
    (f3 == 2 && (decide (f6 ≤ 7) || f6 == 0x17 || (f6 == 0x10 && sel != 0) || (f6 == 0x14 && sel != 0x11))) ||
    (f3 == 1 && (f6 == 1 || f6 == 3 || f6 == 5 || f6 == 7 || f6 == 0x31 || f6 == 0x33))

/-- Is the vm bit one that the function takes? -/
def vMaskBitOk (f3 f6 : Nat) (vm : Bool) : Bool :=
  if (f3 == 0 || f3 == 3 || f3 == 4) && (f6 == 0x10 || f6 == 0x12) then !vm
  else if f3 == 2 && (f6 == 0x17 || (decide (0x18 ≤ f6) && decide (f6 ≤ 0x1F))) then vm
  else if f6 == 0x10 && (f3 == 1 || f3 == 5 || f3 == 6) then vm
  else true

/-- Is a vector arithmetic instruction, under the thread's vtype, none of the reserved encodings of V 1.0? -/
def vLegal (w : Nat) (th : Thread) : Bool :=
  let f3 := iF3 w
  let f6 := fieldOf w 31 26
  let vm := bitOf w 25
  let vd := iRd w
  let v2 := iRs2 w
  let v1 := iRs1 w
  let vt := th.vtype
  let ops := vOperands f3 f6 v1 (vSew vt) vm
  let dst := ops.1
  let s2 := ops.2.1
  let s1 := ops.2.2
  (vForms f3).contains f6 && vMaskBitOk f3 f6 vm && (!vNeedsStart f3 f6 v1 || th.vstart == 0) &&
    dst.fits vt vd && s2.fits vt v2 && s1.fits vt v1 &&
    (if vNoOverlap f3 f6 v1 then !vShare vt dst vd s2 v2 && !vShare vt dst vd s1 v1
     else vOverlapOk vt dst vd s2 v2 && vOverlapOk vt dst vd s1 v1) &&
    (vm || vd != 0 || dst == .single || (dst == .mask && !(f3 == 2 && f6 == 0x14))) &&
    (vm || !(f3 == 2 && f6 == 0x10 && v1 == 0)) && (!(f6 == 0x17 && vm && f3 != 2) || v2 == 0) && (!(f3 == 2 && f6 == 0x14 && v1 == 0x11) || v2 == 0)

/-! Agnostic elements: under vta the tail, under vma the masked-off elements keep their values or are overwritten with
ones, as the implementation likes; the tail of a mask result is always agnostic (04 Table 4.1: V 1.0). -/

/-- Elements `is` of the group at `r` are agnostic. -/
def vAgnostic (n r eew : Nat) (is : List Nat) (th : Thread) : Thread :=
  forEach is (fun i t => if Config.agnostic n r i then vput r eew i (2 ^ eew - 1) t else t) th

/-- Bits `is` of mask register `r` are agnostic. -/
def vAgnosticMask (n r : Nat) (is : List Nat) (th : Thread) : Thread :=
  forEach is (fun i t => vputMask r i (Config.agnostic n r i) t) th

/-- Body elements that the mask switches off. -/
def vMaskedOff (th : Thread) (vm : Bool) : List Nat :=
  if vm then [] else (List.range th.vl).filter (fun i => decide (th.vstart ≤ i) && !vmask th 0 i)

/-- Width of the one element that a reduction or a move from a scalar writes; none for other instructions. -/
def vScalarDest (f3 f6 ew : Nat) : Option Nat :=
  if f3 = 0 ∧ (f6 = 0x30 ∨ f6 = 0x31) then some (2 * ew)
  else if f3 = 2 ∧ f6 ≤ 7 then some ew
  else if (f3 = 5 ∨ f3 = 6) ∧ f6 = 0x10 then some ew
  else if f3 = 1 ∧ (f6 = 0x01 ∨ f6 = 0x03 ∨ f6 = 0x05 ∨ f6 = 0x07) then some ew
  else if f3 = 1 ∧ (f6 = 0x31 ∨ f6 = 0x33) then some (2 * ew)
  else none

/-- The agnostic elements of the result of instruction `w`, which `th` issued and whose outcome is `r`; none are touched
where vstart is not below vl. -/
def vPolicy (n w : Nat) (th r : Thread) : Thread :=
  let f3 := iF3 w
  let f6 := fieldOf w 31 26
  let vm := bitOf w 25
  let vd := iRd w
  let vt := th.vtype
  let ew := vSew vt
  let vta := bitOf vt 6
  let vma := bitOf vt 7
  let from_ := fun (lo hi : Nat) => (List.range hi).drop lo
  if th.vl ≤ th.vstart then r
  else match (vOperands f3 f6 (iRs1 w) ew vm).1 with
    | .mask => r |> vAgnosticMask n vd ((if vma then vMaskedOff th vm else []) ++ from_ th.vl 512)
    | .group eew =>
      let whole := (VOperand.group eew).regs vt * 512 / eew
      let vm := vm || f6 == 0x17 || ((f3 == 0 || f3 == 3 || f3 == 4) && (f6 == 0x10 || f6 == 0x12))
      let body := if f3 = 2 ∧ f6 = 0x17 then ((List.range th.vl).filter (fun i => vmask th (iRs1 w) i)).length else th.vl
      r |> vAgnostic n vd eew ((if vma then vMaskedOff th vm else []) ++ (if vta then from_ body whole else []))
    | .single =>
      match vScalarDest f3 f6 ew with
      | some e => if vta then vAgnostic n vd e (from_ 1 (512 / e)) r else r
      | none => r

/-- The result `r` of an instruction `w` that writes one element, a reduction or a move to element 0: where vstart is not below
vl nothing is written. -/
def vEmpty (w : Nat) (th r : Thread) : Thread :=
  if decide (th.vl ≤ th.vstart) && (vScalarDest (iF3 w) (fieldOf w 31 26) (vSew th.vtype)).isSome then { th with vstart := 0 }
  else r

/-- OP-V (0x57): a vector instruction of a thread, at open point `n`; none where it is illegal. -/
def execVector (n w len : Nat) (th : Thread) : Option (Thread × Nat) :=
  let next := th.pc + len
  let r := if iF3 w = 7 then execVset w th
    else if iF3 w = 3 ∧ fieldOf w 31 26 = 0x27 then execVMove w th
    else if th.vill || !vLegal w th then none
    else
      let imm := signedOf 5 (iRs1 w)
      let unsignedImm := match fieldOf w 31 26 with
        | 0x0C => true
        | 0x0E => true
        | 0x0F => true
        | 0x25 => true
        | 0x28 => true
        | 0x29 => true
        | 0x2A => true
        | 0x2B => true
        | 0x2C => true
        | 0x2D => true
        | 0x2E => true
        | 0x2F => true
        | _ => false
      let vsrc := fun ew i => vget th (iRs1 w) (min ew (vSew th.vtype)) i
      let xsrc := fun ew (_ : Nat) => xreg th (iRs1 w) % 2 ^ ew
      let fsrc := fun ew (_ : Nat) => if ew = 32 then unbox (freg th (iRs1 w)) else freg th (iRs1 w)
      let done : Option Thread := match iF3 w with
      | 0 => execVInt w none vsrc th
      | 3 =>
        let k := if unsignedImm then iRs1 w else u64 imm
        execVInt w (some k) (fun ew _ => if unsignedImm then iRs1 w else patternOf ew imm) th
      | 4 => execVInt w (some (xreg th (iRs1 w))) xsrc th
      | 2 => execVMul w true vsrc th
      | 6 => execVMul w false xsrc th
      | 1 => execVFloat w true vsrc th
      | _ => execVFloat w false fsrc th
      (done.map (vEmpty w th)).map (vPolicy n w th)
  if iOp w = 0x57 then r.map (fun t => (t, next)) else none

end Sys2Proof.Machine
end

