-- ==== Sys2Proof/Machine/KioskMem.lean ====
section
/-! DEFINITION. What a Kiosk thread's instruction is and what it accesses: fetch, exceptions, windows, the forms of loads and
stores, stores that are still outstanding (04 R98, R99, R103, R106 to R108, R110, R116). -/
namespace Sys2Proof.Machine

/-! Fetch. -/

/-- What a fetch gives. -/
inductive Fetched where
  /-- A 32-bit instruction word, expanded if it was compressed, and its length in bytes. -/
  | instr (w len : Nat)
  /-- A compressed word that is no instruction. -/
  | illegal
  /-- An address outside the fetch space (04 R98). -/
  | fault
  deriving DecidableEq, Repr

/-- Address within the model's code memory of a fetch address (04 R98). -/
def codeAddress (p c pc : Nat) : Nat :=
  if pc < 0x10000 then p * 0x100000 + c * 0x10000 + pc else p * 0x100000 + 0x40000 + (pc - 0x10000)

/-- One 16-bit parcel of the fetch space. -/
def parcelAt (d : Device) (p c pc : Nat) : Nat :=
  (memRead 0 d.mems.code (codeAddress p c pc)).toNat + 256 * (memRead 0 d.mems.code (codeAddress p c (pc + 1))).toNat

/-- Fetch at `pc` (04 R98). -/
def fetchAt (d : Device) (p c pc : Nat) : Fetched :=
  if 0x50000 < pc + 2 then .fault
  else
    let lo := parcelAt d p c pc
    if lo % 4 != 3 then
      match expandC lo with
      | some w => .instr w 2
      | none => .illegal
    else if 0x50000 < pc + 4 then .fault
    else .instr (lo + parcelAt d p c (pc + 2) * 2 ^ 16) 4

/-- The kinds of instruction that the rows of the table tell apart. -/
inductive IssueKind where
  /-- Arithmetic, control flow, CSR, vector arithmetic; and everything illegal. -/
  | plain
  /-- Loads and stores other than row accesses. -/
  | mem
  /-- Vector accesses with a Glasshouse base. -/
  | row
  /-- AMO, LR, SC. -/
  | amo
  /-- Custom instruction with this funct3. -/
  | custom (f3 : Nat)
  deriving DecidableEq, Repr

/-- Is the base address of a vector access in a Glasshouse? -/
def glassBase (d : Device) (th : Thread) (w : Nat) : Bool :=
  match regionOf d (xreg th (iRs1 w)) with
  | .glass _ _ => true
  | _ => false

/-- The kind of an instruction word (04 Table 4.1, R97, R108). DESIGN CHOICE (Assumption 89): a custom instruction does not
look at an operand field that Table 4.2 shows as x0, whatever the field holds. -/
def issueKind (d : Device) (th : Thread) (w : Nat) : IssueKind :=
  let vec := iF3 w == 0 || iF3 w == 5 || iF3 w == 6 || iF3 w == 7
  match iOp w with
  | 0x03 => if iF3 w == 7 then .plain else .mem
  | 0x23 => if iF3 w < 4 then .mem else .plain
  | 0x07 => if iF3 w == 2 || iF3 w == 3 then .mem else if vec then (if glassBase d th w then .row else .mem) else .plain
  | 0x27 => if iF3 w == 2 || iF3 w == 3 then .mem else if vec then (if glassBase d th w then .row else .mem) else .plain
  | 0x2F => if iF3 w == 2 || iF3 w == 3 then .amo else .plain
  | 0x0B => if iF7 w == 0 && decide (iF3 w ≤ 4) then .custom (iF3 w) else .plain
  | _ => .plain

/-! Exceptions (04 R116). -/

/-- A synchronous exception stops its thread; the first of a command is recorded; the command is withheld (04 R116). -/
def trapThread (p c t cause addr : Nat) (d : Device) : Device :=
  let th := threadOf d p c t
  let d := if rbit d (KS_EXC_INFO p) 31 then d
    else d |> wr (KS_EXC_INFO p) (2 ^ 31 + c % 4 * 2 ^ 10 + t % 16 * 2 ^ 6 + cause % 64) |> wr (KS_EXC_PC p) (th.pc % 2 ^ 19)
      |> modCluster p (fun k => { k with excAddr := addr })
  d |> setThread p c t { th with running := false } |> dropResv (p * 64 + c * 16 + t) |> withhold th.queue

/-- An exception without a data address: the recorded address is not stated and is free (04 R116). -/
def trapCode (p c t cause : Nat) (d : Device) : Device :=
  d |> trapThread p c t cause (Config.free d.freeCtr % 2 ^ 64) |> nextFree

/-- Of several exceptions of one access the spec orders none: the one taken is free. -/
def trapOne (p c t : Nat) (causes : List Nat) (addr : Nat) (d : Device) : Device :=
  d |> trapThread p c t (causes.getD (freeBelow d causes.length) 0) addr |> nextFree

/-! Windows and access rules (04 R106, R107; 07 R186; 14 R393). -/

/-- Does [a, a + n) lie in the windows of the command of queue `q` for a thread of cluster `p` (04 R106)? -/
def inWindows (d : Device) (q p a n : Nat) : Bool :=
  match stepOf d q with
  | none => false
  | some s =>
    match regionOf d a with
    | .dram => (s.bufs ++ s.kvWins).any (fun b => decide (b.1 ≤ a) && decide (a + n ≤ b.1 + b.2)) && inDram d a n
    | .glass g off => owns d q g && decide (off + n ≤ 0x2000000)
    | .localMem k off => owns d q (k / 4) && decide (off + n ≤ 0x20000)
    | .control off => off / 0x200000 == 0x20 + p || off / 0x200000 == 0x18 + p
    | .hole => false

/-- May the access reach memory at all: windows, the device reserve, the key-value ranges for a store? -/
def reachable (d : Device) (q p a n : Nat) (store : Bool) : Bool :=
  inWindows d q p a n && !inReserve d a n && !(store && inKv d a n)

/-- Is core `k` the thread's own core? -/
def ownCore (p c k : Nat) : Bool := k == 4 * p + c

/-- May a thread of core `c` of cluster `p` reach the local memory of core `k`? Its own always; another core's, unless it is
a timed thread of a Strict step. DESIGN CHOICE (Assumption 98): R107 names every timed thread, R101 says that in Throughput
mode TIMED affects issue priority only, and Table 4.6 gives that mode's times to timed threads too; R101 is followed. -/
def mayReachCore (d : Device) (p c k : Nat) (th : Thread) : Bool := ownCore p c k || !(th.timed && stepStrict d th.queue)

/-- The exceptions that apply to a scalar access (04 R106, R107). -/
def scalarCauses (d : Device) (p c : Nat) (th : Thread) (store : Bool) (a n : Nat) : List Nat :=
  let misaligned := [if store then 6 else 4]
  let af := [if store then 7 else 5]
  match regionOf d a with
  | .dram =>
    (if reachable d th.queue p a n store then [] else af) ++ (if a % n = 0 then [] else misaligned)
  | .localMem k _ =>
    (if reachable d th.queue p a n store && mayReachCore d p c k th then [] else af) ++
      (if a % n = 0 then [] else misaligned)
  | .control _ => if reachable d th.queue p a n store then [] else af
  | _ => af

/-- The exceptions that apply to one element of a vector access (04 Table 4.5); `indexed` says the form. -/
def elementCauses (d : Device) (p c : Nat) (th : Thread) (store indexed : Bool) (a n : Nat) : List Nat :=
  let af := [if store then 7 else 5]
  match regionOf d a with
  | .dram =>
    (if reachable d th.queue p a n store then [] else af) ++ (if a % n = 0 then [] else [if store then 6 else 4])
  | .localMem k _ =>
    if reachable d th.queue p a n store && mayReachCore d p c k th && (ownCore p c k || !indexed) then [] else af
  | _ => af

/-- The check of the word at offset `off` of local memory `k`, read on behalf of the commands of `queues` (04 R119). -/
def checkLocal (e : EccEvent) (k off : Nat) (queues : List Nat) (d : Device) : Device :=
  match e with
  | .clean => d
  | .corrected => countUp (KS_ECC_CORR (k / 4)) d
  | .bad _ =>
    let word := off / 8
    d |> wr (KS_ECC_ADDR (k / 4)) (2 ^ 31 + k % 4 * 2 ^ 14 + word % 2 ^ 14) |> forEach queues withhold
      |> raiseFault (16 + k / 4) queues [] (1 + k % 4 * 2 ^ 8 + word % 2 ^ 14 * 2 ^ 16)

/-- The word, counted from the first one read, in which a check finds an uncorrectable error. -/
def badWordOf (e : EccEvent) : Nat :=
  match e with
  | .bad w => w
  | _ => 0

/-- The check of the data at an address, by the memory it lies in (03 R88; 04 R119; 14 Table 14.1). -/
def checkData (e : EccEvent) (a q : Nat) (d : Device) : Device :=
  match regionOf d a with
  | .dram => checkBurst e a [q] d
  | .glass g off => checkRow e g (off / 512) false [q] d
  | .localMem k off => checkLocal e k off [q] d
  | _ => d

/-- A thread's write to the KS_ block of its cluster or the GH_ block of its Glasshouse (03 R85, 09 R287, 14 R404). -/
def threadWrite (p q off v : Nat) (d : Device) : Device :=
  if off == KS_INPUT_CORRUPT p then
    modCmd q (fun c => { c with
      corrupt := true
      corruptSlot := if c.corruptWrites == 0 then v % 2 ^ 16 else c.corruptSlot
      corruptWrites := min (c.corruptWrites + 1) (2 ^ 32 - 1) }) d
  else if off == KS_E2E_REPORT p then raiseFault 66 [q] [] (v % 2 ^ 16 + p * 2 ^ 16) d
  else
    match firstBelow 11 (fun s => off == GH_POOL_FREE p s && s != p) with
    | some s =>
      let k := v % 2 ^ 13
      if decide (1 ≤ k) && decide (k ≤ 4096) && owns d q p then releaseRows p s k d else d
    | none => storedWrite off v d

/-! Scalar loads and stores. -/

/-- Bytes of a scalar load or store. -/
def scalarBytes (w : Nat) : Nat := 2 ^ (iF3 w % 4)

/-- Address of a scalar load. -/
def loadAddr (th : Thread) (w : Nat) : Nat := u64 ((xreg th (iRs1 w) : Int) + immI w)
/-- Address of a scalar store. -/
def storeAddr (th : Thread) (w : Nat) : Nat := u64 ((xreg th (iRs1 w) : Int) + immS w)

/-- The data of a scalar load; a control register answers an aligned word and clears its RC fields (00 R10, 04 R107). -/
def loadScalar (a n : Nat) (d : Device) : Nat × Device :=
  match regionOf d a with
  | .control off =>
    if n == 4 && off % 4 == 0 then (storedRead d off, clearRc off d) else (0, badAccess 0 off d)
  | _ => (memNat d a n, d)

/-- The thread after a scalar load received `v`. -/
def loadedScalar (w v : Nat) (th : Thread) : Thread :=
  if iOp w == 0x07 then setF (iRd w) (if iF3 w == 2 then boxF v else v) th
  else
    let v := match iF3 w with
      | 0 => u64 (signedOf 8 v)
      | 1 => u64 (signedOf 16 v)
      | 2 => u64 (signedOf 32 v)
      | _ => v
    setX (iRd w) v th

/-- The data of a scalar store. -/
def storeData (th : Thread) (w : Nat) : Nat := if iOp w == 0x27 then freg th (iRs2 w) else xreg th (iRs2 w)

/-- A scalar store reaches its target (04 R107, R111). -/
def storeScalar (p q a n v : Nat) (d : Device) : Device :=
  match regionOf d a with
  | .control off => if n == 4 && off % 4 == 0 then threadWrite p q off (v % 2 ^ 32) d else badAccess 0 off d
  | _ => memPutNat a n v d

/-- Is the whole of [a, a + n) in the core's own local memory? -/
def ownLocal (d : Device) (p c a : Nat) : Bool :=
  match regionOf d a with
  | .localMem k _ => ownCore p c k
  | _ => false

/-! Vector loads and stores (04 R104, R107, R108). PRESUMED: the encodings and element order are those of V 1.0. -/

/-- A decoded vector access. -/
structure VecAccess where
  /-- Data element width in bits -/
  ew : Nat
  /-- Registers per field -/
  group : Nat
  /-- Fields -/
  nf : Nat
  /-- Elements: index and the address of the element's first field -/
  elems : List (Nat × Nat)
  /-- An indexed form -/
  indexed : Bool
  /-- Fault-only-first -/
  fof : Bool
  /-- A whole-register access -/
  whole : Bool := false
  /-- vlm.v or vsm.v -/
  maskForm : Bool := false
  deriving DecidableEq, Repr

/-- Element width that the width field names. -/
def vWidth (w : Nat) : Nat := match iF3 w with
  | 0 => 8
  | 5 => 16
  | 6 => 32
  | _ => 64

/-- Decode a vector load or store; none where it is illegal, a reserved encoding of V 1.0 included (04 R96). -/
def vecAccess (w : Nat) (th : Thread) : Option VecAccess :=
  let store := iOp w == 0x27
  let nf := fieldOf w 31 29 + 1
  let mop := fieldOf w 27 26
  let vm := bitOf w 25
  let lum := iRs2 w
  let vd := iRd w
  let base := xreg th (iRs1 w)
  let active := fun n => ((List.range n).drop th.vstart).filter (fun i => vm || vmask th 0 i)
  let at_ := fun (off : Nat) => (base + off) % 2 ^ 64
  let fits := fun (emul8 : Nat) =>
    let g := max 1 (emul8 / 8)
    decide (1 ≤ emul8) && decide (emul8 ≤ 64) && decide (g * nf ≤ 8) && decide (vd + g * nf ≤ 32) && vd % g == 0
  if bitOf w 28 || (!vm && !store && vd == 0) then none
  else if mop == 0 && lum == 8 then
    if vm && (nf == 1 || nf == 2 || nf == 4 || nf == 8) && vd % nf == 0 && (!store || iF3 w == 0) then
      let ew := vWidth w
      some { ew := ew, group := nf, nf := 1, indexed := false, fof := false, whole := true,
             elems := ((List.range (nf * 512 / ew)).drop th.vstart).map (fun i => (i, at_ (i * ew / 8))) }
    else none
  else if th.vill then none
  else if mop == 0 && lum == 11 then
    if vm && nf == 1 && iF3 w == 0 then
      some { ew := 8, group := 1, nf := 1, indexed := false, fof := false, maskForm := true,
             elems := ((List.range ((th.vl + 7) / 8)).drop th.vstart).map (fun i => (i, at_ i)) }
    else none
  else
    let sew := vSew th.vtype
    let emul8 := vWidth w * vLmul8 th.vtype / sew
    if mop == 0 || mop == 2 then
      let ew := vWidth w
      let stride := if mop == 2 then xreg th (iRs2 w) else nf * ew / 8
      if (mop == 2 || lum == 0 || (lum == 16 && !store)) && fits emul8 then
        some { ew := ew, group := max 1 (emul8 / 8), nf := nf, indexed := false, fof := mop == 0 && lum == 16,
               elems := (active th.vl).map (fun i => (i, at_ (i * stride))) }
      else none
    else
      let g := max 1 (emul8 / 8)
      let index := VOperand.group (vWidth w)
      let overlapOk := store || (if nf == 1 then vOverlapOk th.vtype (.group sew) vd index (iRs2 w)
        else !(decide (vd < iRs2 w + g) && decide (iRs2 w < vd + nf * max 1 (vLmul8 th.vtype / 8))))
      if fits (vLmul8 th.vtype) && index.fits th.vtype (iRs2 w) && overlapOk then
        some { ew := sew, group := max 1 (vLmul8 th.vtype / 8), nf := nf, indexed := true, fof := false,
               elems := (active th.vl).map (fun i => (i, at_ (vget th (iRs2 w) (vWidth w) i))) }
      else none

/-- Address and register of each field of each element, in order: element index, address, first register. -/
def VecAccess.parts (v : VecAccess) (vd : Nat) : List (Nat × Nat × Nat) :=
  v.elems.flatMap (fun e => (List.range v.nf).map (fun f => (e.1, (e.2 + f * v.ew / 8) % 2 ^ 64, vd + f * v.group)))

/-- The first part of an access that raises an exception, with its causes. -/
def firstFault (d : Device) (p c : Nat) (th : Thread) (store : Bool) (v : VecAccess) (parts : List (Nat × Nat × Nat)) :
    Option ((Nat × Nat × Nat) × List Nat) :=
  (parts.map (fun x => (x, elementCauses d p c th store v.indexed x.2.1 (v.ew / 8)))).find? (fun x => !x.2.isEmpty)

/-- The elements of a vector load's destination that its policy leaves agnostic, group by group. -/
def VecAccess.policy (v : VecAccess) (n vd : Nat) (vm : Bool) (th r : Thread) : Thread :=
  let whole := v.group * 512 / v.ew
  let is := (if bitOf th.vtype 7 then vMaskedOff th vm else []) ++
    (if bitOf th.vtype 6 then (List.range whole).drop th.vl else [])
  if v.whole || decide (th.vl ≤ th.vstart) then r
  else if v.maskForm then vAgnostic n vd 8 ((List.range 64).drop ((th.vl + 7) / 8)) r
  else forEach (List.range v.nf) (fun f r => vAgnostic n (vd + f * v.group) v.ew is r) r

/-- The thread after the parts of the vector load `w` were read. -/
def loadedParts (d : Device) (w : Nat) (v : VecAccess) (parts : List (Nat × Nat × Nat)) (th : Thread) : Thread :=
  v.policy d.freeCtr (iRd w) (bitOf w 25) th
    (forEach parts (fun x th => vput x.2.2 v.ew x.1 (memNat d x.2.1 (v.ew / 8)) th) { th with vstart := 0 })

/-- Parts of a load that are read: all, or those before the first fault of a fault-only-first load. -/
def loadedRange (d : Device) (p c : Nat) (th : Thread) (v : VecAccess) (parts : List (Nat × Nat × Nat)) :
    List (Nat × Nat × Nat) × Option Nat :=
  match if v.fof then firstFault d p c th false v parts else none with
  | some f => (parts.filter (fun x => decide (x.1 < f.1.1)), some f.1.1)
  | none => (parts, none)

/-- The check of the data of a vector load: an uncorrectable error lies in the part that the event names (04 R119). -/
def checkParts (e : EccEvent) (parts : List (Nat × Nat × Nat)) (q : Nat) (d : Device) : Device :=
  match parts[badWordOf e]? with
  | some x => checkData e x.2.1 q d
  | none => d

/-! Row accesses (04 R108). -/

/-- The register group of a row load or store, where the form is one of R108. -/
def rowForm (w : Nat) (th : Thread) : Option Nat :=
  let vd := iRd w
  let store := iOp w == 0x27
  let unit := fieldOf w 28 28 == 0 && fieldOf w 27 26 == 0 && bitOf w 25
  if vd % 8 != 0 || !unit || th.vstart != 0 then none
  else if iRs2 w == 8 && fieldOf w 31 29 == 7 && (!store || iF3 w == 0) then some vd
  else if iRs2 w == 0 && fieldOf w 31 29 == 0 && !th.vill &&
      vWidth w * vLmul8 th.vtype / vSew th.vtype == 64 && th.vl * vWidth w == 4096 then some vd
  else none

/-- The 512 bytes of register group `vd` (04 R108). -/
def groupBytes (th : Thread) (vd : Nat) : List Byte := (List.range 8).flatMap (fun i => leBytes 64 (vregT th (vd + i)))

/-- Register group `vd` from 512 bytes. -/
def setGroup (vd : Nat) (bs : List Byte) (th : Thread) : Thread :=
  forEach (List.range 8) (fun i th => setV (vd + i) (leNat (sliceBytes bs (64 * i) 64)) th) th

/-! Outstanding stores (04 R103, R110, Table 4.3). -/

/-- A scalar load or store? -/
def scalarAccess (w : Nat) : Bool := iOp w == 0x03 || iOp w == 0x23 || iF3 w == 2 || iF3 w == 3

/-- The bytes that a load or store accesses: addresses and lengths. -/
def accessRanges (th : Thread) (w : Nat) : List (Nat × Nat) :=
  if scalarAccess w then [(if iOp w == 0x23 || iOp w == 0x27 then storeAddr th w else loadAddr th w, scalarBytes w)]
  else match vecAccess w th with
    | some v => (v.parts (iRd w)).map (fun x => (x.2.1, v.ew / 8))
    | none => []

/-- Does a timed thread's DRAM access take its fixed time: Strict mode (04 R101, R109)? -/
def timedStrict (d : Device) (th : Thread) : Bool := th.timed && stepStrict d th.queue

/-- Is every byte of an access in DRAM? -/
def dramAccess (d : Device) (rs : List (Nat × Nat)) : Bool :=
  !rs.isEmpty && rs.all (fun r => match regionOf d r.1 with
    | .dram => true
    | _ => false)

/-- A store that completes after it has issued: a row store to another Glasshouse, in Strict mode one to the own Glasshouse,
and a timed thread's DRAM store in Strict mode (05 R137, R138; 04 Table 4.6). Every other store completes as it issues
(Assumption 96). -/
def laterStore (d : Device) (p : Nat) (th : Thread) (w : Nat) : Bool :=
  match scalarAccess w, regionOf d (xreg th (iRs1 w)) with
  | false, .glass g _ => g != p || stepStrict d th.queue
  | _, _ => timedStrict d th && dramAccess d (accessRanges th w)

/-- The bytes that the outstanding stores of a thread write. -/
def outstandingRanges (d : Device) (s : RowSender) : List (Nat × Nat) :=
  (d.comp.flights.filter (fun r => r.sender == s)).map (fun r => (rowAddr r.target r.row, 512)) ++
    (d.comp.held.filter (fun r => r.sender == s)).map (fun r => (rowAddr r.glass r.row, 512)) ++
    (d.comp.ice.filter (fun r => r.sender == s)).flatMap (fun r => (r.write.getD []).map (fun x => (x.1, x.2.length)))

/-- Does an access touch a byte that an outstanding store of the same thread writes? -/
def meetsOwnStore (d : Device) (s : RowSender) (rs : List (Nat × Nat)) : Bool :=
  let out := outstandingRanges d s
  rs.any (fun a => out.any (fun b => decide (a.1 < b.1 + b.2) && decide (b.1 < a.1 + a.2)))

/-- Does an instruction wait for outstanding stores of its thread? A FENCE with W among its predecessors, a KCALL and an atomic
with rl wait for all of them; so does a store that would complete as it issues, since stores complete in order; a fifth store
waits for the first; a load or atomic waits for a store to the same bytes (04 R103, R110, R111, R114). -/
def waitsForStores (d : Device) (p c t : Nat) (th : Thread) (w : Nat) : Bool :=
  let s := RowSender.thread p c t
  let n := (storesOf d s).length
  if n == 0 then false else
  match iOp w with
  | 0x0F => iF3 w == 0 && bitOf w 24
  | 0x0B => iF7 w == 0 && iF3 w == 0
  | 0x2F => bitOf w 25 || meetsOwnStore d s [(xreg th (iRs1 w), scalarBytes w)]
  | 0x23 => !laterStore d p th w || decide (4 ≤ n)
  | 0x27 => !laterStore d p th w || decide (4 ≤ n)
  | 0x03 => meetsOwnStore d s (accessRanges th w)
  | 0x07 => meetsOwnStore d s (accessRanges th w)
  | _ => false

/-- Does the next instruction of thread `t` wait for stores? -/
def storesHold (d : Device) (p c t : Nat) : Bool :=
  let th := threadOf d p c t
  match fetchAt d p c th.pc with
  | .instr w _ => waitsForStores d p c t th w
  | _ => false

end Sys2Proof.Machine
end

