-- ==== Sys2Proof/Machine/Kiosk.lean ====
section
/-! DEFINITION. Kiosk threads: issue, loads and stores within the command's windows, atomics, the custom instructions, exit
(04 R95 to R119). A row of the table is the moment at which a core issues an instruction of
that kind; `ready` says which of the core's threads have passed their re-issue interval (04 R102, R103). -/
namespace Sys2Proof.Machine

/-! Issue. -/

/-- The first thread of `set` after `last`, counting upwards modulo 16 (04 R102). -/
def pickAfter (last : Nat) (set : Nat → Bool) : Option Nat :=
  ((List.range 16).map (fun i => (last + 1 + i) % 16)).find? set

/-- Is thread `t` of a core ready: running, not waiting, its interval passed, its next instruction not held by its outstanding
stores (04 R102, R103, R110)? -/
def threadReady (d : Device) (p c ready t : Nat) : Bool :=
  let th := threadOf d p c t
  th.running && th.wait == .none && bitOf ready t && !storesHold d p c t

/-- The thread last issued of a core, timed or untimed; 15 before the first, so that thread 0 comes first. -/
def lastIssuedOf (d : Device) (p c : Nat) (timed : Bool) : Nat :=
  tabGet 15 (clusterOf d p).lastIssued (c * 2 + (if timed then 1 else 0))

/-- The thread from which core `c` of cluster `p` issues (04 R102). -/
def issueChoice (d : Device) (p c ready : Nat) : Option Nat :=
  let timed := fun t => threadReady d p c ready t && (threadOf d p c t).timed
  match pickAfter (lastIssuedOf d p c true) timed with
  | some t => some t
  | none => pickAfter (lastIssuedOf d p c false) (threadReady d p c ready)

/-- The core issues: if the chosen thread's instruction is of kind `k`, `f` gives its effect. A fetch fault and an
illegal compressed word are issued as plain instructions. -/
def issueAs (p c ready : Nat) (k : IssueKind) (f : Nat → Thread → Nat → Nat → Device → Device) (d : Device) : Device :=
  match issueChoice d p c ready with
  | none => d
  | some t =>
    let th := threadOf d p c t
    let pointer := c * 2 + (if th.timed then 1 else 0)
    let issued := modCluster p (fun x => { x with lastIssued := tabPut pointer t x.lastIssued })
    match fetchAt d p c th.pc with
    | .fault => if k == .plain then d |> issued |> trapCode p c t 1 else d
    | .illegal => if k == .plain then d |> issued |> trapCode p c t 2 else d
    | .instr w len => if issueKind d th w == k then f t th w len (issued d) else d

/-- The thread goes on to `pc` with one more instruction counted. -/
def retireThread (p c t pc : Nat) (th : Thread) (d : Device) : Device :=
  setThread p c t { th with pc := pc, instret := (th.instret + 1) % 2 ^ 64 } d

/-- KIOSK_INSTRUCTION: an ordinary instruction of the thread that R102 chooses; `parity` says that the word fetched has
a parity error (04 R99). -/
def kioskInstruction (p c ready : Nat) (parity : Bool) (d : Device) : Device :=
  match parity, issueChoice d p c ready with
  | true, some t =>
    let th := threadOf d p c t
    d |> setThread p c t { th with running := false } |> dropResv (p * 64 + c * 16 + t)
      |> raiseFault (16 + p) [th.queue] [] (2 + c % 4 * 2 ^ 8 + t % 16 * 2 ^ 10 + th.pc % 2 ^ 19 * 2 ^ 32)
  | _, _ =>
    issueAs p c ready .plain (fun t th w len d =>
      let th := { th with cycle := (nowTicks d - th.startTick) * 2 % 2 ^ 64 }
      let ktid := t % 16 + c % 4 * 16 + p % 8 * 64
      match execBase ktid (ticketNow d th.queue) (rd d CT_NS) w len th with
      | some r => retireThread p c t r.2 r.1 d
      | none =>
        match execFloat w len th with
        | some r => retireThread p c t r.2 r.1 d
        | none =>
          match execVector d.freeCtr w len th with
          | some r => d |> retireThread p c t r.2 r.1 |> nextFree
          | none => trapCode p c t 2 d) d

/-- The writes of a store: addresses and bytes. -/
abbrev Writes := List (Nat × List Byte)

/-- A store reaches DRAM or a local memory: at once, or for a timed thread's DRAM store in Strict mode at the 20th beat
boundary (04 Table 4.6, 05 R138). -/
def storeWrites (p c t : Nat) (th : Thread) (w : Nat) (ws : Writes) (d : Device) : Device :=
  if laterStore d p th w then
    holdRequest { sender := .thread p c t, queue := th.queue, write := some ws, due := d.clock.beat + 20 } d
  else keepOwnResv (p * 64 + c * 16 + t) (forEach ws (fun x => memPut x.1 x.2)) d

/-- The beat before which the reply to a load is not released: for a timed thread in Strict mode the 20th beat boundary for DRAM
(04 Table 4.6), two beats for the own Glasshouse and 4 + 2 * HOPS beats for another one (03 Table 3.2, 05 R135); otherwise the
time is not fixed. -/
def loadDue (d : Device) (p c : Nat) (th : Thread) (rs : List (Nat × Nat)) : Nat :=
  if !timedStrict d th then 0
  else match (rs.head?).map (fun r => regionOf d r.1) with
    | some .dram => d.clock.beat + 20
    | some (.glass g _) =>
      if g == p then d.clock.beat + 2 else remoteDue d (threadHops d th.queue th.run (c / 2 * 64 + p) (c / 2 * 64 + g))
    | _ => 0

/-- A load waits for its reply (04 R109). -/
def awaitReply (p c t next : Nat) (th : Thread) (w : Nat) (d : Device) : Device :=
  retireThread p c t next { th with wait := .load w (loadDue d p c th (accessRanges th w)) } d

/-- A scalar load or store (04 R107, R109). -/
def scalarLoadStore (p c t : Nat) (th : Thread) (w len : Nat) (ecc : EccEvent) (d : Device) : Device :=
  let next := th.pc + len
  let store := iOp w == 0x23 || iOp w == 0x27
  let n := scalarBytes w
  let a := if store then storeAddr th w else loadAddr th w
  let causes := scalarCauses d p c th store a n
  let v := storeData th w
  if !causes.isEmpty then trapOne p c t causes a d
  else if store then
    match regionOf d a with
    | .control _ => d |> retireThread p c t next th |> keepOwnResv (p * 64 + c * 16 + t) (storeScalar p th.queue a n v)
    | _ => d |> retireThread p c t next th |> storeWrites p c t th w [(a, leBytes n v)]
  else if ownLocal d p c a then
    d |> retireThread p c t next (loadedScalar w (memNat d a n) th) |> checkData ecc a th.queue
  else awaitReply p c t next th w d

/-- The bytes that a vector store writes, part by part. -/
def partWrites (v : VecAccess) (th : Thread) (parts : List (Nat × Nat × Nat)) : Writes :=
  parts.map (fun x => (x.2.1, leBytes (v.ew / 8) (vget th x.2.2 v.ew x.1)))

/-- A vector load or store without a Glasshouse base (04 R107, R109). -/
def vectorLoadStore (p c t : Nat) (th : Thread) (w len : Nat) (v : VecAccess) (ecc : EccEvent) (d : Device) : Device :=
  let next := th.pc + len
  let store := iOp w == 0x27
  let parts := v.parts (iRd w)
  match firstFault d p c th store v parts with
  | some f =>
    if store then
      let before := parts.takeWhile (fun x => x != f.1)
      d |> storeWrites p c t th w (partWrites v th before) |> trapOne p c t f.2 f.1.2.1
    else if v.fof && decide (0 < f.1.1) then awaitReply p c t next th w d
    else trapOne p c t f.2 f.1.2.1 d
  | none =>
    if store then
      d |> retireThread p c t next { th with vstart := 0 } |> storeWrites p c t th w (partWrites v th parts)
    else if parts.all (fun x => ownLocal d p c x.2.1) then
      if parts.isEmpty then retireThread p c t next { th with vstart := 0 } d
      else d |> retireThread p c t next (loadedParts d w v parts th) |> nextFree |> checkParts ecc parts th.queue
    else awaitReply p c t next th w d

/-- KIOSK_LOAD_STORE: a scalar or vector load or store of the thread that R102 chooses (04 R107, R109). A load from a
target other than the own local memory waits for its reply. -/
def kioskLoadStore (p c ready : Nat) (ecc : EccEvent) (d : Device) : Device :=
  issueAs p c ready .mem (fun t th w len d =>
    if scalarAccess w then scalarLoadStore p c t th w len ecc d
    else
      match vecAccess w th with
      | none => trapCode p c t 2 d
      | some v => vectorLoadStore p c t th w len v ecc d) d

/-! Row accesses (04 R108). -/

/-- A thread's row store: into the own Glasshouse at once, in Strict mode through the crossing that holds it (05 R137); to
another one over the Pergola, with a credit that it holds (03 R84). -/
def storeRow (p c t : Nat) (th : Thread) (g n : Nat) (meets : Bool) (data : List Byte) (d : Device) : Device :=
  let q := th.queue
  let strict := stepStrict d q
  if g == p then
    if strict then
      holdRow { sender := .thread p c t, dom := 16 + p, glass := g, row := n, data := data, queue := q } d
    else d |> rowPut g n data |> rowMeeting meets g n
  else
    let due := if strict then remoteDue d (threadHops d q th.run (c / 2 * 64 + p) (c / 2 * 64 + g)) else 0
    sendRemote (.thread p c t) p q g n strict due false data d

/-- ROW_LOAD_STORE: a vector access with a Glasshouse base: a row load or store, or an access fault (04 R108). -/
def rowLoadStore (p c ready : Nat) (meets : Bool) (d : Device) : Device :=
  issueAs p c ready .row (fun t th w len d =>
    let store := iOp w == 0x27
    let a := xreg th (iRs1 w)
    let next := th.pc + len
    let af := if store then 7 else 5
    match vecAccess w th, rowForm w th, regionOf d a with
    | none, _, _ => trapCode p c t 2 d
    | some _, some vd, .glass g off =>
      if off % 512 != 0 || !reachable d th.queue p a 512 store then trapThread p c t af a d
      else if !store then awaitReply p c t next th w d
      else d |> retireThread p c t next th |> storeRow p c t th g (off / 512) meets (groupBytes th vd)
    | some _, _, _ => trapThread p c t af a d) d

/-- LOAD_REPLY: the data of the load for which thread `t` waits returns (04 R109); an AMO's reply ends its wait. -/
def loadReply (p c t : Nat) (ecc : EccEvent) (meets : Bool) (d : Device) : Device :=
  let th := threadOf d p c t
  match th.wait with
  | .load w due =>
    let q := th.queue
    let back := { th with wait := .none }
    if !beatReached d due then d
    else if iOp w == 0x2F then setThread p c t back d
    else if scalarAccess w then
      let a := loadAddr th w
      let r := loadScalar a (scalarBytes w) d
      r.2 |> setThread p c t (loadedScalar w r.1 back) |> checkData ecc a q
    else match rowForm w th, regionOf d (xreg th (iRs1 w)) with
      | some vd, .glass g off =>
        d |> setThread p c t (setGroup vd (rowBytes d g (off / 512)) back)
          |> checkRow ecc g (off / 512) false [q] |> rowMeeting meets g (off / 512)
      | _, _ =>
        match vecAccess w th with
        | some v =>
          let r := loadedRange d p c th v (v.parts (iRd w))
          let back := match r.2 with
            | some n => { back with vl := n }
            | none => back
          d |> setThread p c t (loadedParts d w v r.1 back) |> nextFree |> checkParts ecc r.1 q
        | none => setThread p c t back d
  | _ => d

/-! Atomics (04 R114). -/

/-- The result that an AMO stores, by funct5, on `w`-bit operands; none where there is no such AMO. -/
def amoOp (f5 w old x : Nat) : Option Nat :=
  match f5 with
  | 0x01 => some x
  | 0x00 => some (old + x)
  | 0x04 => some (old ^^^ x)
  | 0x0C => some (old &&& x)
  | 0x08 => some (old ||| x)
  | 0x10 => some (if signedOf w old ≤ signedOf w x then old else x)
  | 0x14 => some (if signedOf w old ≤ signedOf w x then x else old)
  | 0x18 => some (min old x)
  | 0x1C => some (max old x)
  | _ => none

/-- KIOSK_AMO: an AMO, LR or SC is performed indivisibly (04 R107, R114); of a timed thread in Strict mode on DRAM it is
performed as it issues and its reply is released at the 20th beat boundary (04 Table 4.6, Assumption 96). -/
def kioskAmo (p c ready : Nat) (ecc : EccEvent) (d : Device) : Device :=
  issueAs p c ready .amo (fun t th w len d =>
    let tid := p * 64 + c * 16 + t
    let q := th.queue
    let a := xreg th (iRs1 w)
    let n := scalarBytes w
    let f5 := fieldOf w 31 27
    let next := th.pc + len
    let lr := f5 == 2
    let known := if lr then iRs2 w == 0 else f5 == 3 || (amoOp f5 (8 * n) 0 0).isSome
    let causes := match regionOf d a with
      | .control _ => [if lr then 5 else 7]
      | _ => scalarCauses d p c th (!lr) a n
    if !known then trapCode p c t 2 d
    else if !causes.isEmpty then trapOne p c t causes a d
    else
      let old := memNat d a n
      let x := xreg th (iRs2 w) % 2 ^ (8 * n)
      let ext := fun v => u64 (signedOf (8 * n) v)
      let back := fun (th : Thread) =>
        if timedStrict d th && dramAccess d [(a, n)] then { th with wait := .load w (d.clock.beat + 20) } else th
      let granule := a / 64 * 64
      if lr then
        let d := d |> retireThread p c t next (setX (iRd w) (ext old) (back th)) |> dropResv tid
        checkData ecc a q { d with mems := { d.mems with resv := d.mems.resv ++ [(tid, granule)] } }
      else if f5 == 3 then
        if d.mems.resv.contains (tid, granule) then
          d |> retireThread p c t next (setX (iRd w) 0 (back th)) |> memPutNat a n x |> dropResv tid
        else d |> retireThread p c t next (setX (iRd w) 1 (back th)) |> dropResv tid
      else
        d |> retireThread p c t next (setX (iRd w) (ext old) (back th))
          |> keepOwnResv tid (memPutNat a n ((amoOp f5 (8 * n) old x).getD 0)) |> checkData ecc a q) d

/-- RESERVATION_TIMEOUT: 1,024 cycles have passed since the thread's LR (04 R114). -/
def reservationTimeout (p c t : Nat) (d : Device) : Device := dropResv (p * 64 + c * 16 + t) d

/-! Device fences and calls (04 R110 to R113). -/

/-- KWAIT (04 R111). -/
def kwait (p c ready : Nat) (d : Device) : Device :=
  issueAs p c ready (.custom 1) (fun t th w len d =>
    let n := xreg th (iRs1 w)
    let v := xreg th (iRs2 w) % 2 ^ 32
    if 1023 < n then trapCode p c t 2 d
    else if fenceReached d p n v then
      retireThread p c t (th.pc + len) (setX (iRd w) (rd d (KS_FENCE p n)) th) d
    else retireThread p c t (th.pc + len) { th with wait := .fence n v (iRd w) } d) d

/-- KWAIT_COMPLETE (04 R111). -/
def kwaitComplete (p c t : Nat) (d : Device) : Device :=
  let th := threadOf d p c t
  match th.wait with
  | .fence n v rdst =>
    if fenceReached d p n v then
      setThread p c t (setX rdst (rd d (KS_FENCE p n)) { th with wait := .none }) d
    else d
  | _ => d

/-- KDFENCE (04 R110). -/
def kdfence (p c ready : Nat) (d : Device) : Device :=
  issueAs p c ready (.custom 3) (fun t th _ len d =>
    retireThread p c t (th.pc + len) (if th.calls == 0 then th else { th with wait := .calls }) d) d

/-- KDFENCE_COMPLETE (04 R110). -/
def kdfenceComplete (p c t : Nat) (d : Device) : Device :=
  let th := threadOf d p c t
  if th.wait == .calls && th.calls == 0 then setThread p c t { th with wait := .none } d else d

/-- KEXIT (04 R117). -/
def kexit (p c ready : Nat) (d : Device) : Device :=
  issueAs p c ready (.custom 4) (fun t th w _ d =>
    let v := xreg th (iRs1 w)
    let d := d |> setThread p c t { th with running := false, instret := (th.instret + 1) % 2 ^ 64 }
      |> dropResv (p * 64 + c * 16 + t)
    if v == 0 then d
    else d |> wr (KS_EXIT_LAST p) (v % 2 ^ 32) |> modCmd th.queue (fun k => { k with flagged := true })) d

/-- Does the command of queue `q` own every pavilion of a mask? -/
def ownsMask (d : Device) (q mask : Nat) : Bool := (bitsSet mask 8).all (owns d q)

/-- Does pavilion `v` hold both a running and a pending segment (04 Table 4.7)? -/
def segmentBusy (d : Device) (s : StepRun) (v : Nat) : Bool :=
  (pavOf d v).run.isSome && s.calls.any (fun c => bitOf c.pavs v)

/-- Does a call of segment `k` of the step program arrive after its START_BEAT (05 R141)? -/
def callLate (d : Device) (s : StepRun) (k : Nat) : Bool :=
  s.strict && decide ((s.firstBeat + segStart d s.image (progFirstSeg d s.image s.prog + k)) * 20 < nowTicks d)

/-- The result codes that apply to a segment call, and the call (04 Tables 4.7, 4.8). DESIGN CHOICE (Assumption 89): a
PAVMASK of zero and a FENCE above 1,023 are INVALID too. -/
def segmentCall (d : Device) (q : Nat) (s : StepRun) (caller : Nat × Nat × Nat × Nat) (block : List Byte) :
    List Nat × SegCall :=
  let seg := leField block 0 2
  let mask := leField block 2 1
  let flags := leField block 3 1
  let fence := leField block 4 2
  let invalid := decide (progSegCount d s.image s.prog ≤ seg) || mask == 0 || decide (1 < flags) || decide (1023 < fence) ||
    leField block 6 2 != 0
  let busy := (bitsSet mask 8).any (segmentBusy d s)
  ((if invalid then [1] else []) ++ (if busy then [2] else []) ++ (if ownsMask d q mask then [] else [3]),
    { seg := progFirstSeg d s.image s.prog + seg, pavs := mask,
      notify := if flags == 1 then some (caller.1, fence) else none, caller := caller,
      args := [leField block 8 8, leField block 16 8, leField block 24 8],
      due := if callLate d s seg then d.clock.beat + 1 else s.firstBeat + segStart d s.image (progFirstSeg d s.image s.prog + seg) })

/-- Does a mover end lie in the command's windows (04 Table 4.7)? -/
def endOwned (d : Device) (q p : Nat) (j : MoverJob) (a stride : Nat) : Bool :=
  (List.range j.blocks).all (fun b => inWindows d q p (a + b * stride) (j.rows * 512))

/-- The result codes that apply to a mover call, and the descriptor (04 Table 4.7, 03 R78). -/
def moverCall (d : Device) (p c t q m : Nat) (th : Thread) (block : List Byte) : List Nat × MoverJob :=
  let j := { moverFields block 0 0 with pav := p, mover := m, queue := q, seg := th.seg, run := th.run, caller := some (p, c, t, th.id) }
  let valid := moverReservedOk block && moverValid d p j
  let owned := (bitOf j.flags 0 || endOwned d q p j j.src j.sstride) && endOwned d q p j j.dst j.dstride
  ((if valid then [] else [1]) ++ (if decide (4 ≤ (moverQueue d p m).length) then [2] else []) ++
    (if owned then [] else [3]), j)

/-- KCALL (04 R112, R113); the call block is read through the check of R119. Of several result codes that apply the spec
orders none: the one returned is free. DESIGN CHOICE (Assumption 89): a block outside the own local memory raises the load
access fault 5, one that is not 32-byte aligned the misaligned load exception 4. -/
def kcall (p c ready : Nat) (ecc : EccEvent) (d : Device) : Device :=
  issueAs p c ready (.custom 0) (fun t th w len d =>
    let q := th.queue
    let a := xreg th (iRs1 w)
    let kind := xreg th (iRs2 w) % 4
    let next := th.pc + len
    if !ownLocal d p c a || !reachable d q p a 32 false then trapThread p c t 5 a d
    else if a % 32 != 0 then trapThread p c t 4 a d
    else match stepOf d q with
      | none => d
      | some s =>
        let d := checkData ecc (a + 8 * (badWordOf ecc % 4)) q d
        let block := memBytes d a 32
        let refused := if s.strict && !th.timed then [4] else []
        let call := segmentCall d q s (p, c, t, th.id) block
        let move := moverCall d p c t q (kind - 1) th block
        let codes := refused ++ (if kind == 3 then [1] else if kind == 0 then call.1 else move.1)
        match codes with
        | [] =>
          let d := retireThread p c t next (setX (iRd w) 0 { th with calls := th.calls + 1 }) d
          if kind == 0 then
            d |> modStep q (fun s => { s with calls := s.calls ++ [call.2] })
              |> applyIf (callLate d s (leField block 0 2)) (loseStrict q)
          else addJob move.2 d
        | _ =>
          let code := codes.getD (freeBelow d codes.length) 0
          d |> retireThread p c t next (setX (iRd w) code th) |> nextFree) d

/-! Credits (04 R115). -/

/-- The result code of KCRED for `k` rows towards pavilion `g`, tested in the order 4, 3, 2, 1; none: no code applies
(04 R115). -/
def kcredCode (d : Device) (p q : Nat) (th : Thread) (strict : Bool) (g k : Nat) : Option Nat :=
  if k == 0 || decide (4096 < k) then some 4
  else if decide (7 < g) || g == p || decide (pavCount d ≤ g) || !owns d q g || poolLen d g p == 0 then some 3
  else if strict && !th.timed then some 2
  else if strict && !canDraw d g p k then some 1
  else none

/-- KCRED (04 R115). -/
def kcred (p c ready : Nat) (d : Device) : Device :=
  issueAs p c ready (.custom 2) (fun t th w len d =>
    let q := th.queue
    let g := xreg th (iRs1 w)
    let k := xreg th (iRs2 w)
    let strict := stepStrict d q
    let next := th.pc + len
    match kcredCode d p q th strict g k with
    | some code => retireThread p c t next (setX (iRd w) code th) d
    | none =>
      if strict then d |> retireThread p c t next (setX (iRd w) 0 th) |> drawRows g p k
      else if canAcquire d g p k then d |> retireThread p c t next (setX (iRd w) 0 th) |> acquireRows g p k
      else retireThread p c t next { th with wait := .credit g k (iRd w) } d) d

/-- KCRED_GRANTED: the rows a stalled KCRED waits for are acquired (03 R83). -/
def kcredGranted (p c t : Nat) (d : Device) : Device :=
  let th := threadOf d p c t
  match th.wait with
  | .credit g k rdst =>
    if canAcquire d g p k then
      d |> setThread p c t (setX rdst 0 { th with wait := .none }) |> acquireRows g p k
    else d
  | _ => d

/-! Start of threads and code sets (04 R99, R100). -/

/-- THREAD_START: thread-start entry `i` of the step program of queue `q`, in a run of its segment in which it has not started
yet and whose beat is reached (04 R100). -/
def threadStart (q i : Nat) (d : Device) : Device :=
  match stepOf d q with
  | none => d
  | some s =>
    if progThreadCount d s.image s.prog ≤ i then d else
    let e := threadAddr d s.image (progFirstThread d s.image s.prog + i)
    let core := memNat d e 1
    let seg := progFirstSeg d s.image s.prog + memNat d (e + 2) 2
    let p := fieldOf core 4 2
    let c := fieldOf core 1 0
    let t := memNat d (e + 1) 1 % 16
    let due := fun (r : SegRun) =>
      r.seg == seg && !r.threadsStarted.contains i && beatReached d (r.startBeat + memNat d (e + 4) 2)
    match s.segs.find? due with
    | none => d
    | some r =>
      if (threadOf d p c t).running || !owns d q p then d else
      let th : Thread := { id := d.comp.nextJob, running := true, timed := bitOf (memNat d (e + 1) 1) 7, queue := q, seg := seg,
                           run := r.id, pc := memNat d (e + 8) 4, startTick := nowTicks d }
      d |> setThread p c t (th |> setX 10 (memNat d (e + 12) 4) |> setX 11 (localAddr (4 * p + c))) |> nextId
        |> modSegRun q r.id (fun r => { r with threadsStarted := r.threadsStarted ++ [i] })

/-- The code set of the step program of queue `q` for cluster `p`: its index in the Kiosk code section (05 R127). -/
def codeSetFor (d : Device) (s : StepRun) (p : Nat) : Option Nat :=
  ((List.range (progCodeCount d s.image s.prog)).map (fun i => progFirstCode d s.image s.prog + i)).find?
    (fun i => memNat d (codeAddr d s.image i) 1 == p)

/-- IMAGE_ID of an image. -/
def imageIdAt (d : Device) (img : Nat) : Nat := memNat d (img + 16) 8

/-- Is the code set that the step of queue `q` needs on cluster `p` resident, if it needs one (04 R99)? -/
def codeReady (d : Device) (s : StepRun) (p : Nat) : Bool :=
  match codeSetFor d s p with
  | none => true
  | some i => (clusterOf d p).codeSet == some (imageIdAt d s.image, i)

/-- CODE_SET_LOAD: the loader of cluster `p` starts to copy, unless the set is resident (04 R99). -/
def codeSetLoad (p : Nat) (d : Device) : Device :=
  match ownerOf d p with
  | none => d
  | some q =>
    match stepOf d q with
    | none => d
    | some s =>
      match codeSetFor d s p with
      | some i =>
        if codeReady d s p || (clusterOf d p).loading.isSome then d
        else d |> modCluster p (fun k => { k with loading := some (q, s.image, imageIdAt d s.image, i), codeSet := none })
          |> setBit (KS_STATUS p) 2 true
      | none => d

/-- Copy one part of a code set to `dst` of the code memory (05 R127). -/
def copyCode (section_ entry dst : Nat) (d : Device) : Device :=
  let off := memNat d entry 4
  let len := memNat d (entry + 4) 4
  { d with mems := { d.mems with code := memWriteN 0 d.mems.code dst (memBytes d (section_ + off) len) } }

/-- CODE_SET_LOAD_COMPLETE: every part is copied to fetch address 0 of its memory and LOADING clears (04 R99, 05 R127). -/
def codeSetLoadComplete (p : Nat) (d : Device) : Device :=
  match (clusterOf d p).loading with
  | some (_, img, id, i) =>
    let e := codeAddr d img i
    let sec := secAddr d img 4
    let d := forEach (List.range 4) (fun c d => copyCode sec (e + 8 + 8 * c) (p * 0x100000 + c * 0x10000) d) d
    d |> copyCode sec (e + 40) (p * 0x100000 + 0x40000)
      |> modCluster p (fun k => { k with loading := none, codeSet := some (id, i) }) |> setBit (KS_STATUS p) 2 false
  | none => d

/-! Reports and the watchdog. -/

/-- POOL_FREE_WRITE: a thread of pavilion `g` writes `k` to GH_POOL_FREE of source `s` (03 R85, Table 3.10). -/
def poolFreeWrite (g s k : Nat) (d : Device) : Device :=
  match ownerOf d g with
  | some q => if s < 11 && s != g then threadWrite g q (GH_POOL_FREE g s) k d else d
  | none => d

/-- INPUT_CORRUPT_REPORT: a thread of cluster `p` writes KS_INPUT_CORRUPT (09 R287). -/
def inputCorruptReport (p slot : Nat) (d : Device) : Device :=
  match ownerOf d p with
  | some q => threadWrite p q (KS_INPUT_CORRUPT p) slot d
  | none => d

/-- E2E_REPORT: a thread of cluster `p` writes KS_E2E_REPORT (14 R404). -/
def e2eReport (p v : Nat) (d : Device) : Device :=
  match ownerOf d p with
  | some q => threadWrite p q (KS_E2E_REPORT p) v d
  | none => d

/-- KIOSK_WATCHDOG_REFRESH (04 R119). -/
def kioskWatchdogRefresh (p : Nat) (d : Device) : Device :=
  if pavCount d ≤ p || (clusterOf d p).wdogStopped then d
  else modCluster p (fun k => { k with wdogCount := k.wdogCount + 1 }) d

/-- KIOSK_WATCHDOG_TIMEOUT: core `c` has had a ready thread without issuing for 100 µs (04 R119). -/
def kioskWatchdogTimeout (p c : Nat) (d : Device) : Device :=
  if pavCount d ≤ p || (clusterOf d p).wdogStopped || !(List.range 16).any (fun t => threadReady d p c 0xFFFF t) then d
  else d |> modCluster p (fun k => { k with wdogStopped := true })
    |> raiseFault (16 + p) (withOwner d p []) [] (3 + c % 4 * 2 ^ 8)

end Sys2Proof.Machine
end

