-- ==== Sys2Proof/Machine/Micro.lean ====
section
/-! DEFINITION. Microcode: the streams of a running segment, one instruction at a time (05 R128 to R132). A row of the
table is the moment at which its instruction issues; it changes nothing where the stream does not stand at that
instruction, or in Strict mode its AC is not now. -/
namespace Sys2Proof.Machine

/-- Where the stream of pavilion `p` stands. -/
structure StreamPoint where
  /-- Queue of the command -/
  q : Nat
  /-- Segment index in the segment section -/
  seg : Nat
  /-- Identifier of the segment's run -/
  run : Nat
  /-- Tick at which the segment started -/
  startTick : Nat
  /-- The command carries STRICT_LOST -/
  lost : Bool
  /-- Image address -/
  img : Nat
  /-- The command's step runs in Strict mode -/
  strict : Bool
  /-- Address of the stream -/
  base : Nat
  /-- The instruction that issues next -/
  ins : MicroInstr
  deriving DecidableEq, Repr

/-- Is a golden run of the running segment's golden slot in progress on pavilion `p` (05 R125)? -/
def inGoldenSlot (d : Device) (p : Nat) : Bool := ((pavOf d p).golden.map (·.slot.isSome)).getD false

/-- Where the stream of pavilion `p` stands: none where no stream runs there, a WAIT or a golden slot holds it, or it has
passed END. -/
def streamHead (d : Device) (p : Nat) : Option StreamPoint :=
  let v := pavOf d p
  if v.ended || v.waiting.isSome || inGoldenSlot d p then none else
  match v.run, runOn d p with
  | some (q, seg), some r =>
    match stepOf d q with
    | none => none
    | some s =>
      match streamOf d s.image seg p with
      | none => none
      | some (base, count) =>
        if v.next < count then
          some { q := q, seg := seg, run := r.id, startTick := r.startTick,
                 lost := ((cmdOf d q).map (·.strictLost)).getD false, img := s.image, strict := s.strict, base := base,
                 ins := microAt d (base + 16 * v.next) }
        else none
  | _, _ => none

/-- The tick of 2 ns in which the ac of 2.5 ns with number `ac` of a segment begins (Assumption 95). -/
def acTick (start ac : Nat) : Nat := start + ac * 5 / 4

/-- Has the moment of an instruction come? In Strict mode it is its AC, exactly; once the command carries STRICT_LOST, its AC
or later; in Throughput mode AC is ignored (05 R130, R156). -/
def atItsAc (d : Device) (s : StreamPoint) : Bool :=
  let due := acTick s.startTick s.ins.ac
  !s.strict || (if s.lost then decide (due ≤ nowTicks d) else nowTicks d == due)

/-- The instruction of pavilion `p` that issues now. -/
def streamPoint (d : Device) (p : Nat) : Option StreamPoint := (streamHead d p).filter (atItsAc d)

/-- The stream of pavilion `p` goes to its next instruction. -/
def nextMicro (p : Nat) (d : Device) : Device := modPav p (fun v => { v with next := v.next + 1 }) d

/-- Issue the instruction of pavilion `p` if its OP is `op`. -/
def issueOp (p op : Nat) (f : StreamPoint → Device → Device) (d : Device) : Device :=
  match streamPoint d p with
  | some s => if s.ins.op == op then nextMicro p (f s d) else d
  | none => d

/-- The rows that a Hem block reads: the 16 parameter rows of REQUANT, the rows of CRC and LOADV (05 R495). -/
def hemReads (h : HemBlock) (n : Nat) : List Nat :=
  match h.fn with
  | 2 => rowRange h.paramRow 16
  | 6 => rowRange h.row (hemRows h n)
  | 7 => rowRange h.row (hemRows h n)
  | _ => []

/-- The rows that a Hem block writes (05 R495). -/
def hemWritten (h : HemBlock) (n : Nat) : List Nat :=
  if h.row == 2 ^ 32 - 1 || h.fn == 4 || h.fn == 6 || h.fn == 7 then [] else rowRange h.row (hemRows h n)

/-- What a Hem block does, with its rows: in Strict mode they go to the crossing into the pavilion's Glasshouse, which holds
them until a beat boundary (01 R26, 05 R137); otherwise they are in the bank at once. -/
def issueRows (p : Nat) (s : StreamPoint) (ev : RowEvents) (rows : List Nat) (f : Device → Device) (d : Device) : Device :=
  let r := f d
  if s.strict then
    forEach rows (fun n => holdRow { sender := .hem p, dom := p, glass := p, row := n, data := rowBytes r p n, queue := s.q })
      { r with mems := d.mems }
  else rowsMet ev p rows r

/-- Issue a HEM instruction whose parameter block has function `fn` (05 Tables 5.7, 5.8). -/
def issueHem (p fn : Nat) (ev : RowEvents) (f : Nat → HemBlock → Nat → Device → Device) (d : Device) : Device :=
  match streamPoint d p with
  | some s =>
    let h := hemAt d (s.base + s.ins.a)
    let n := s.ins.n
    if s.ins.op == 4 && h.fn == fn then
      d |> rowsRead ev p [s.q] (hemReads h n) |> issueRows p s ev (hemWritten h n) (f s.q h n) |> nextMicro p
    else d
  | none => d

/-- TILE (02 R37, 05 Table 5.7). -/
def microTile (p : Nat) (ev : RowEvents) : Device → Device :=
  issueOp p 1 (fun s d =>
    d |> rowsRead ev p [s.q] (rowRange s.ins.a s.ins.n)
      |> loadTile p (fieldOf s.ins.b 7 0) (fieldOf s.ins.b 15 8) (bitOf s.ins.b 16) s.ins.a s.ins.n)

/-- STREAM (02 R36, 05 Table 5.7). -/
def microStream (p : Nat) (ev : RowEvents) : Device → Device :=
  issueOp p 2 (fun s d =>
    let row := fieldOf s.ins.a 15 0
    let step := fieldOf s.ins.a 31 16
    let scaleRow := fieldOf s.ins.b 31 16
    d |> rowsRead ev p [s.q] (streamRows d p s.ins.n row step scaleRow)
      |> streamVectors p s.ins.n row step scaleRow (fieldOf s.ins.b 10 10) (fieldOf s.ins.b 9 0))

/-- The first row of an ACC_INIT that takes its values from rows (05 Table 5.7). -/
def initRow (x : MicroInstr) : Option Nat := if x.a == 0xFFFFFFFF then none else some x.a

/-- ACC_INIT (02 R38, 05 Table 5.7). -/
def microAccInit (p : Nat) (ev : RowEvents) : Device → Device :=
  issueOp p 3 (fun s d =>
    let rows := match initRow s.ins with
      | some a => rowRange a (2 * s.ins.n)
      | none => []
    d |> rowsRead ev p [s.q] rows
      |> initAcc p s.ins.n (fieldOf s.ins.b 10 10) (fieldOf s.ins.b 9 0) (initRow s.ins) (bitOf s.ins.b 11))

/-- The base that a BIND value adds (05 R132). -/
def bindBase (s : StepRun) (bind : Nat) : Nat := if bind == 0xFF then 0 else (s.bufs.getD bind (0, 0)).1

/-- Descriptor `a` of the mover list of segment `seg`, bound (05 R132). -/
def listedJob (d : Device) (s : StepRun) (seg a : Nat) : MoverJob :=
  let e := moverAddr d s.image (segFirst d s.image seg 1 + a)
  moverFields (memBytes d (e + 8) 32) (bindBase s (memNat d e 1)) (bindBase s (memNat d (e + 1) 1))

/-- MOVE: descriptor A of the segment's mover list starts on mover B[0]: in Strict mode at its AC, for which loading found the
mover free, in Throughput mode once that mover is free (05 R130). -/
def microMove (p : Nat) (d : Device) : Device :=
  match streamPoint d p with
  | some s =>
    let m := s.ins.b % 2
    if s.ins.op == 5 && (s.strict || (moverQueue d p m).isEmpty) then
      match stepOf d s.q with
      | some step =>
        let j := listedJob d step s.seg s.ins.a
        nextMicro p (addJob { j with pav := p, mover := m, queue := s.q, seg := s.seg, run := s.run } d)
      | none => d
    else d
  | none => d

/-- RELEASE: N rows of the pool from source B[3:0] into this Glasshouse (03 R85). -/
def microRelease (p : Nat) : Device → Device :=
  issueOp p 6 (fun s d => releaseRows p (fieldOf s.ins.b 3 0) s.ins.n d)

/-- SIGNAL is issued; its fence advances once the earlier instructions are complete (05 R129). -/
def microSignal (p : Nat) : Device → Device :=
  issueOp p 7 (fun s d =>
    modPav p (fun v => { v with signals := v.signals ++ [(fieldOf s.ins.a 9 0, d.comp.nextJob)] }) d)

/-- Has the stream of pavilion `p` a mover descriptor or a row of its Hem unit on the way, with identifier below `limit`? -/
def streamJobs (d : Device) (p limit : Nat) : Bool :=
  match runOn d p with
  | some r =>
    d.comp.jobs.any (fun j => j.pav == p && j.run == r.id && j.caller.isNone && decide (j.id < limit)) ||
      d.comp.held.any (fun h => h.sender == .hem p && decide (h.id < limit))
  | none => false

/-- SIGNAL_FENCE_ADVANCE: the oldest SIGNAL of pavilion `p` whose earlier descriptors are complete and earlier rows visible
adds one to its fence (04 R111, 05 R129). -/
def microFenceAdvance (p : Nat) (d : Device) : Device :=
  match (pavOf d p).signals with
  | (n, limit) :: rest =>
    if streamJobs d p limit then d
    else d |> modPav p (fun v => { v with signals := rest }) |> advanceFence p n
  | [] => d

/-- WAIT: the stream goes on if the fence has reached B, and is held otherwise; held in Strict mode, the step
completes with STRICT_LOST (05 R129, R130, R156). -/
def microWait (p : Nat) : Device → Device :=
  issueOp p 8 (fun s d =>
    let n := fieldOf s.ins.a 9 0
    let c := fieldOf s.ins.a 12 10
    if fenceReached d c n s.ins.b then d
    else d |> modPav p (fun v => { v with waiting := some (c, n, s.ins.b) }) |> applyIf s.strict (loseStrict s.q))

/-- MICROCODE_WAIT_RELEASE (05 R130). -/
def microWaitRelease (p : Nat) (d : Device) : Device :=
  match (pavOf d p).waiting with
  | some (c, n, v) =>
    if fenceReached d c n v then modPav p (fun x => { x with waiting := none }) d else d
  | none => d

/-- END: the pavilion's part of the segment completes once every earlier instruction is complete and visible
(05 R129). -/
def microEnd (p : Nat) (d : Device) : Device :=
  match streamHead d p with
  | some s =>
    if s.ins.op == 0 && (!s.strict || decide (acTick s.startTick s.ins.ac ≤ nowTicks d)) && (pavOf d p).signals.isEmpty && !streamJobs d p d.comp.nextJob then
      modPav p (fun v => { v with ended := true }) d
    else d
  | none => d

/-- CONVERT (02 R48). -/
def microConvert (p : Nat) (ev : RowEvents) : Device → Device := issueHem p 1 ev (hemConvert p)
/-- REQUANT (02 R51). -/
def microRequant (p : Nat) (ev : RowEvents) : Device → Device := issueHem p 2 ev (hemRequant p)
/-- ELEMENT (05 R495). -/
def microElement (p : Nat) (ev : RowEvents) : Device → Device := issueHem p 3 ev (hemElement p)
/-- REDUCE (02 R61). -/
def microReduce (p : Nat) : Device → Device := issueHem p 4 {} (fun _ => hemReduce p)
/-- TRANSC (02 R60). -/
def microTransc (p : Nat) (ev : RowEvents) : Device → Device := issueHem p 5 ev (hemTransc p)
/-- CRC (02 R62). -/
def microCrc (p : Nat) (ev : RowEvents) : Device → Device := issueHem p 6 ev (hemCrc p)
/-- LOADV (05 R495). -/
def microLoadv (p : Nat) (ev : RowEvents) : Device → Device := issueHem p 7 ev (fun _ => hemLoadv p)
/-- STOREV (05 R495). -/
def microStorev (p : Nat) (ev : RowEvents) : Device → Device := issueHem p 8 ev (hemStorev p)

end Sys2Proof.Machine
end

