-- ==== Sys2Proof/Machine/Kv.lean ====
section
/-! DEFINITION. The key-value pool: enabling, sequence records and page tables, edits, the prefix tree, swap, page walks
(07 R183 to R218). -/
namespace Sys2Proof.Machine

/-! Enabling (07 R183, R184). -/

/-- Weight region as declared: base and bytes (14 R392). -/
def weightRegion (d : Device) : Nat × Nat :=
  (rd d BV_WREGION_BASE_LO + rd d BV_WREGION_BASE_HI * 2 ^ 32, rd d BV_WREGION_GRANULES * 4096)

/-- Device-memory rings of enabled queues: base and bytes (08 R222). -/
def deviceRings (d : Device) : List (Nat × Nat) :=
  (List.range 8192).flatMap (fun q =>
    if queueEnabled d q then
      (if rbit d (CK_Q_CFG q) 4 then [(sqBase d q, ringSize d q * 64)] else []) ++
      (if rbit d (CK_Q_CFG q) 5 then [(cqBase d q, ringSize d q * 32)] else [])
    else [])

/-- The Lodge service ring, if enabled in device DRAM (16 R437). -/
def lodgeRing (d : Device) : List (Nat × Nat) :=
  if rbit d LD_RING_CFG 31 then
    [(rd d LD_RING_BASE_LO + rd d LD_RING_BASE_HI * 2 ^ 32, 2 ^ fld d LD_RING_CFG 3 0 * 128)]
  else []

/-- The checks of R183. -/
def kvRangesOk (d : Device) : Bool :=
  let pool := (kvPoolBase d, kvPages d * 0x10000)
  let ctrl := (kvCtrlBase d, kvCtrlBytes)
  let hits := fun (r : Nat × Nat) => overlaps pool.1 pool.2 r.1 r.2 || overlaps ctrl.1 ctrl.2 r.1 r.2
  decide (1 ≤ kvPages d) && decide (kvPages d ≤ 2621440) && inDram d pool.1 pool.2 && inDram d ctrl.1 ctrl.2 &&
  !inReserve d pool.1 pool.2 && !inReserve d ctrl.1 ctrl.2 && !overlaps pool.1 pool.2 ctrl.1 ctrl.2 &&
  !hits (weightRegion d) && !(deviceRings d).any hits && !(lodgeRing d).any hits

/-- CFG_REJECT is set. -/
def kvReject (d : Device) : Device := setBit CK_KV_STATUS 2 true d

/-- KV_ENABLE (07 R184). -/
def kvEnable (d : Device) : Device :=
  if rbit d CK_KV_CTRL 0 then d
  else if kvRangesOk d then d |> setBit CK_KV_CTRL 0 true |> setBit CK_KV_STATUS 1 true
  else kvReject d

/-- Is any sequence record valid? -/
def anySequence (d : Device) : Bool := d.serve.table.any (fun e => e.2.state != 0)

/-- Is the opcode one of a serving command (08 Table 8.5)? -/
def servingOp (op : Nat) : Bool := decide (0x10 ≤ op) && decide (op ≤ 0x15)

/-- Is a serving command queued or running: a head or a command in flight (07 R184)? -/
def servingQueued (d : Device) : Bool :=
  d.cloak.queues.any (fun e =>
    (e.2.head.map (fun h => servingOp (leField h 0 1))).getD false ||
    (e.2.cmd.map (fun c => servingOp (leField c.desc 0 1))).getD false)

/-- KV_DISABLE (07 R184). -/
def kvDisable (d : Device) : Device :=
  if !rbit d CK_KV_CTRL 0 then d
  else if anySequence d || servingQueued d then kvReject d
  else d |> setBit CK_KV_CTRL 0 false |> setBit CK_KV_STATUS 0 false |> setBit CK_KV_STATUS 1 false

/-- The order in which initialisation places `n` entries on a free list: the spec states none; a free permutation, the
same at every initialisation of that size (07 R184, R187). -/
def freeOrder : Nat → List Nat
  | 0 => []
  | n + 1 => let l := freeOrder n; l.insertIdx (Config.free n % (n + 1)) n

/-- KV_INIT_COMPLETE: records invalid, every page free with COUNT zero, the tree empty, every swap slot free
(07 R184). -/
def kvInitComplete (d : Device) : Device :=
  if !rbit d CK_KV_STATUS 1 then d else
  let c := kvCtrlBase d
  let pages := kvPages d
  let slots := rd d CK_KV_SWAP_SLOTS
  let d := d |> memZero c 0x10000 |> memZero (c + 0x2010000) 0x1000000 |> memZero (c + 0x9A10000) 0x1F0000
  let d := forEach (List.range pages) (fun n d => memZero (pageRec d n) 4 d) d
  let d := forEach (freeOrder pages).zipIdx (fun e d => memPutNat (freeEntry d e.2) 4 e.1 d) d
  let d := forEach (freeOrder slots).zipIdx (fun e d => memPutNat (swapEntry d e.2) 4 e.1 d) d
  let d := d |> wr CK_KV_FREE_PAGES pages |> wr CK_KV_SWAP_FREE slots |> wr CK_PFX_NODES 0
    |> setBit CK_KV_STATUS 1 false |> setBit CK_KV_STATUS 0 true
  { d with serve := {} }

/-- PREFIX_KEY_WRITE of key word `n` (07 R207). -/
def prefixKeyWrite (n v : Nat) (d : Device) : Device :=
  if 4 ≤ n then d
  else if rd d CK_PFX_NODES != 0 then kvReject d
  else wr (CK_PFX_KEY n) v d

/-- The pool is READY. -/
def kvReady (d : Device) : Bool := rbit d CK_KV_STATUS 0

/-! Sequence records and page tables (07 Table 7.3, R192). -/

/-- Device address of the record of slot `k`. -/
def recAddr (d : Device) (k : Nat) : Nat := kvCtrlBase d + 64 * k
/-- LEN. -/
def recLen (d : Device) (k : Nat) : Nat := memNat d (recAddr d k + 4) 4
/-- FULL. -/
def recFull (d : Device) (k : Nat) : Nat := memNat d (recAddr d k + 8) 2
/-- FILL. -/
def recFill (d : Device) (k : Nat) : Nat := memNat d (recAddr d k + 10) 1
/-- FLAGS: bit 0 VALID, 1 EPOCH, 2 SHARE, 3 SWAPPED, 4 EDIT_PENDING, 5 SHARED_TAIL. -/
def recFlags (d : Device) (k : Nat) : Nat := memNat d (recAddr d k + 11) 1
/-- Set a bit of FLAGS. -/
def setRecFlag (k i : Nat) (b : Bool) (d : Device) : Device := memPutNat (recAddr d k + 11) 1 (putBit (recFlags d k) i b) d
/-- EPOCH as a copy number. -/
def recEpoch (d : Device) (k : Nat) : Nat := fieldOf (recFlags d k) 1 1
/-- SHARED_TAIL. -/
def recShared (d : Device) (k : Nat) : Bool := bitOf (recFlags d k) 5
/-- TAIL_PAGE. -/
def recTail (d : Device) (k : Nat) : Nat := memNat d (recAddr d k + 12) 4
/-- PT_LOG2. -/
def recPtLog2 (d : Device) (k : Nat) : Nat := memNat d (recAddr d k + 24) 1
/-- PT. -/
def recPt (d : Device) (k : Nat) : Nat := 2 ^ recPtLog2 d k

/-- LEN, FULL and FILL are set for `n` tokens (07 R191). -/
def setRecLen (k n : Nat) (d : Device) : Device :=
  let pt := recPt d k
  d |> memPutNat (recAddr d k + 4) 4 n |> memPutNat (recAddr d k + 8) 2 (n / pt) |> memPutNat (recAddr d k + 10) 1 (n % pt)

/-- The shared tail is set to a page, or cleared (07 R191). -/
def setRecTail (k : Nat) (page : Option Nat) (d : Device) : Device :=
  d |> memPutNat (recAddr d k + 12) 4 (page.getD noIndex) |> setRecFlag k 5 page.isSome

/-- Device address of copy `e` of the page table of slot `k`. -/
def tableAddr (d : Device) (k e : Nat) : Nat := kvCtrlBase d + 0x10000 + (2 * k + e) * 0x4000
/-- Entry `i` of the live copy. -/
def tableEntry (d : Device) (k i : Nat) : Nat := memNat d (tableAddr d k (recEpoch d k) + 4 * i) 4
/-- Page or swap-slot number of an entry. -/
def entryNumber (e : Nat) : Nat := fieldOf e 21 0
/-- An entry that holds a page. -/
def pageEntry (n : Nat) : Nat := 2 ^ 31 + n
/-- An entry that holds a swap slot. -/
def swapEntryWord (n : Nat) : Nat := 2 ^ 30 + n
/-- Is the entry SWAPPED? -/
def entrySwapped (e : Nat) : Bool := bitOf e 30
/-- Write entry `i` of both copies (07 R193). -/
def setEntry (k i v : Nat) (d : Device) : Device :=
  d |> memPutNat (tableAddr d k 0 + 4 * i) 4 v |> memPutNat (tableAddr d k 1 + 4 * i) 4 v
/-- Device address of the staging slot of slot `k`. -/
def stageAddr (d : Device) (k : Nat) : Nat := kvCtrlBase d + 0x3010000 + k * 0x10000
/-- The pages of the valid entries of a slot, ascending. -/
def heldPages (d : Device) (k : Nat) : List Nat :=
  ((List.range (recFull d k)).map (tableEntry d k)).filterMap (fun e => if bitOf e 31 then some (entryNumber e) else none)
/-- The swap slots of the swapped entries of a slot, ascending. -/
def heldSlots (d : Device) (k : Nat) : List Nat :=
  ((List.range (recFull d k)).map (tableEntry d k)).filterMap (fun e => if entrySwapped e then some (entryNumber e) else none)

/-- Slot `k` holds the sequence `seqno` (08 Table 8.8). -/
def slotHolds (d : Device) (k seqno : Nat) : Bool := (sbEntry d k).state != 0 && (sbEntry d k).seqno == seqno

/-! Pending nodes (07 R210). -/

/-- The pending nodes of a slot are released (07 R210). -/
def releaseNodes (k : Nat) (d : Device) : Device :=
  let mine := d.serve.nodes.filter (fun n => n.slot == k)
  let d := forEach mine (fun n d => clearNode n.node d) d
  { d with serve := { d.serve with nodes := d.serve.nodes.filter (fun n => n.slot != k) } }

/-- Entries of the page table that block `b` of 32 tokens needs, for PT (07 R209, R210). -/
def blockEntries (pt b : Nat) : List Nat := if pt == 16 then [2 * b, 2 * b + 1] else [32 * b / pt]

/-- A pending node whose block's pages have all flushed becomes VALID with its pages and their GEN (07 R210). -/
def validateNode (n : PendNode) (d : Device) : Device :=
  let es := blockEntries (recPt d n.slot) n.block
  if es.all (fun e => decide (e < recFull d n.slot)) then
    let pages := es.map (fun e => entryNumber (tableEntry d n.slot e))
    let p0 := pages.getD 0 noIndex
    let p1 := pages.getD 1 noIndex
    let a := nodeAddr d n.node
    let d := d |> memPutNat (a + 12) 4 p0 |> memPutNat (a + 16) 4 p1 |> memPutNat (a + 20) 4 (pageGen d p0)
      |> memPutNat (a + 24) 4 (if pages.length == 2 then pageGen d p1 else 0)
      |> memPutNat (a + 28) 1 (putBit (putBit (nodeFlags d n.node) 3 false) 0 true)
    { d with serve := { d.serve with nodes := d.serve.nodes.filter (· != n) } }
  else d

/-- Pending nodes are made valid, in ascending SEQNO, then block order (07 R213 step 2). -/
def validateNodes (d : Device) : Device :=
  let order := sortBy (fun (a b : PendNode) => decide ((sbEntry d a.slot).seqno ≤ (sbEntry d b.slot).seqno)) d.serve.nodes
  forEach order validateNode d

/-! Commit and retirement (07 R213 step 1). -/

/-- A sequence that ran in the step commits: flush pages enter the table and gain a holder, LEN, FULL and FILL advance, a
shared tail copied before the step is released (07 R197, R213, R215; 08 Table 8.7). -/
def commitSequence (k new : Nat) (flush : List Nat) (d : Device) : Device :=
  let full := recFull d k
  let d := forEach flush.zipIdx (fun f d => d |> setEntry k (full + f.2) (pageEntry f.1) |> addHolder f.1) d
  let d := setRecLen k (recLen d k + new) d
  let d := if recShared d k then let t := recTail d k; d |> setRecTail k none |> dropHolder t else d
  modSbEntry k (fun e => { e with pending := e.pending - min e.pending new }) d

/-- A sequence is retired: its pages and shared tail lose their holders, its swap slots and pending nodes are released,
its record and slot become free (07 R210, R213). -/
def retireSequence (k : Nat) (d : Device) : Device :=
  let pages := heldPages d k ++ (if recShared d k then [recTail d k] else [])
  let slots := heldSlots d k
  d |> releaseNodes k |> forEach pages dropHolder |> forEach slots pushSwap |> setRecFlag k 0 false |> setSbEntry k {}

/-! Edits (07 R193 to R195). -/

/-- TRUNCATE of slot `k` to `n` tokens on table copies `copies` (07 R195). -/
def truncate (k n : Nat) (copies : List Nat) (d : Device) : Device :=
  let pt := recPt d k
  let full := recFull d k
  let keep := n / pt
  let moves := decide (n % pt ≠ 0) && decide (keep < full)
  let entries := (List.range full).map (fun i => (i, tableEntry d k i))
  let dropped := (entries.filter (fun e => decide ((n + pt - 1) / pt ≤ e.1))).map (fun e => entryNumber e.2)
  let tailGone := recShared d k && decide (n ≤ full * pt)
  let tail := recTail d k
  let d := forEach (entries.filter (fun e => decide (keep ≤ e.1))) (fun e d =>
    forEach copies (fun c d => memPutNat (tableAddr d k c + 4 * e.1) 4 0 d) d) d
  let d := forEach dropped dropHolder d
  let d := if tailGone then d |> setRecTail k none |> dropHolder tail else d
  let d := if moves then setRecTail k (some (entryNumber ((entries.getD keep (0, 0)).2))) d else d
  setRecLen k n d

/-- A shadow edit is applied: the shadow copy is edited, EPOCH inverts, the new shadow is rewritten from the new live
copy (07 R193). DESIGN CHOICE (Assumption 86): EPOCH inverts once for each edit, so two edits of one sequence at one
boundary invert it twice. -/
def applyShadow (k n : Nat) (d : Device) : Device :=
  let e := 1 - recEpoch d k
  let d := d |> truncate k n [e] |> setRecFlag k 1 (e == 1) |> setRecFlag k 4 false
  memPut (tableAddr d k (1 - e)) (memBytes d (tableAddr d k e) 0x4000) d

/-! The prefix tree (07 R206 to R211). -/

/-- Hash of a block from its chaining value and its 128 token bytes (07 R207). -/
def blockHash (d : Device) (chain : Nat) (tokens : List Byte) : Nat :=
  sipHash13 (rd d (CK_PFX_KEY 0) + rd d (CK_PFX_KEY 1) * 2 ^ 32) (rd d (CK_PFX_KEY 2) + rd d (CK_PFX_KEY 3) * 2 ^ 32)
    (leBytes 8 chain ++ tokens)

/-- The slots that a hash probes (07 R208). -/
def probes (h : Nat) : List Nat := (List.range 16).map (fun i => (h + i) % 65536)

/-- Does a node's page condition hold: each page it names counted and of the node's GEN (07 R208)? -/
def nodeFresh (d : Device) (i : Nat) : Bool :=
  pageCount d (nodePage0 d i) != 0 && pageGen d (nodePage0 d i) == nodeGen0 d i &&
    (nodePage1 d i == noIndex || (pageCount d (nodePage1 d i) != 0 && pageGen d (nodePage1 d i) == nodeGen1 d i))

/-- Lookup of one block (07 R208): the matched node, if any, and its hash. -/
def lookupBlock (model chain parent : Nat) (tokens : List Byte) (d : Device) : (Option Nat × Nat) × Device :=
  let h := blockHash d chain tokens
  match (probes h).find? (fun i => nodeValid d i && nodeHash d i == h) with
  | none => ((none, h), d)
  | some i =>
    if !nodeFresh d i then ((none, h), clearNode i d)
    else if nodeParent d i == parent && nodeModel d i == model then
      if nodeTokens d i == tokens then ((some i, h), d) else ((none, h), countUp CK_PFX_FALSE_HIT d)
    else ((none, h), d)

/-- The blocks of a token stream at `addr` that match, at most `fuel`, from block `b` on: nodes and the chaining value
after them (07 R208). -/
def matchBlocks (model addr : Nat) : Nat → Nat → Nat → Nat → Device → (List Nat × Nat) × Device
  | 0, _, chain, _, d => (([], chain), d)
  | fuel + 1, b, chain, parent, d =>
    let r := lookupBlock model chain parent (memBytes d (addr + 128 * b) 128) d
    match r.1.1 with
    | some i =>
      let rest := matchBlocks model addr fuel (b + 1) r.1.2 i r.2
      ((i :: rest.1.1, rest.1.2), rest.2)
    | none => (([], chain), r.2)

/-- Pending nodes are reserved for the unmatched whole prompt blocks from `b` on, in block order, until 16 probes find no
free slot (07 R210): the last node and hash, and the device. -/
def reserveNodes (k model addr pt : Nat) : Nat → Nat → Nat → Nat → Device → (Nat × Nat) × Device
  | 0, _, chain, parent, d => ((parent, chain), d)
  | fuel + 1, b, chain, parent, d =>
    let tokens := memBytes d (addr + 128 * b) 128
    let h := blockHash d chain tokens
    match (probes h).find? (fun i => !nodeValid d i && !nodePending d i) with
    | none => ((parent, chain), countUp CK_PFX_INSERT_FAIL d)
    | some i =>
      let node := leBytes 8 h ++ leBytes 4 parent ++ leBytes 4 noIndex ++ leBytes 4 noIndex ++ leBytes 8 0 ++
        leBytes 1 (8 + (if pt == 64 && b % 2 == 1 then 4 else 0)) ++ leBytes 1 (Nat.log2 pt) ++ leBytes 2 0 ++
        leBytes 8 model ++ List.replicate 24 0 ++ tokens ++ List.replicate 64 0
      let d := d |> memPut (nodeAddr d i) node |> wr CK_PFX_NODES (rd d CK_PFX_NODES + 1)
      let d := { d with serve := { d.serve with nodes := d.serve.nodes ++ [{ slot := k, block := b, node := i }] } }
      reserveNodes k model addr pt fuel (b + 1) h i d

/-- PREFIX_PIN at a boundary: every matched node not yet pinned is pinned and takes a holder on each of its pages; answers
whether every block matched (07 R211). -/
def pinStream (model addr blocks : Nat) (d : Device) : Bool × Device :=
  let r := matchBlocks model addr blocks 0 model noIndex d
  let d := forEach r.1.1 (fun i d =>
    if bitOf (nodeFlags d i) 1 then d
    else d |> memPutNat (nodeAddr d i + 28) 1 (putBit (nodeFlags d i) 1 true) |> forEach (nodePages d i) addHolder) r.2
  (r.1.1.length == blocks, d)

/-- The unpin form: PINNED clears on the same nodes and their holders are released (07 R211). -/
def unpinStream (model addr blocks : Nat) (d : Device) : Device :=
  let r := matchBlocks model addr blocks 0 model noIndex d
  forEach r.1.1 (fun i d =>
    if bitOf (nodeFlags d i) 1 then
      d |> memPutNat (nodeAddr d i + 28) 1 (putBit (nodeFlags d i) 1 false) |> forEach (nodePages d i) dropHolder
    else d) r.2

/-! Swap (07 R217, R218). -/

/-- The entries of slot `k` whose page has COUNT 1: entry index and page. -/
def loneEntries (d : Device) (k : Nat) : List (Nat × Nat) :=
  ((List.range (recFull d k)).map (fun i => (i, tableEntry d k i))).filterMap (fun e =>
    if bitOf e.2 31 && pageCount d (entryNumber e.2) == 1 then some (e.1, entryNumber e.2) else none)

/-- Can slot `k` be swapped out: the free list holds a slot (07 R217), and one for each of those entries. DESIGN CHOICE
(Assumption 86): with too few slots for them nothing is swapped. -/
def canSwapOut (d : Device) (k : Nat) : Bool := decide (0 < freeSwap d) && decide ((loneEntries d k).length ≤ freeSwap d)

/-- A sequence is swapped out (07 R217). -/
def swapOut (k : Nat) (d : Device) : Device :=
  let d := forEach (loneEntries d k) (fun e d =>
    match popSwap d with
    | none => d
    | some (s, d) =>
      let bytes := memBytes d (pageAddr d e.2) 0x10000
      d |> hostPut (swapBase d + s * 0x10000) bytes |> memPutNat (swapCrcAddr d s) 8 (crc64 bytes)
        |> setEntry k e.1 (swapEntryWord s) |> dropHolder e.2) d
  d |> releaseNodes k |> setRecFlag k 3 true |> modSbEntry k (fun e => { e with state := 2 })

/-- One swapped entry is read back into page `n`: whether its CRC holds (07 R218). -/
def swapReadOk (d : Device) (slot : Nat) (bytes : List Byte) : Bool := crc64 bytes == memNat d (swapCrcAddr d slot) 8

/-- A sequence is swapped in: answers whether every page passed its CRC; each that fails is counted (07 R218, R220). -/
def swapIn (k : Nat) (d : Device) : Bool × Device :=
  let es := ((List.range (recFull d k)).map (fun i => (i, tableEntry d k i))).filter (fun e => entrySwapped e.2)
  let r := popPages es.length d
  let d := r.2
  let bytesOf := fun (e : Nat × Nat) => hostBytes d (swapBase d + entryNumber e.2 * 0x10000) 0x10000
  if es.all (fun e => swapReadOk d (entryNumber e.2) (bytesOf e)) then
    let d := forEach (es.zip r.1) (fun e d =>
      d |> memPut (pageAddr d e.2) (bytesOf e.1) |> setEntry k e.1.1 (pageEntry e.2) |> addHolder e.2
        |> pushSwap (entryNumber e.1.2)) d
    (true, d |> setRecFlag k 3 false |> modSbEntry k (fun e => { e with state := 1 }))
  else
    let bad := es.filter (fun e => !swapReadOk d (entryNumber e.2) (bytesOf e))
    (false, d |> forEach r.1 pushPage |> forEach bad (fun _ d => countUp CK_KV_SWAP_CRC_ERR d)
      |> modSbEntry k (fun e => { e with lost := true }))

/-! Page walks (07 R199 to R201). -/

/-- The sequence row of an attention record on pavilion `p`. -/
def sequenceRow (d : Device) (p : Nat) (r : AttnRecord) : List Byte := rowBytes d p (r.seqRow + r.seq)

/-- Device address of the page, staging slot or flush page that holds token `t`, and the token's index in it; none: a
token at or beyond LEN_BEFORE + NEW, or an empty position (07 R192, R196, R200). DESIGN CHOICE (Assumption 86): while NEW
spans several pages, the new tokens of the first page are read from the staging slot, those of page `j` from flush page
`j`, and those after the last flush page from the staging slot again. -/
def tokenPlace (d : Device) (row : List Byte) (t : Nat) : Option (Nat × Nat) :=
  let before := leField row 4 4
  let new := leField row 8 4
  let fill := leField row 12 1
  let pt := 2 ^ leField row 13 1
  let pool := leField row 32 8
  if !bitOf (leField row 14 1) 0 || before + new ≤ t then none
  else if t < before - fill then
    some (pool + entryNumber (memNat d (leField row 16 8 + 4 * (t / pt)) 4) * 0x10000, t % pt)
  else
    let j := t - (before - fill)
    if j < pt then some (leField row 24 8, j)
    else if j / pt < leField row 15 1 then some (pool + leField row (64 + 4 * (j / pt)) 4 * 0x10000, j % pt)
    else some (leField row 24 8, j % pt)

/-- The KB key bytes (`value` false) or value bytes of token `t` in the record's layer (07 R190). -/
def tokenBytes (d : Device) (r : AttnRecord) (row : List Byte) (value : Bool) (t : Nat) : List Byte :=
  let pt := 2 ^ leField row 13 1
  match tokenPlace d row t with
  | some (page, i) =>
    memBytes d (page + r.layer * 2 * r.kb * pt + (if value then r.kb * pt else 0) + i * r.kb) r.kb
  | none => List.replicate r.kb 0

/-- The rows of a key walk (07 R200). -/
def keyRows (d : Device) (r : AttnRecord) (row : List Byte) : List (List Byte) :=
  (List.range r.chunkTokens).map (fun k => tokenBytes d r row false (r.chunk * r.chunkTokens + k))

/-- The rows of a value walk (07 R200). -/
def valueRows (d : Device) (r : AttnRecord) (row : List Byte) : List (List Byte) :=
  let toks := (List.range r.chunkTokens).map (fun k => tokenBytes d r row true (r.chunk * r.chunkTokens + k))
  (List.range (r.kb / r.eb)).map (fun j => toks.flatMap (fun b => sliceBytes b (j * r.eb) r.eb))

/-- The next attention record of the stream that runs on pavilion `p`, with the command's queue. -/
def nextWalk (d : Device) (p : Nat) : Option (Nat × AttnRecord) :=
  let v := pavOf d p
  match v.run with
  | none => none
  | some (q, seg) =>
    match stepOf d q with
    | none => none
    | some s =>
      match (segStreams d s.image seg).find? (fun x => x.pav == p) with
      | none => none
      | some x => ((x.attentions d)[v.walkNext]?).map (fun a => (q, attnAt d a))

/-- May the walk `r` of pavilion `p` issue now? The walker is free; in Strict mode the AC has come, in Throughput mode the fence
has reached VALUE where WAIT is 1 (07 R201). -/
def walkReady (d : Device) (p q : Nat) (r : AttnRecord) (run : SegRun) : Bool :=
  let due := acTick run.startTick r.ac
  (pavOf d p).walking.isNone &&
    (if stepStrict d q then
      (if ((cmdOf d q).map (·.strictLost)).getD false then decide (due ≤ nowTicks d) else nowTicks d == due)
     else !bitOf r.flags 0 || fenceReached d p r.fence r.value)

/-- The beat in which row `k` of a walk that issues now is visible in Strict mode (07 R201). -/
def walkDue (d : Device) (r : AttnRecord) (k : Nat) : Nat :=
  acTick (nowTicks d) (326 + (if r.op == 0 then 0 else r.chunkTokens * r.kb / 512) + k) / 20

/-- A walk of kind `op` (0 key, 1 value) runs on pavilion `p` (07 R200, R201); `meets`: the rows on which its writes meet
another access. -/
def walk (p op : Nat) (ecc : EccEvent) (meets : List Nat) (d : Device) : Device :=
  match nextWalk d p, runOn d p with
  | some (q, r), some run =>
    if r.op != op || !walkReady d p q r run then d else
    let row := sequenceRow d p r
    let rows := if op == 0 then keyRows d r row else valueRows d r row
    let first := (List.range r.chunkTokens).findSome? (fun k => tokenPlace d row (r.chunk * r.chunkTokens + k))
    let d := match first with
      | some a => checkBurst ecc a.1 [q] d
      | none => d
    let strict := stepStrict d q
    let put := fun (x : List Byte × Nat) (d : Device) =>
      if strict then
        holdRow { sender := .walker p, dom := 24 + p, glass := p, row := r.dest + x.2, data := x.1, queue := q,
                  due := walkDue d r x.2 } d
      else d |> rowPut p (r.dest + x.2) x.1 |> rowMeeting (meets.contains (r.dest + x.2)) p (r.dest + x.2)
    d |> forEach rows.zipIdx put |> modPav p (fun v =>
      { v with walkNext := v.walkNext + 1, walking := some (if bitOf r.flags 1 then some r.fence else none) })
  | _, _ => d

/-- KEY_WALK. -/
def keyWalk (p : Nat) (ecc : EccEvent) (meets : List Nat) : Device → Device := walk p 0 ecc meets
/-- VALUE_WALK. -/
def valueWalk (p : Nat) (ecc : EccEvent) (meets : List Nat) : Device → Device := walk p 1 ecc meets

/-- WALK_COMPLETE: the walk's last row is visible; with NOTIFY the fence advances (07 R201). -/
def walkComplete (p : Nat) (d : Device) : Device :=
  match (pavOf d p).walking with
  | some fence =>
    if d.comp.held.any (fun h => h.sender == .walker p) then d else
    let d := modPav p (fun v => { v with walking := none }) d
    match fence with
    | some n => advanceFence p n d
    | none => d
  | none => d

end Sys2Proof.Machine
end

