-- ==== Sys2Proof/Machine/Twins.lean ====
section
/-! DEFINITION. Redundant execution: signature records, twin comparison, mismatch counts (14 R394 to R397). -/
namespace Sys2Proof.Machine

/-- SIGNATURE_RECORD: the oldest record on the Hem-to-Belvedere path reaches Belvedere (14 R395). -/
def signatureRecord (d : Device) : Device :=
  match d.comp.sigWire with
  | r :: rest =>
    { d with comp := { d.comp with sigWire := rest }, belv := { d.belv with sigs := d.belv.sigs ++ [r] } }
  | [] => d

/-- Every record of the command of queue `q` still on the path reaches Belvedere. -/
def drainSignatures (q : Nat) (d : Device) : Device :=
  let mine := d.comp.sigWire.filter (fun r => r.queue == q)
  { d with comp := { d.comp with sigWire := d.comp.sigWire.filter (fun r => r.queue != q) }
           belv := { d.belv with sigs := d.belv.sigs ++ mine } }

/-- The CRC-64 of a tensor of `bytes` bytes from its records; none where they leave a gap or overlap (14 R395). -/
def tensorSignature (rs : List SigRecord) (bytes : Nat) : Option Nat :=
  let sorted := sortBy (fun (a b : SigRecord) => decide (a.offset ≤ b.offset)) rs
  let r := sorted.foldl (fun (s : Option (Nat × Nat)) r =>
    match s with
    | some (at_, crc) => if r.offset == at_ then some (at_ + r.length, crc64Combine crc r.crc r.length) else none
    | none => none) (some (0, 0))
  match r with
  | some (at_, crc) => if at_ == bytes then some crc else none
  | none => none

/-- The signature of tensor `t` of the command of queue `q`. -/
def signatureOf (d : Device) (q t bytes : Nat) : Option Nat :=
  tensorSignature (d.belv.sigs.filter (fun r => r.queue == q && r.tensor == t)) bytes

/-- The twin pairs of a step program: tensor and twin (14 R394). -/
def twinPairs (d : Device) (img i : Nat) : List (Nat × Nat) :=
  ((List.range (progTensorCount d img i)).filter (fun t =>
    bitOf (tensorFlags d img i t) 2 && tensorTwin d img i t != 2 ^ 32 - 1)).map (fun t => (t, tensorTwin d img i t))

/-- Does a twin pair differ, or has it an invalid signature (14 R395, R396)? -/
def pairDiffers (d : Device) (q img i : Nat) (pr : Nat × Nat) : Bool :=
  match signatureOf d q pr.1 (tensorBytes d img i pr.1), signatureOf d q pr.2 (tensorBytes d img i pr.2) with
  | some a, some b => a != b
  | _, _ => true

/-- Pavilions that produce tensor `t` of step program `i`, as a mask (14 R394). -/
def producers (d : Device) (img i t : Nat) : Nat :=
  (progSegs d img i).foldl (fun m s => (segStreams d img s).foldl (fun m v =>
    if (v.hems d).any (fun h => h.1.tensor == t && hemWrites h.1) then m ||| (1 <<< v.pav) else m) m) 0

/-- Pavilion `p` becomes SUSPECT if it is in service (14 R396). -/
def suspect (p : Nat) (d : Device) : Device := if pavState d p == 0 then setPavState p 2 d else d

/-- The program's latest completed commands with one more, newest first, in a table of at most 16 (14 R397). -/
def countProgram (id prog : Nat) (mismatch : Bool) (b : Belvedere) : Belvedere × List Bool :=
  let old := b.programs.find? (fun r => r.imageId == id && r.prog == prog)
  let hist := (mismatch :: (old.map (·.history)).getD []).take 64
  let others := b.programs.filter (fun r => !(r.imageId == id && r.prog == prog))
  let oldest := others.foldl (fun m (r : RedProgram) => min m r.order) b.nextOrder
  let others := if old.isNone && decide (16 ≤ others.length) then others.filter (fun r => r.order != oldest) else others
  ({ b with programs := others ++ [{ imageId := id, prog := prog, history := hist, order := b.nextOrder }]
            nextOrder := b.nextOrder + 1 }, hist)

/-- The comparison at the completion of a step program with SAFETY = 1 (14 R396, R397). Source 77 asserts before 64, so that
it is the first source of the Critical episode, as Table 14.8 has it. -/
def compareTwins (q : Nat) (s : StepRun) (d : Device) : Device :=
  let img := s.image
  let i := s.prog
  if !bitOf (progFlags d img i) 1 then d else
  let d := drainSignatures q d
  let bad := (twinPairs d img i).filter (pairDiffers d q img i)
  let id := memNat d (img + 16) 8
  let r := countProgram id i (!bad.isEmpty) d.belv
  let d := { d with belv := r.1 }
  let d := { d with belv := { d.belv with sigs := d.belv.sigs.filter (fun x => x.queue != q) } }
  let recent := ((r.2.take (fld d BV_RED_CFG 14 8)).filter (fun b => b)).length
  match bad with
  | [] => d
  | first :: _ =>
    let masks := bad.map (fun (pr : Nat × Nat) => producers d img i pr.1 ||| producers d img i pr.2)
    let d := d |> countUp BV_RED_COUNT |> withhold q
      |> forEach masks (fun m d => d |> forEach (bitsSet m 8) suspect |> (fun d =>
          { d with belv := { d.belv with suspects := d.belv.suspects ++ [{ pavs := m, left := m }] } }))
    let d := if decide (fld d BV_RED_CFG 3 0 ≤ recent) then raiseFault 77 [q] [] (i + id % 2 ^ 32 * 2 ^ 32) d else d
    raiseFault 64 [q] [] (first.1 + i * 2 ^ 32) d

end Sys2Proof.Machine
end

