-- ==== Sys2Proof/Machine/StepRuns.lean ====
section
/-! DEFINITION. Running step programs: start, segments, credit, crossing and power entries, the step watchdog
(05 R133 to R148). -/
namespace Sys2Proof.Machine

/-- A step program is ready to run on behalf of queue `q`; it begins at its STEP_START (05 R133). -/
def loadStep (q img prog seed : Nat) (bufs wins : List (Nat × Nat)) (d : Device) : Device :=
  setStep q { image := img, prog := prog, seed := seed, bufs := bufs, strict := strictMode d, kvWins := wins } d

/-- The seed is written to bytes 0 to 7 of the local memory of core 0 of each owned cluster (05 R155). -/
def writeSeed (q seed : Nat) (d : Device) : Device :=
  forEach (ownedBy d q) (fun p d => memPutNat (localAddr (4 * p)) 8 seed d) d

/-- The least multiple of 125 that is not below `b` (05 R133). -/
def frameBeat (b : Nat) : Nat := (b + 124) / 125 * 125

/-- STEP_START: the step program of queue `q` has its first beat, on a refresh frame in Strict mode (05 R133); the code sets it
needs are resident (04 R99). A step whose first beat falls in an emergency or supply alert carries STRICT_LOST (05 R156). -/
def stepStart (q : Nat) (d : Device) : Device :=
  match stepOf d q with
  | none => d
  | some s =>
    if s.started || !(ownedBy d q).all (codeReady d s) then d else
    let first := if s.strict then frameBeat d.clock.beat else d.clock.beat
    let d := setStep q { s with started := true, firstBeat := first } d
    applyIf (alertPersists d && beatReached d first) (loseStrict q) d

/-! Segments (05 R141). -/

/-- Are the pavilions of a mask free of segments? -/
def pavsFree (d : Device) (mask : Nat) : Bool := (bitsSet mask 8).all (fun p => (pavOf d p).run.isNone)

/-- The chain of alternatives that segment `s` heads (05 R147). -/
def altChain (d : Device) (img : Nat) : Nat → Nat → List Nat
  | 0, _ => []
  | n + 1, s => s :: (if segAlt d img s == 0xFFFF then [] else altChain d img n (segAlt d img s))

/-- Is the segment LISTED (05 Table 5.4)? -/
def segListed (d : Device) (img s : Nat) : Bool := bitOf (segFlags d img s) 0

/-- Has every earlier listed segment that shares a pavilion with `s` completed (05 R141)? -/
def earlierDone (d : Device) (s : StepRun) (seg : Nat) : Bool :=
  (progSegs d s.image s.prog).all (fun e =>
    !(decide (e < seg) && segListed d s.image e && (segPavMask d s.image e &&& segPavMask d s.image seg) != 0) ||
      s.listedDone.contains e)

/-- OPEN and CLOSE entries of a segment are applied at its start in Throughput mode (05 R139). -/
def openGrants (img seg : Nat) (d : Device) : Device :=
  forEach (segList d img seg 4) (fun g d =>
    let e := grantEntry d img g
    if e.kind == 0 then openPool e.target e.src e.base e.count d
    else if e.kind == 3 then closePool e.target e.src d
    else d) d

/-- Segment `r.seg` of the step of queue `q` starts on its pavilions (05 R141, Table 5.15). -/
def beginSegment (q : Nat) (strict : Bool) (img : Nat) (r : SegRun) (d : Device) : Device :=
  let d := forEach (bitsSet r.pavs 8) (fun p d =>
    d |> modPav p (fun v => { v with run := some (q, r.seg), next := 0, ended := false, waiting := none, signals := [],
                                     walkNext := 0 })
      |> wr (PV_SEG_STATUS p) (2 ^ 31 + r.seg % 2 ^ 16)) d
  let d := if strict then d else openGrants img r.seg d
  let r := { r with id := d.comp.nextJob, grantsLeft := if strict then segList d img r.seg 4 else [] }
  d |> modStep q (fun s => { s with segs := s.segs ++ [r] }) |> nextId

/-- The segment that starts now for the listed segment `seg`, if its pavilions are free: where rebalancing is in effect the
first of its chain that is free, unless the segment has found none free and waits for the head; else the head (05 R147). -/
def chosenAlt (d : Device) (s : StepRun) (seg : Nat) : Option Nat :=
  let free := fun a => pavsFree d (segPavMask d s.image a)
  if s.strict || !rbit d DEV_STATUS 2 || s.headWait.contains seg then (if free seg then some seg else none)
  else (altChain d s.image (progSegCount d s.image s.prog) seg).find? free

/-- A called segment that starts now: at its beat in Strict mode, with its pavilions free (05 R141). -/
def callStarts (d : Device) (s : StepRun) (seg : Nat) (c : SegCall) : Bool :=
  c.seg == seg && (!s.strict || beatReached d c.due) && pavsFree d c.pavs

/-- May the listed segment `seg` start: it is the step's, has neither started nor completed, and its moment has come
(05 R141)? -/
def listedStarts (d : Device) (s : StepRun) (seg : Nat) : Bool :=
  (progSegs d s.image s.prog).contains seg && segListed d s.image seg && !s.listedDone.contains seg &&
    !s.segs.any (fun r => r.head == some seg) &&
    (if s.strict then beatReached d (s.firstBeat + segStart d s.image seg) else earlierDone d s seg)

/-- SEGMENT_START of segment `seg` of the step of queue `q` (05 R141, R147). -/
def segmentStart (q seg : Nat) (d : Device) : Device :=
  match stepOf d q with
  | none => d
  | some s =>
    if !s.started || !beatReached d s.firstBeat then d else
    match s.calls.find? (callStarts d s seg) with
    | some c =>
      let d := modStep q (fun s => { s with calls := s.calls.erase c }) d
      beginSegment q s.strict s.image
        { seg := seg, pavs := c.pavs, startBeat := if s.strict then c.due else d.clock.beat,
          startTick := if s.strict then c.due * 20 else nowTicks d, notify := c.notify, caller := some c.caller,
          args := c.args } d
    | none =>
      if !listedStarts d s seg then d else
      let start := s.firstBeat + segStart d s.image seg
      match chosenAlt d s seg with
      | some run =>
        beginSegment q s.strict s.image
          { seg := run, pavs := segPavMask d s.image run, startBeat := if s.strict then start else d.clock.beat,
            startTick := if s.strict then start * 20 else nowTicks d, head := some seg } d
      | none => modStep q (fun s => { s with headWait := s.headWait ++ [seg] }) d

/-- The thread-start entries of a segment, by index in the step program's table (04 R100). -/
def segThreads (d : Device) (s : StepRun) (seg : Nat) : List Nat :=
  (List.range (progThreadCount d s.image s.prog)).filter (fun i =>
    progFirstSeg d s.image s.prog + memNat d (threadAddr d s.image (progFirstThread d s.image s.prog + i) + 2) 2 == seg)

/-- Does a thread that the run `id` of a segment started still run? -/
def segThreadRuns (d : Device) (id : Nat) : Bool :=
  d.comp.clusters.any (fun c => c.2.threads.any (fun t => t.2.running && t.2.run == id))

/-- Is a running segment complete (05 R141)? -/
def segComplete (d : Device) (s : StepRun) (r : SegRun) : Bool :=
  (bitsSet r.pavs 8).all (fun p => (pavOf d p).ended) && !d.comp.jobs.any (fun j => j.run == r.id) &&
    (segThreads d s r.seg).all (fun i => r.threadsStarted.contains i) && !segThreadRuns d r.id && r.grantsLeft.isEmpty

/-- A segment's pavilions are free of it (05 Table 5.15); a walk it issued goes on (07 R201, log 35). -/
def leaveSegment (r : SegRun) (overrun : Bool) (d : Device) : Device :=
  forEach (bitsSet r.pavs 8) (fun p d =>
    d |> modPav p (fun v => { v with run := none, next := 0, ended := false, waiting := none, signals := [], walkNext := 0 })
      |> setBit (PV_SEG_STATUS p) 31 false |> setBit (PV_SEG_STATUS p) 30 overrun) d

/-- SEGMENT_COMPLETE (05 R141): a run of segment `seg` is complete; a call's NOTIFY advances its fence (04 R110, R111). -/
def segmentComplete (q seg : Nat) (d : Device) : Device :=
  match stepOf d q with
  | none => d
  | some s =>
    match s.segs.find? (fun r => r.seg == seg && segComplete d s r) with
    | none => d
    | some r =>
      let d := d |> leaveSegment r false
        |> modStep q (fun s => { s with segs := s.segs.filter (fun x => x.id != r.id), listedDone := s.listedDone ++ r.head.toList })
      let d := match r.notify with
        | some (p, n) => advanceFence p n d
        | none => d
      callDone r.caller d

/-- WATCHDOG_OVERRUN of segment `seg` of queue `q` on pavilion `p`: its limit has passed (05 R144); every pavilion of that run
reads OVERRUN (05 Table 5.15). An ac is 2.5 ns, a tick 2 ns (01 R25). -/
def watchdogOverrun (q seg p : Nat) (d : Device) : Device :=
  match stepOf d q, runOn d p, cmdOf d q with
  | some s, some r, some c =>
    let wcet := segWcet d s.image seg
    let quarter := if s.strict && !c.strictLost then 4 * wcet else wcet * (4 + fld d (PV_WDOG_CFG p) 3 0)
    if (pavOf d p).run != some (q, seg) || nowTicks d < r.startTick || (nowTicks d - r.startTick) * 16 < 5 * quarter then d else
    let d := modCmd q (fun c => { c with overrun := some seg }) d
    let d := forEach (bitsSet r.pavs 8) (fun v => setBit (PV_SEG_STATUS v) 30 true) d
    d |> raiseFault 65 [q] (bitsSet r.pavs 8) (seg % 2 ^ 32 + p * 2 ^ 32) |> beginKill q
  | _, _, _ => d

/-! Credit grants at their beat in Strict mode (05 R139). -/

/-- Entry `g` of the credit section of the image of queue `q`, of kind `kind`, is due in a running segment: `f` applies
it. -/
def creditEntry (q g kind : Nat) (f : GrantEntry → Device → Device) (d : Device) : Device :=
  match stepOf d q with
  | none => d
  | some s =>
    let e := grantEntry d s.image g
    match s.segs.find? (fun r => r.grantsLeft.contains g && beatReached d (r.startBeat + e.beat)) with
    | some r =>
      if e.kind != kind then d
      else d |> modSegRun q r.id (fun r => { r with grantsLeft := r.grantsLeft.filter (· != g) }) |> f e
    | none => d

/-- CREDIT_OPEN. -/
def creditOpen (q g : Nat) : Device → Device := creditEntry q g 0 (fun e => openPool e.target e.src e.base e.count)

/-- CREDIT_ACQUIRE: an acquisition that cannot succeed acquires nothing and is a credit violation. -/
def creditAcquire (q g : Nat) : Device → Device :=
  creditEntry q g 1 (fun e d =>
    if canAcquire d e.target e.src e.count then acquireRows e.target e.src e.count d
    else creditViolation (if e.src < 8 then e.src else e.target) e.src e.target 0 1 [q] d)

/-- CREDIT_RELEASE. -/
def creditRelease (q g : Nat) : Device → Device := creditEntry q g 2 (fun e => releaseRows e.target e.src e.count)

/-- CREDIT_CLOSE. -/
def creditClose (q g : Nat) : Device → Device := creditEntry q g 3 (fun e => closePool e.target e.src)

/-! Crossing, refresh and power entries. -/

/-- An entry of list `k` of the segments of a Strict step, which names its FROM_BEAT at byte 4, takes effect in every run whose
beat it has reached. -/
def runEntry (q k g a : Nat) (f : SegRun → SegRun) (s : StepRun) (d : Device) : Device :=
  let due := fun (r : SegRun) => (segList d s.image r.seg k).contains g && beatReached d (r.startBeat + memNat d (a + 4) 4)
  if s.strict then forEach (s.segs.filter due) (fun r => modSegRun q r.id f) d else d

/-- CROSSING_ENTRY: entry `c` of the crossing section raises k from its beat to the segment's end, in Strict mode
(05 R137). -/
def crossingEntry (q c : Nat) (d : Device) : Device :=
  match stepOf d q with
  | none => d
  | some s =>
    let a := crossAddr d s.image c
    runEntry q 3 c a (fun r => { r with
      crossings := tabPut (memNat d a 1 * 256 + memNat d (a + 1) 1) (memNat d (a + 2) 2) r.crossings }) s d

/-- REFRESH_WINDOW of channel `c` of Icehouse `i`: its window of the refresh frame opens for 3 beats (05 R138). -/
def refreshWindow (i c : Nat) (d : Device) : Device :=
  if strictMode d && decide (i < iceCount d) && decide (c < 16) && d.clock.beat % 125 == (3 * c + 5 * i) % 125 then
    { d with comp := { d.comp with windows := tabPut (i * 16 + c) d.clock.beat d.comp.windows } }
  else d

/-- Is the channel closed to data: its latest window opened less than 3 beats ago (05 R138)? -/
def channelClosed (d : Device) (i c : Nat) : Bool :=
  match tabFind (i * 16 + c) d.comp.windows with
  | some b => decide (d.clock.beat < b + 3)
  | none => false

/-- POWER_GRANT: entry `g` of the power section takes effect for its requester at its beat (05 R140). -/
def powerGrant (q g : Nat) (d : Device) : Device :=
  match stepOf d q with
  | none => d
  | some s =>
    let a := powerAddr d s.image g
    runEntry q 6 g a (fun r => { r with grants := tabPut (memNat d a 1) (memNat d (a + 2) 2) r.grants }) s d

/-- Static grant of requester `r`: the sum over the running segments (05 R140). -/
def staticGrant (d : Device) (r : Nat) : Nat :=
  d.comp.steps.foldl (fun m s => s.2.segs.foldl (fun m x => m + tabGet 0 x.grants r) m) 0

/-! The end of a step program (05 R143). -/

/-- Every listed segment has completed and nothing runs or is called. -/
def allSegsDone (d : Device) (s : StepRun) : Bool :=
  s.segs.isEmpty && s.calls.isEmpty &&
    (progSegs d s.image s.prog).all (fun e => !segListed d s.image e || s.listedDone.contains e)

/-- The beat at which a step program ends: in Strict mode its first beat plus STEP_WCET_AC in whole beats (05 R143). -/
def endBeatOf (d : Device) (s : StepRun) : Nat :=
  if s.strict then s.firstBeat + (progWcet d s.image s.prog + 15) / 16 else d.clock.beat

/-! The mode (05 R148). -/

/-- DEV_MODE_WRITE: a write of DEV_MODE is held until no command owns a pavilion; STRICT = 1 is ignored while the feature
is not accepted (05 R148, 15 Table 15.8). -/
def devModeWrite (v : Nat) (d : Device) : Device :=
  let v := if bitOf v 0 && !bitOf d.hostif.featAccepted 4 then putBit v 0 (rbit d DEV_MODE 0) else v
  d |> wr DEV_MODE (v % 4) |> setBit DEV_STATUS 3 true

/-- Does some command own a pavilion? -/
def anyOwned (d : Device) : Bool := (List.range (pavCount d)).any (fun p => rbit d (GH_STATUS p) 29)

/-! Frequency steps of the islands (17 R466 to R468; 18 R487). -/

/-- A thermal emergency or a supply alert is in force (17 R465). -/
def halved (d : Device) : Bool := rbit d GT_STATUS 2 || rbit d GT_STATUS 3

/-- Domains whose islands switch frequency (17 Table 17.3). -/
def steppedDomains : List Nat := List.range 24 ++ [44, 45]

/-- Islands go up to frequency steps, by domain: at once while the rail is held at 0.72 V, else when the voltage that they
need is acknowledged; not after voltage writes failed (17 R468, 18 R487). -/
def raiseIslands (steps : List (Nat × Nat)) (d : Device) : Device :=
  if steps.isEmpty || d.gate.avsStopped then d
  else if rbit d GT_CTRL 1 then
    { d with gate := { d.gate with rising := steps ++ d.gate.rising.filter (fun x => !(steps.map (·.1)).contains x.1), riseAt := none } }
  else forEach steps (fun x => wr (GT_FREQ x.1) x.2) d

/-- Every island that runs below its nominal frequency goes up to step 0. -/
def raiseAll (d : Device) : Device :=
  raiseIslands ((steppedDomains.filter (fun n => rd d (GT_FREQ n) != 0)).map (fun n => (n, 0))) d

/-- Strict commands may start: every island runs at step 0, or an emergency is in force (17 R467). -/
def islandsReady (d : Device) : Bool := halved d || steppedDomains.all (fun n => rd d (GT_FREQ n) == 0)

/-- MODE_APPLY (05 R148); on entry to Strict mode the islands return to step 0 (17 R467). -/
def modeApply (d : Device) : Device :=
  if rbit d DEV_STATUS 3 && !anyOwned d then
    d |> setBit DEV_STATUS 1 (rbit d DEV_MODE 0) |> setBit DEV_STATUS 2 (rbit d DEV_MODE 1) |> setBit DEV_STATUS 3 false
      |> applyIf (rbit d DEV_MODE 0) raiseAll |> devEvent 1
  else d

end Sys2Proof.Machine
end

