-- ==== Sys2Proof/Machine/Accept.lean ====
section
/-! DEFINITION. What a command must satisfy when it starts: descriptor fields, features, images, states (08 R227, R231,
R232, Tables 8.1 to 8.8; 15 R424). -/
namespace Sys2Proof.Machine

/-! Addresses. -/

/-- [a, a + n) is populated DRAM outside the device reserve (01 R30, 14 R393). -/
def dramRange (d : Device) (a n : Nat) : Bool := decide (a < 2 ^ 48) && inDram d a n && !inReserve d a n

/-- A destination in DRAM lies outside the key-value ranges too (07 R186). -/
def dramDest (d : Device) (a n : Nat) : Bool := dramRange d a n && !inKv d a n

/-- Does a "host or device" field name a host bus address (08 R233)? -/
def isHostEnd (v : Nat) : Bool := bitOf v 63

/-- Host bus address or device address of such a field. -/
def endAddr (v : Nat) : Nat := if isHostEnd v then v % 2 ^ 63 else v

/-- A source of `n` bytes. -/
def sourceOk (d : Device) (v n : Nat) : Bool := if isHostEnd v then decide (endAddr v + n ≤ 2 ^ 63) else dramRange d v n

/-- A destination of `n` bytes. -/
def targetOk (d : Device) (v n : Nat) : Bool := if isHostEnd v then decide (endAddr v + n ≤ 2 ^ 63) else dramDest d v n

/-- Bytes [lo, 64) of a descriptor are zero (08 R227). -/
def zeroFrom (desc : List Byte) (lo : Nat) : Nat × Bool := (lo, allZero (desc.drop lo))

/-- Bytes [lo, lo + n) of a descriptor are zero. -/
def zeroField (desc : List Byte) (lo n : Nat) : Nat × Bool := (lo, leField desc lo n == 0)

/-! The golden library (14 R398, R399). -/

/-- Device address of golden library entry `e`. -/
def goldenAddr (d : Device) (e : Nat) : Nat := reserveBase d + 0x4000000 + e * 0x100000
/-- IN_ROWS of an entry. -/
def goldenIn (d : Device) (e : Nat) : Nat := memNat d (goldenAddr d e + 8) 4
/-- OUT_ROWS of an entry. -/
def goldenOut (d : Device) (e : Nat) : Nat := memNat d (goldenAddr d e + 12) 4
/-- MICRO_COUNT of an entry. -/
def goldenMicro (d : Device) (e : Nat) : Nat := memNat d (goldenAddr d e + 16) 4
/-- Is golden library entry `e` installed (14 R399)? -/
def goldenInstalled (d : Device) (e : Nat) : Bool :=
  decide (e < 64) && memNat d (goldenAddr d e) 4 == 0x444C4757 && memNat d (goldenAddr d e + 4) 2 == e &&
    decide (64 + goldenIn d e * 512 + goldenMicro d e * 16 ≤ 0x100000)

/-! Descriptor fields (08 Tables 8.4 to 8.6), in byte order: offset and whether the field is good. Bytes between two fields
that no table names are not checked: 08 R227 asks zero of RSVD fields and of bytes beyond the last field only. -/

/-- Fields of STEP. -/
def stepFields (d : Device) (x : List Byte) : List (Nat × Bool) :=
  [(8, leField x 8 8 % 4096 == 0 && dramRange d (leField x 8 8) 256), (20, decide (leField x 20 1 ≤ 16)), 
   (32, leField x 32 8 % 64 == 0 && dramRange d (leField x 32 8) (16 * leField x 20 1)), zeroFrom x 40]

/-- Fields of COPY. -/
def copyFields (d : Device) (x : List Byte) : List (Nat × Bool) :=
  let n := leField x 24 8
  [(8, sourceOk d (leField x 8 8) n),
   (16, targetOk d (leField x 16 8) n && !(isHostEnd (leField x 8 8) && isHostEnd (leField x 16 8))),
   (24, n % 64 == 0 && decide (64 ≤ n) && decide (n ≤ 2 ^ 40)), zeroFrom x 32]

/-- Fields of FILL. -/
def fillFields (d : Device) (x : List Byte) : List (Nat × Bool) :=
  [(8, targetOk d (leField x 8 8) (leField x 16 8)), (16, leField x 16 8 % 64 == 0), zeroFrom x 32]

/-- Fields of SEQ_ADMIT. -/
def admitFields (d : Device) (x : List Byte) : List (Nat × Bool) :=
  let len := leField x 16 4
  let pt := leField x 22 1
  [(16, decide (1 ≤ len) && decide (len ≤ 262144)), (20, decide (leField x 20 1 ≤ 7)), (21, decide (leField x 21 1 < 4)),
   (22, decide (4 ≤ pt) && decide (pt ≤ 6) && pageTokens (leField x 23 1) (2 ^ leField x 24 1) == 2 ^ pt),
   (23, decide (1 ≤ leField x 23 1) && decide (leField x 23 1 ≤ 64)),
   (24, decide (6 ≤ leField x 24 1) && decide (leField x 24 1 ≤ 9)),
   (32, dramRange d (leField x 32 8) (4 * len)), zeroFrom x 40]

/-- Fields of SEQ_STEP. -/
def seqStepFields (d : Device) (x : List Byte) : List (Nat × Bool) :=
  [(8, leField x 8 8 % 4096 == 0 && dramRange d (leField x 8 8) 256), (20, decide (leField x 20 1 ≤ 10)),
   (22, decide (1 ≤ leField x 22 2) && decide (leField x 22 2 ≤ 1024)),
   (32, leField x 32 8 % 64 == 0 && dramRange d (leField x 32 8) (16 * leField x 40 1)),
   (40, decide (leField x 40 1 ≤ 16)), (48, decide (1 ≤ leField x 48 2)),
   (56, leField x 56 8 == 0 || dramDest d (leField x 56 8) 0x4000)]

/-- Fields of PREFIX_PIN. -/
def pinFields (d : Device) (x : List Byte) : List (Nat × Bool) :=
  let n := leField x 24 4
  [(16, dramRange d (leField x 16 8) (4 * n)), (24, n % 32 == 0 && decide (32 ≤ n) && decide (n ≤ 262144)),
   (28, decide (leField x 28 1 ≤ 1)), zeroFrom x 29]

/-- Fields of PAGE_EDIT; of a live edit N is held to the sequence's length (07 R195). -/
def editFields (d : Device) (x : List Byte) : List (Nat × Bool) :=
  let k := leField x 12 2
  [(12, decide (k < 1024)), (14, leField x 14 1 == 0), (15, decide (leField x 15 1 ≤ 1)),
   (16, !(leField x 15 1 == 1 && kvReady d && decide (k < 1024) && slotHolds d k (leField x 8 4)) ||
     decide (leField x 16 4 ≤ recLen d k)), zeroFrom x 20]

/-- Fields of LOOP_LOAD; its records are checked by the Cloche (10 R300). -/
def loopLoadFields (d : Device) (x : List Byte) : List (Nat × Bool) :=
  let n := leField x 10 1
  [(8, decide (leField x 8 1 ≤ 1)), (9, decide (leField x 9 1 ≤ 63)),
   (10, decide (1 ≤ n) && decide (n ≤ 64) && decide (leField x 9 1 + n ≤ 64)),
   (16, dramRange d (leField x 16 8) (n * (if leField x 8 1 == 0 then 512 else 8))), zeroFrom x 24]

/-- Queue `q` is a firmware queue (08 R221). -/
def firmwareQueue (q : Nat) : Bool := decide (q < 16)

/-- The payload fields of a descriptor of queue `q`, by opcode. -/
def payloadFields (d : Device) (q : Nat) (x : List Byte) : List (Nat × Bool) :=
  match leField x 0 1 with
  | 0x01 => stepFields d x
  | 0x02 => copyFields d x
  | 0x03 => fillFields d x
  | 0x04 => [zeroFrom x 8]
  | 0x05 => [(8, decide (leField x 8 2 < 4096)), (10, decide (leField x 10 1 ≤ 1)), zeroFrom x 16]
  | 0x06 => [(8, decide (leField x 8 2 < 4096)), zeroFrom x 20]
  | 0x07 => [(8, targetOk d (leField x 8 8) 16 && leField x 8 8 % 16 == 0), zeroFrom x 16]
  | 0x10 => admitFields d x
  | 0x11 => [(12, decide (leField x 12 2 < 1024)), zeroFrom x 14]
  | 0x12 => seqStepFields d x
  | 0x13 => pinFields d x
  | 0x14 => editFields d x
  | 0x15 => [(12, decide (leField x 12 2 < 1024)), zeroFrom x 14]
  | 0x20 => loopLoadFields d x
  | 0x21 => [(16, decide (leField x 16 1 ≤ 1)), zeroFrom x 17]
  | 0x30 => [(8, firmwareQueue q || !firmwareQueue (leField x 8 4 % 8192)), zeroFrom x 12]
  | 0x31 => [(8, leField x 8 1 % 2 ^ pavCount d != 0), zeroFrom x 9]
  | 0x40 => [(0, firmwareQueue q), (8, decide (leField x 8 1 < pavCount d)),
             (12, goldenInstalled d (leField x 12 4)), zeroFrom x 16]
  | _ => [(0, false)]

/-- Byte offset of the first failing field of a descriptor (08 R231, Table 8.3). -/
def descFault (d : Device) (q : Nat) (x : List Byte) : Option Nat :=
  let header := [(1, decide (leField x 1 1 < 2)), zeroField x 2 2]
  let fields := payloadFields d q x
  let all := if fields.any (fun f => f.1 == 0 && !f.2) then fields else header ++ fields
  (all.find? (fun f => !f.2)).map (·.1)

/-! Features (15 R424). -/

/-- Is an opcode in an accepted group? -/
def featureOk (d : Device) (q : Nat) (x : List Byte) : Bool :=
  let on := bitOf d.hostif.featAccepted
  firmwareQueue q ||
    (match leField x 0 1 with
     | 0x10 => on 1 && (on 2 || !bitOf (leField x 21 1) 0)
     | 0x11 => on 1
     | 0x12 => on 1
     | 0x13 => on 2
     | 0x14 => on 1
     | 0x15 => on 1
     | 0x20 => on 3
     | 0x21 => on 3
     | _ => true)

/-! Images (05 R122, 08 R234). -/

/-- Does the descriptor name an image: STEP or SEQ_STEP? -/
def namesImage (x : List Byte) : Bool := leField x 0 1 == 0x01 || leField x 0 1 == 0x12

/-- IMAGE of a STEP or SEQ_STEP. -/
def imageField (x : List Byte) : Nat := leField x 8 8

/-- Is the image at an address loaded under the IMAGE_ID it has now? -/
def imageLoaded (d : Device) (a : Nat) : Bool := d.cloak.images.any (fun i => i.addr == a && i.imageId == imgId d a)

/-- Does a queued or running command name the image (08 R234)? -/
def imageNamed (d : Device) (a : Nat) : Bool :=
  let names := fun (x : List Byte) => namesImage x && imageField x == a
  d.cloak.queues.any (fun e => (e.2.head.map names).getD false || (e.2.cmd.map (fun c => names c.desc)).getD false)

/-- The least recently named image that no queued or running command names. -/
def imageVictim (d : Device) : Option Image :=
  (d.cloak.images.filter (fun i => !imageNamed d i.addr)).foldl (fun (m : Option Image) i =>
    match m with
    | none => some i
    | some b => if i.named < b.named then some i else some b) none

/-- Is an image table entry free for the image at `a` (08 R234, R237)? -/
def imageRoom (d : Device) (a : Nat) : Bool :=
  d.cloak.images.any (fun i => i.addr == a) || decide (d.cloak.images.length < 64) || (imageVictim d).isSome

/-- The image table with room for the image at `a`: its old record, or the victim of a full table, is dropped. -/
def makeRoom (a : Nat) (d : Device) : Device :=
  let others := d.cloak.images.filter (fun i => i.addr != a)
  let others := if others.length < 64 then others else
    (match imageVictim d with
     | some v => others.filter (· != v)
     | none => others)
  { d with cloak := { d.cloak with images := others } }

/-- The image at `a` is recorded as named now (05 R122). -/
def nameImage (a : Nat) (d : Device) : Device :=
  let id := imgId d a
  let d := if imageLoaded d a then { d with cloak := { d.cloak with images := d.cloak.images.filter (fun i => i.addr != a) } }
    else makeRoom a d
  { d with cloak := { d.cloak with
      images := d.cloak.images ++ [{ addr := a, imageId := id, named := d.cloak.nextOrder }]
      nextOrder := d.cloak.nextOrder + 1 } }

/-! Programs of STEP and SEQ_STEP (08 R231, R235). -/

/-- The step programs that the descriptor names. -/
def namedProgs (x : List Byte) : List Nat :=
  if leField x 0 1 == 0x12 then (List.range (leField x 20 1 + 1)).map (fun b => leField x 16 4 + b) else [leField x 16 4]

/-- The bound buffers of the descriptor. -/
def namedBufs (d : Device) (x : List Byte) : List (Nat × Nat) :=
  bindTable d (leField x 32 8) (leField x (if leField x 0 1 == 0x12 then 40 else 20) 1)

/-- Why the programs or the binding fail: offset of the failing field. -/
def progFault (d : Device) (x : List Byte) : Option Nat :=
  let img := imageField x
  let ps := namedProgs x
  let first := leField x 16 4
  let exist := ps.all (fun i => decide (i < secSize d img 0))
  let buckets := leField x 0 1 != 0x12 || ps.zipIdx.all (fun ib =>
    bitOf (progFlags d img ib.1) 2 && progBucket d img ib.1 == ib.2 && progPavMask d img ib.1 == progPavMask d img first &&
      progSlots d img ib.1 == progSlots d img first)
  if !(exist && buckets) then some 16
  else if !ps.all (fun i => bindingOk d img i (namedBufs d x) && boundMoversOk d img i (namedBufs d x)) then some 32
  else none

/-- The package power budget B with P_eff taken as GT_LIMIT (17 R450). -/
def powerBudget (d : Device) : Nat := d.gate.limit - d.gate.reserve - 2 * iceCount d

/-- The fixed Strict grants of the Drape pair and input/output (05 R140, 17 R456). -/
def fixedGrants (d : Device) : Nat := rd d GT_STRICT_DRAPE + rd d GT_STRICT_IO

/-- Largest PEAK_GRANT of the named programs. -/
def namedPeak (d : Device) (x : List Byte) : Nat :=
  (namedProgs x).foldl (fun m i => max m (progPeak d (imageField x) i)) 0

/-- SLOT_FOOTPRINT of the named programs (05 R136). -/
def namedSlots (d : Device) (x : List Byte) : Nat :=
  (namedProgs x).foldl (fun m i => m ||| progSlots d (imageField x) i) 0

/-- Is an RT queue enabled (05 R143)? -/
def rtEnabled (d : Device) : Bool := (List.range 8192).any (fun q => queueEnabled d q && fld d (CK_Q_CFG q) 2 1 == 0)

/-- The states that refuse a STEP or SEQ_STEP (08 Table 8.8). -/
def stepIllegal (d : Device) (x : List Byte) : Bool :=
  let modes := imgModes d (imageField x)
  !(if strictMode d then bitOf modes 0 else bitOf modes 1) ||
  ((namedProgs x).any (fun i => !bitOf (progFlags d (imageField x) i) 0) && rtEnabled d) ||
  (strictMode d && decide (powerBudget d < namedPeak d x + fixedGrants d)) ||
  (leField x 0 1 == 0x12 && (!kvReady d || !d.serve.table.any (fun e => e.2.state == 1)))

/-- The states that refuse any other command (08 Table 8.8). -/
def otherIllegal (d : Device) (q : Nat) (x : List Byte) : Bool :=
  let k := leField x 12 2
  let named := slotHolds d k (leField x 8 4)
  match leField x 0 1 with
  | 0x10 => !kvReady d || (bitOf (leField x 21 1) 1 && !d.serve.tickets.contains (leField x 28 4))
  | 0x11 => !kvReady d || !named
  | 0x13 => !kvReady d || !rbit d CK_KV_CTRL 1
  | 0x14 => !kvReady d || !named || (sbEntry d k).state == 2
  | 0x15 => !kvReady d || !named || (sbEntry d k).state != 2 || (sbEntry d k).lost
  | 0x20 => fld d (CK_Q_CFG q) 2 1 != 0
  | 0x21 => fld d (CK_Q_CFG q) 2 1 != 0 ||
      (bitsSet (leField x 8 8) 64).any (fun n => !slotLoaded d n)
  | 0x31 => (bitsSet (leField x 8 1) (pavCount d)).any (fun g => rbit d (GH_STATUS g) 29)
  | _ => false

/-- Is slot `k` in the work list of a running or pending step (07 R194)? -/
def slotWalked (d : Device) (k : Nat) : Bool :=
  match d.serve.serving with
  | some v => v.inStep && v.news.any (fun n => n.1 == k)
  | none => false

/-- The acceptance statuses that apply after the descriptor, the features and the image have passed: of several the spec
orders none (08 R229). -/
def stateStatuses (d : Device) (q : Nat) (x : List Byte) : List Nat :=
  if namesImage x then
    (if stepIllegal d x then [0x11] else []) ++
      (if (namedProgs x).any (progEmpty d (imageField x)) then [0x13] else [])
  else if otherIllegal d q x then [0x11]
  else if leField x 0 1 == 0x14 && leField x 15 1 == 1 && slotWalked d (leField x 12 2) then [0x14]
  else []

/-- The image and program checks of a STEP or SEQ_STEP: status and DETAIL0. -/
def imageStatus (d : Device) (x : List Byte) : Option (Nat × Nat) :=
  if !namesImage x then none else
  let bad := if imageLoaded d (imageField x) then none else imageFault d (imageField x)
  match bad with
  | some f => some f
  | none => (progFault d x).map (fun o => (0x10, o))

/-- The records that a LOOP_LOAD names. -/
def loopRecords (d : Device) (x : List Byte) : List (List Byte) :=
  let size := if leField x 8 1 == 0 then 512 else 8
  (List.range (leField x 10 1)).map (fun i => memBytes d (leField x 16 8 + i * size) size)

/-- The loop records of a LOOP_LOAD with KIND 0 fail their checks (10 R300). -/
def loopFault (d : Device) (x : List Byte) : Option (Nat × Nat) :=
  if leField x 0 1 == 0x20 && leField x 8 1 == 0 && !loopLoadOk d (leField x 9 1) (loopRecords d x) then some (0x10, 16)
  else none

/-- The acceptance status of a head of queue `q`, with DETAIL0; none: it is accepted (08 R229, R231, R232). -/
def acceptStatus (d : Device) (q : Nat) (x : List Byte) : Option (Nat × Nat) :=
  match descFault d q x with
  | some o => some (0x10, o)
  | none =>
    if !featureOk d q x then some (0x12, 0) else
    match imageStatus d x with
    | some f => some f
    | none =>
      match stateStatuses d q x with
      | [] => loopFault d x
      | sts => some (sts.getD (freeBelow d sts.length) 0x11, 0)

end Sys2Proof.Machine
end

