-- ==== Sys2Proof/Machine/Golden.lean ====
section
/-! DEFINITION. Golden runs: the entry's input rows, its microcode, its signature (14 R398 to R401). -/
namespace Sys2Proof.Machine

/-- EXPECT of golden library entry `e` (14 Table 14.5). -/
def goldenExpect (d : Device) (e : Nat) : Nat := memNat d (goldenAddr d e + 24) 8

/-- Installed entries, ascending (14 R399). -/
def goldenEntries (d : Device) : List Nat := (List.range 64).filter (goldenInstalled d)

/-- The entry that Belvedere takes next for pavilion `p`: ascending, wrapping after the last (14 R399). -/
def nextGolden (d : Device) (p : Nat) : Option Nat :=
  let es := goldenEntries d
  match es.find? (fun e => decide ((pavOf d p).goldenNext ≤ e)) with
  | some e => some e
  | none => es.head?

/-- A golden run of entry `e` starts on pavilion `p`: its input rows are copied to row 63,488 onward (14 R399). -/
def goldenStart (p e : Nat) (slot : Option (Nat × Nat)) (d : Device) : Device :=
  d |> forEach (List.range (goldenIn d e)) (fun i d => rowPut p (63488 + i) (memBytes d (goldenAddr d e + 64 + i * 512) 512) d)
    |> modPav p (fun v => { v with golden := some { entry := e, slot := slot } })

/-- Queue number that stands for no command in a golden run's Hem blocks. -/
abbrev noQueue : Nat := 8192

/-- One microcode instruction of a golden entry: TILE, STREAM, ACC_INIT or HEM; the others have no segment to act on
(14 R399, 05 Table 5.7). -/
def goldenInstr (p base : Nat) (x : MicroInstr) (d : Device) : Device :=
  match x.op with
  | 1 => loadTile p (fieldOf x.b 7 0) (fieldOf x.b 15 8) (bitOf x.b 16) x.a x.n d
  | 2 => streamVectors p x.n (fieldOf x.a 15 0) (fieldOf x.a 31 16) (fieldOf x.b 31 16) (fieldOf x.b 10 10)
      (fieldOf x.b 9 0) d
  | 3 => initAcc p x.n (fieldOf x.b 10 10) (fieldOf x.b 9 0) (if x.a == 0xFFFFFFFF then none else some x.a)
      (bitOf x.b 11) d
  | 4 =>
    let h := hemAt d (base + x.a)
    match h.fn with
    | 1 => hemConvert p noQueue h x.n d
    | 2 => hemRequant p noQueue h x.n d
    | 3 => hemElement p noQueue h x.n d
    | 4 => hemReduce p h x.n d
    | 5 => hemTransc p noQueue h x.n d
    | 6 => hemCrc p noQueue h x.n d
    | 7 => hemLoadv p h x.n d
    | 8 => hemStorev p noQueue h x.n d
    | _ => d
  | _ => d

/-- The microcode of golden entry `e` runs on pavilion `p`. Its flags and its tensor records belong to no command
(DESIGN CHOICE). -/
def goldenMicrocode (p e : Nat) (d : Device) : Device :=
  let base := goldenAddr d e + 64 + goldenIn d e * 512
  let record := (pavOf d p).record
  let wire := d.comp.sigWire
  let d := forEach (List.range (goldenMicro d e)) (fun i d => goldenInstr p base (microAt d (base + 16 * i)) d) d
  let d := modPav p (fun v => { v with record := record }) d
  { d with comp := { d.comp with sigWire := wire } }

/-- The signature of the OUT_ROWS output rows from row 65,024 on (14 R399, 02 R62). -/
def goldenSignature (d : Device) (p e : Nat) : Nat :=
  crc64 ((List.range (goldenOut d e)).flatMap (fun i => rowBytes d p (65024 + i)))

end Sys2Proof.Machine
end

