-- ==== Sys2Proof/Machine/Serve.lean ====
section
/-! DEFINITION. The Step Builder at a step boundary: commit, edits, pins, admission, growth, the work list, completions,
the end of a SEQ_STEP (08 R240 to R250; 07 R191 to R218). -/
namespace Sys2Proof.Machine

/-! What a head needs (08 R237, R238). -/

/-- Is the head of queue `q` in the list H: enabled, not paused, not halted, with room for its completion (08 R238)? -/
def headEligible (d : Device) (q : Nat) : Bool :=
  (queueOf d q).head.isSome && (queueOf d q).cmd.isNone &&
    ((queueOf d q).belvHead || (queueEnabled d q && !(queueOf d q).disabling && !rbit d (CK_Q_STATUS q) 1 &&
      !rbit d (CK_Q_STATUS q) 2 && !(queueOf d q).pausing && cqRoom d q))

/-- The pavilions that a head needs; none where its checks would fail, for it then ends at its start. -/
def headPavs (d : Device) (q : Nat) (x : List Byte) : Nat :=
  if (descFault d q x).isSome || !featureOk d q x then 0
  else if namesImage x then
    if (imageStatus d x).isSome then 0 else progPavMask d (imageField x) (leField x 16 4)
  else if leField x 0 1 == 0x40 then 2 ^ leField x 8 1
  else 0

/-- The effective class of the head of queue `q`, doubled: RT 0 to BULK 6, an overdue golden run 1, between RT and PERCEPT
(08 R237, 14 R401). -/
def headClass (d : Device) (q : Nat) : Nat :=
  let v := queueOf d q
  let p := leField (v.head.getD []) 8 1
  if v.belvHead && decide (3 ≤ fld d BV_GOLD_DEFER (3 * p + 2) (3 * p)) then 1 else 2 * v.effClass

/-- Does a head of a higher effective class wait for a pavilion of the command of queue `q` (08 R250)? -/
def higherHeadWaits (d : Device) (q : Nat) : Bool :=
  let cls := ((cmdOf d q).map (·.cls)).getD 3
  d.cloak.queues.any (fun e =>
    headEligible d e.1 && decide (headClass d e.1 < 2 * cls) &&
      (ownedBy d q).any (fun p => bitOf (headPavs d e.1 (e.2.head.getD [])) p))

/-! Decisions of a boundary. -/

/-- How a serving command ends at a boundary. -/
structure Decided where
  /-- Queue -/
  q : Nat := 0
  /-- SEQNO by which completions are ordered -/
  seqno : Nat := 0
  /-- Status; 0: the highest execution status that applies -/
  st : Nat := 0
  /-- DETAIL0 -/
  d0 : Nat := 0
  /-- DETAIL1 -/
  d1 : Nat := 0
  deriving DecidableEq, Repr

/-- The completion of a decided command. -/
def finishDecided (x : Decided) (d : Device) : Device :=
  if x.st == 0 then d |> modCmd x.q (fun c => { c with detail := (x.d0, x.d1) }) |> finishExec x.q
  else finish x.q x.st x.d0 x.d1 d

/-- The descriptor of the command of queue `q`. -/
def descOf (d : Device) (q : Nat) : List Byte := ((cmdOf d q).map (·.desc)).getD []

/-- The SEQNO by which the command of queue `q` is ordered. -/
def seqnoOf (d : Device) (q : Nat) : Nat := ((cmdOf d q).map (·.seqno)).getD 0

/-- The waiting commands with opcode `op`, in acceptance order. -/
def waitingOp (d : Device) (op : Nat) : List Nat := d.serve.waiting.filter (fun q => cmdOp d q == op)

/-- Sort queues by the SEQNO of their commands, acceptance order kept between equals. -/
def bySeqno (d : Device) (qs : List Nat) : List Nat := sortBy (fun a b => decide (seqnoOf d a ≤ seqnoOf d b)) qs

/-! Step 1: commit and retirements (08 R241; 07 R213). -/

/-- Slots in ascending SEQNO. -/
def slotsBySeqno (d : Device) (ks : List Nat) : List Nat :=
  sortBy (fun a b => decide ((sbEntry d a).seqno ≤ (sbEntry d b).seqno)) ks

/-- The sequences that the ending step ran, with NEW. -/
def committing (d : Device) : List (Nat × Nat) :=
  match d.serve.serving with
  | some v => if v.commitDue then v.news else []
  | none => []

/-- Commits and retirements in ascending SEQNO, commit first (07 R213 step 1): the decided retirements and the device. -/
def commitAll (d : Device) : List Decided × Device :=
  let news := committing d
  let flush := (d.serve.serving.map (·.flush)).getD []
  let retiring := waitingOp d 0x11
  let retSlot := fun q => leField (descOf d q) 12 2
  let slots := (news.map (·.1) ++ retiring.map retSlot).eraseDups
  (slotsBySeqno d slots).foldl (fun (a : List Decided × Device) k =>
    let d := match news.find? (fun n => n.1 == k) with
      | some n => commitSequence k n.2 (tabGet [] flush k) a.2
      | none => a.2
    (retiring.filter (fun q => retSlot q == k)).foldl (fun (a : List Decided × Device) q =>
      let s := leField (descOf d q) 8 4
      if slotHolds a.2 k s then (a.1 ++ [{ q := q, seqno := s }], retireSequence k a.2)
      else (a.1 ++ [{ q := q, seqno := s, st := 0x11 }], a.2)) (a.1, d)) ([], d)

/-- One entry of the active-sequence table as 16 bytes (08 Table 8.7). -/
def entryBytes (e : SbEntry) : List Byte :=
  leBytes 4 e.seqno ++ leBytes 4 e.admitOrder ++ leBytes 4 e.pending ++ leBytes 1 e.prio ++ leBytes 1 e.state ++
    leBytes 1 e.last ++ [0]

/-- The report of the SEQ_STEP of queue `q` is copied to its buffer (08 R240). -/
def writeReport (q : Nat) (d : Device) : Device :=
  let a := leField (descOf d q) 56 8
  if a == 0 then d else forEach (List.range 1024) (fun k d => memPut (a + 16 * k) (entryBytes (sbEntry d k)) d) d

/-- The ending step is committed: the step counts, its report is written, its flush pages belong to the tables. -/
def closeStep (d : Device) : Device :=
  match d.serve.serving with
  | some v =>
    if v.commitDue then
      d |> writeReport v.queue |> modCmd v.queue (fun c => { c with committed := c.committed + 1 })
        |> setServing (some { v with inStep := false, commitDue := false, runs := [], news := [], flush := [] })
    else d
  | none => d

/-! Step 3 of R213: shadow edits, then pins. -/

/-- Shadow edits in ascending SEQNO and acceptance order (07 R194, R213). -/
def editAll (d : Device) : List Decided × Device :=
  (bySeqno d (waitingOp d 0x14)).foldl (fun (a : List Decided × Device) q =>
    let x := descOf d q
    let k := leField x 12 2
    let s := leField x 8 4
    let n := leField x 16 4
    let d := a.2
    if !slotHolds d k s then (a.1 ++ [{ q := q, seqno := s, st := 0x11 }], d)
    else
      let d := setRecFlag k 4 false d
      if (sbEntry d k).state == 2 then (a.1 ++ [{ q := q, seqno := s, st := 0x11 }], d)
      else if recLen d k < n then (a.1 ++ [{ q := q, seqno := s, st := 0x10, d0 := 16 }], d)
      else (a.1 ++ [{ q := q, seqno := s }], applyShadow k n d)) ([], d)

/-- A pin command is applied and completes (07 R211, R213). -/
def pinCommand (q : Nat) (d : Device) : Device :=
  let x := descOf d q
  let model := leField x 8 8
  let addr := leField x 16 8
  let blocks := leField x 24 4 / 32
  if leField x 28 1 == 0 then
    let r := pinStream model addr blocks d
    r.2 |> modCmd q (fun c => { c with flagged := c.flagged || !r.1 }) |> finishExec q
  else d |> unpinStream model addr blocks |> finishExec q

/-! Step 2: admissions and swap-ins (08 R242 to R244). -/

/-- Active sequences: STATE 1. -/
def activeCount (d : Device) : Nat := (d.serve.table.filter (fun e => e.2.state == 1)).length

/-- The lowest free slot. -/
def freeSlot (d : Device) : Option Nat := firstBelow 1024 (fun k => (sbEntry d k).state == 0)

/-- Does the admission `x` look up and reserve nodes (07 R210, Table 7.11)? -/
def shares (d : Device) (x : List Byte) : Bool := bitOf (leField x 21 1) 0 && rbit d CK_KV_CTRL 1

/-- The matched nodes and chaining value of the admission `x` (07 R208). -/
def admitMatch (d : Device) (x : List Byte) : (List Nat × Nat) × Device :=
  let model := leField x 8 8
  if shares d x then matchBlocks model (leField x 32 8) ((leField x 16 4 - 1) / 32) 0 model noIndex d
  else (([], model), d)

/-- First-step need F of a join with `m` matched blocks (08 R242). -/
def firstNeed (x : List Byte) (m : Nat) : Nat :=
  let pt := 2 ^ leField x 22 1
  (32 * m % pt + min (leField x 16 4 - 32 * m) 1024) / pt

/-- The pages that `m` matched blocks wholly cover, in block order, and the shared tail (07 R209). -/
def matchedPages (d : Device) (pt : Nat) (nodes : List Nat) : List Nat × Option Nat :=
  if pt == 64 then
    ((nodes.zipIdx.filter (fun n => n.2 % 2 == 1)).map (fun n => nodePage0 d n.1),
     if nodes.length % 2 == 1 then (nodes.getLast?).map (nodePage0 d) else none)
  else (nodes.flatMap (nodePages d), none)

/-- A join is admitted into slot `k` (08 R242; 07 R191, R209, R210). -/
def admitJoin (q k : Nat) (x : List Byte) (d : Device) : Device :=
  let r := admitMatch d x
  let nodes := r.1.1
  let d := r.2
  let m := nodes.length
  let model := leField x 8 8
  let log := leField x 22 1
  let pt := 2 ^ log
  let len := leField x 16 4
  let ps := matchedPages d pt nodes
  let parent := (nodes.getLast?).getD noIndex
  let c := if shares d x then reserveNodes k model (leField x 32 8) pt (len / 32 - m) m r.1.2 parent d
    else ((parent, r.1.2), d)
  let d := c.2
  let flags := 1 + (if bitOf (leField x 21 1) 0 then 4 else 0) + (if ps.2.isSome then 32 else 0)
  let rec64 := leBytes 4 (seqnoOf d q) ++ leBytes 4 (32 * m) ++ leBytes 2 (32 * m / pt) ++ leBytes 1 (32 * m % pt) ++
    leBytes 1 flags ++ leBytes 4 (ps.2.getD noIndex) ++ leBytes 8 model ++ leBytes 1 log ++ leBytes 1 (leField x 23 1) ++
    leBytes 1 (leField x 24 1) ++ [0] ++ leBytes 4 c.1.1 ++ leBytes 8 c.1.2 ++ List.replicate 24 0
  let d := memPut (recAddr d k) rec64 d
  let d := forEach ps.1.zipIdx (fun p d => d |> setEntry k p.2 (pageEntry p.1) |> addHolder p.1) d
  let d := forEach ps.2.toList addHolder d
  let n := d.serve.admissions + 1
  let d := { d with serve := { d.serve with admissions := n } }
  setSbEntry k { seqno := seqnoOf d q, admitOrder := n % 2 ^ 32, pending := len - 32 * m, prio := leField x 20 1,
                 state := 1, last := 4 } d

/-- A retry ticket is issued, the oldest of 257 dropped (08 R244). -/
def issueTicket (s : Nat) (d : Device) : Device :=
  let ts := d.serve.tickets.filter (· != s) ++ [s]
  { d with serve := { d.serve with tickets := ts.drop (ts.length - 256) } }

/-- What admission carries from candidate to candidate. -/
structure Admit where
  /-- Decided commands -/
  out : List Decided := []
  /-- D: the needs of the joins admitted -/
  owed : Nat := 0
  /-- Slots of the joins admitted -/
  joined : List Nat := []
  /-- A candidate was deferred -/
  deferred : Bool := false
  deriving DecidableEq, Repr

/-- PRIO of a candidate. -/
def candidatePrio (d : Device) (q : Nat) : Nat :=
  if cmdOp d q == 0x10 then leField (descOf d q) 20 1 else (sbEntry d (leField (descOf d q) 12 2)).prio

/-- Candidates in ascending PRIO, then SEQNO (08 R242). -/
def candidates (d : Device) : List Nat :=
  sortBy (fun a b => decide (candidatePrio d a < candidatePrio d b) ||
    (candidatePrio d a == candidatePrio d b && decide (seqnoOf d a ≤ seqnoOf d b)))
    (d.serve.waiting.filter (fun q => cmdOp d q == 0x10 || cmdOp d q == 0x15))

/-- One candidate is admitted or deferred (08 R242, R243). -/
def admitOne (q : Nat) (a : Admit) (d : Device) : Admit × Device :=
  let x := descOf d q
  let s := seqnoOf d q
  let join := cmdOp d q == 0x10
  let k := leField x 12 2
  if !join && (!slotHolds d k s || (sbEntry d k).state != 2) then
    ({ a with out := a.out ++ [{ q := q, seqno := s, st := 0x11 }] }, d)
  else
    let need := if join then firstNeed x (admitMatch d x).1.1.length else (heldSlots d k).length
    let want := need + 2 * (activeCount d + 1)
    let have' := freePages d - a.owed
    match freeSlot d with
    | some f =>
      if a.deferred || have' < want then
        ({ a with deferred := true, out := a.out ++ [{ q := q, seqno := s, st := 0x40, d0 := if join then s else 0,
                                                        d1 := want - have' }] },
         applyIf join (issueTicket s) d)
      else if join then
        ({ a with owed := a.owed + need, joined := a.joined ++ [f], out := a.out ++ [{ q := q, seqno := s, d0 := s, d1 := f }] },
         admitJoin q f x d)
      else
        let r := swapIn k d
        ({ a with out := a.out ++ [{ q := q, seqno := s, st := if r.1 then 0 else 0x21 }] }, r.2)
    | none =>
      ({ a with deferred := true, out := a.out ++ [{ q := q, seqno := s, st := 0x40, d0 := if join then s else 0,
                                                      d1 := want - have' }] },
       applyIf join (issueTicket s) d)

/-- Every candidate in order. -/
def admitAll (d : Device) : Admit × Device :=
  (candidates d).foldl (fun (r : Admit × Device) q => admitOne q r.1 r.2) ({}, d)

/-! Step 3: growth (08 R245). -/

/-- NEW of slot `k` (08 R245). -/
def newTokens (d : Device) (x : List Byte) (k : Nat) : Nat :=
  let p := (sbEntry d k).pending
  if p == 0 then 1 else min p (leField x 22 2)

/-- Flush pages of slot `k` in the coming step: its share of G (08 R245; 07 R196). -/
def flushNeed (d : Device) (x : List Byte) (k : Nat) : Nat := (recFill d k + newTokens d x k) / recPt d k

/-- Would LEN + NEW exceed the bound of MAX_BUCKET, or what a table holds (08 R245; 07 R189)? -/
def overBound (d : Device) (x : List Byte) (k : Nat) : Bool :=
  let n := recLen d k + newTokens d x k
  decide (256 * 2 ^ leField x 20 1 < n) || decide (4096 * recPt d k < n)

/-- The sequence that gives way: the largest PRIO, then the smallest ADMIT_ORDER. -/
def yielding (d : Device) (ks : List Nat) : Option Nat :=
  ks.foldl (fun (m : Option Nat) k =>
    match m with
    | none => some k
    | some b =>
      let e := sbEntry d k
      let f := sbEntry d b
      if f.prio < e.prio || (e.prio == f.prio && decide (e.admitOrder < f.admitOrder)) then some k else m) none

/-- LAST of slot `k`. -/
def setLast (v k : Nat) (d : Device) : Device := modSbEntry k (fun e => { e with last := v }) d

/-- While G + D exceeds the free pages, sequences of `ks` are swapped out or left out (08 R245): those that remain. -/
def growth (q : Nat) (x : List Byte) (owed : Nat) : Nat → List Nat → Device → List Nat × Device
  | 0, ks, d => (ks, d)
  | fuel + 1, ks, d =>
    if (ks.map (flushNeed d x)).sum + owed ≤ freePages d then (ks, d)
    else match yielding d ks with
      | none => (ks, d)
      | some k =>
        let d := if canSwapOut d k then
            d |> swapOut k |> setLast 3 k |> modCmd q (fun c => { c with swapped := true })
          else setLast 2 k d
        growth q x owed fuel (ks.filter (· != k)) d

/-! Step 4: the work list (08 R246). -/

/-- The bucket of slot `k` (07 R205). -/
def bucketOf (d : Device) (x : List Byte) (k : Nat) : Nat :=
  (firstBelow 11 (fun b => decide (recLen d k + newTokens d x k ≤ 256 * 2 ^ b))).getD 10

/-- PRIO, then SEQNO. -/
def orderedBefore (d : Device) (a b : Nat) : Bool :=
  let e := sbEntry d a
  let f := sbEntry d b
  decide (e.prio < f.prio) || (e.prio == f.prio && decide (e.seqno ≤ f.seqno))

/-- A list cut into pieces of at most 64. -/
def cut64 : Nat → List Nat → List (List Nat)
  | 0, _ => []
  | n + 1, ks => if ks.isEmpty then [] else ks.take 64 :: cut64 n (ks.drop 64)

/-- The runs of the slots `ks`, ordered by their first sequences. -/
def runsOf (d : Device) (x : List Byte) (ks : List Nat) : List ServeRun :=
  let runs := (List.range 11).flatMap (fun b =>
    (cut64 16 (sortBy (orderedBefore d) (ks.filter (fun k => bucketOf d x k == b)))).map
      (fun s => ({ bucket := b, slots := s } : ServeRun)))
  sortBy (fun (a b : ServeRun) => orderedBefore d (a.slots.headD 0) (b.slots.headD 0)) runs

/-- STEP_WCET_AC of a run, rounded up to 2,000 ac. -/
def runCost (d : Device) (x : List Byte) (r : ServeRun) : Nat :=
  (progWcet d (imageField x) (leField x 16 4 + r.bucket) + 1999) / 2000 * 2000

/-- Runs within the budget; the first is always taken (08 R246). -/
def withinBudget (d : Device) (x : List Byte) : Nat → List ServeRun → List ServeRun
  | _, [] => []
  | spent, r :: rs =>
    let b := leField x 44 4
    let t := spent + runCost d x r
    if b == 0 || spent == 0 || decide (t ≤ b) then r :: withinBudget d x t rs else []

/-- The 512-byte sequence row of slot `k` (07 Table 7.5). -/
def seqRowBytes (d : Device) (k new : Nat) (flush : List Nat) : List Byte :=
  sliceBytes (leBytes 4 (sbEntry d k).seqno ++ leBytes 4 (recLen d k) ++ leBytes 4 new ++ leBytes 1 (recFill d k) ++
    leBytes 1 (recPtLog2 d k) ++ leBytes 1 1 ++ leBytes 1 flush.length ++ leBytes 8 (tableAddr d k (recEpoch d k)) ++
    leBytes 8 (stageAddr d k) ++ leBytes 8 (kvPoolBase d) ++ List.replicate 24 0 ++ flush.flatMap (leBytes 4)) 0 512

/-- SEQROW of each pavilion of a program, as its attention records name it (07 R198). -/
def seqRowPlaces (d : Device) (img prog : Nat) : List (Nat × Nat) :=
  let named := ((progSegs d img prog).flatMap (fun s => (segStreams d img s).flatMap (fun v =>
    (v.attentions d).map (fun a => (attnAt d a).seqRow)))).eraseDups
  (bitsSet (progPavMask d img prog) 8).flatMap (fun p => named.map (fun r => (p, r)))

/-- The front run of the running SEQ_STEP is loaded: its program, seed and windows, and its sequence rows (07 R186, R198;
08 Table 8.5). -/
def startRun (d : Device) : Device :=
  match d.serve.serving with
  | none => d
  | some v =>
    match v.runs with
    | [] => setServing (some { v with commitDue := true }) d
    | r :: _ =>
      let q := v.queue
      let x := descOf d q
      let img := imageField x
      let prog := leField x 16 4 + r.bucket
      let done := ((cmdOf d q).map (·.committed)).getD 0
      let seed := (leField x 24 8 + done * 256 + v.runIndex) % 2 ^ 64
      let flushOf := fun k => tabGet [] v.flush k
      let wins := r.slots.flatMap (fun k =>
        (stageAddr d k, 0x10000) :: (flushOf k).map (fun n => (pageAddr d n, 0x10000)))
      let d := d |> loadStep q img prog seed (namedBufs d x) wins |> writeSeed q seed
      forEach (seqRowPlaces d img prog) (fun pr d =>
        forEach (List.range 64) (fun w d =>
          rowPut pr.1 (pr.2 + w) (match r.slots[w]? with
            | some k => seqRowBytes d k (tabGet 0 v.news k) (flushOf k)
            | none => List.replicate 512 0) d) d) d

/-- The next step of the running SEQ_STEP is built from the slots `ks`: runs within the budget, flush pages in ascending
SEQNO, copies of shared tails (08 R246; 07 R197, R215). -/
def buildStep (v : Serving) (x : List Byte) (ks joined : List Nat) (d : Device) : Device :=
  let all := runsOf d x ks
  let runs := withinBudget d x 0 all
  let taken := runs.flatMap (·.slots)
  let d := forEach (ks.filter (fun k => !taken.contains k)) (setLast 2) d
  let d := forEach (taken.filter (fun k => !joined.contains k)) (setLast 1) d
  let news := taken.foldl (fun (t : List (Nat × Nat)) k => tabPut k (newTokens d x k) t) []
  let r := (slotsBySeqno d taken).foldl (fun (a : List (Nat × List Nat) × Device) k =>
    let p := popPages (flushNeed a.2 x k) a.2
    (tabPut k p.1 a.1, p.2)) ([], d)
  let d := forEach taken (fun k d =>
    if recShared d k then memPut (stageAddr d k) (memBytes d (pageAddr d (recTail d k)) 0x10000) d else d) r.2
  setServing (some { v with runs := runs, runIndex := 0, news := news, flush := r.1, inStep := true, commitDue := false }) d

/-! The end of a SEQ_STEP (08 R250). -/

/-- Has the SEQ_STEP run all its steps? -/
def stepsDone (d : Device) (q : Nat) : Bool :=
  match cmdOf d q with
  | some c => decide (leField c.desc 48 2 ≤ c.committed)
  | none => true

/-- Does the SEQ_STEP of queue `q` end at this boundary (08 R250)? -/
def seqStepEnds (d : Device) (q : Nat) : Bool :=
  stepsDone d q || activeCount d == 0 || (queueOf d q).pausing || higherHeadWaits d q

/-- The SEQ_STEP of queue `q` ends (08 R250). -/
def endSeqStep (q lastEnd : Nat) (d : Device) : Device :=
  let early := !stepsDone d q
  let strict := strictMode d && decide (0 < ((cmdOf d q).map (·.committed)).getD 0)
  let shown := reportedFlag d (ownedBy d q)
  let d := modCmd q (fun c => { c with preempted := early, detail := (c.committed, 0), flagged := c.flagged || shown }) d
  match cmdOf d q with
  | none => d
  | some c => let s := execStatus c; finishAt q s.1 s.2.1 s.2.2 (if strict then lastEnd else d.clock.beat) d

/-! The boundary (08 R241). -/

/-- Growth and the work list of the running SEQ_STEP, if it has a step to come. -/
def nextStep (a : Admit) (d : Device) : Device :=
  match d.serve.serving with
  | none => d
  | some v =>
    if stepsDone d v.queue then d else
    let x := descOf d v.queue
    let active := (d.serve.table.filter (fun e => e.2.state == 1)).map (·.1)
    let fits := active.filter (fun k => !overBound d x k)
    let d := forEach (active.filter (overBound d x)) (setLast 2) d
    let joined := fits.filter (fun k => a.joined.contains k)
    let g := growth v.queue x a.owed fits.length (fits.filter (fun k => !a.joined.contains k)) d
    buildStep v x (g.1 ++ joined) joined g.2

/-- The check of R250: the SEQ_STEP ends, or its step begins. -/
def checkServing (d : Device) : Device :=
  match d.serve.serving with
  | none => d
  | some v => if seqStepEnds d v.queue then endSeqStep v.queue v.lastEnd d else startRun d

/-- Is a boundary due (08 R240)? A SWAP_IN waits for the host link. -/
def boundaryDue (d : Device) : Bool :=
  (match d.serve.serving with
   | some v => v.commitDue || !v.inStep
   | none => !d.serve.waiting.isEmpty) &&
    (hostUp d && d.link.waiting.isEmpty || (waitingOp d 0x15).isEmpty)

/-- STEP_BOUNDARY (08 R240, R241). -/
def stepBoundary (d : Device) : Device :=
  if !boundaryDue d then d else
  let c := commitAll d
  let d := closeStep c.2
  let d := forEach (d.serve.table.map (·.1)) (setLast 0) d
  let d := validateNodes d
  let e := editAll d
  let d := forEach (waitingOp e.2 0x13) pinCommand e.2
  let a := admitAll d
  let d := nextStep a.1 a.2
  let out := sortBy (fun (x y : Decided) => decide (x.seqno ≤ y.seqno)) (c.1 ++ e.1 ++ a.1.out)
  d |> forEach out finishDecided |> checkServing

end Sys2Proof.Machine
end

