-- ==== Sys2Proof/Machine/Cloak.lean ====
section
/-! DEFINITION. The Cloakroom: doorbells, fetch, dispatch, the start and the end of each command, ageing, pause, halt,
enabling, coalescing (08 R221 to R255). -/
namespace Sys2Proof.Machine

/-! Host access to a queue (08 R221, R223). -/

/-- A write reaches the doorbell at offset `off` of queue `q`: one of the host while the device is Ready, and not of a
firmware queue, where it is discarded and counted in DEV_BADACC; one of the firmware over its own path to queues 0 to 15
(08 R221, R223, 15 R418). -/
def reachQueue (by' : QueueWriter) (q off : Nat) (f : Device → Device) (d : Device) : Device :=
  match by' with
  | .host =>
    if !hostReach d || !isReady d || 8192 ≤ q then d
    else if firmwareQueue q then badAccess 2 off d
    else f d
  | .firmware => if isReady d && firmwareQueue q then f d else d

/-- SQ_DOORBELL (08 R223): a value not below the ring size sets DB_ERR. -/
def sqDoorbell (by' : QueueWriter) (q v : Nat) : Device → Device :=
  reachQueue by' q (q * 64) (fun d =>
    if v % 2 ^ 16 < ringSize d q then wr (CK_Q_SQ_TAIL q) (v % 2 ^ 16) d else setBit (CK_Q_STATUS q) 3 true d)

/-- CQ_DOORBELL (08 R223). -/
def cqDoorbell (by' : QueueWriter) (q v : Nat) : Device → Device :=
  reachQueue by' q (q * 64 + 4) (fun d =>
    if v % 2 ^ 16 < ringSize d q then wr (CK_Q_CQ_HEAD q) (v % 2 ^ 16) d else setBit (CK_Q_STATUS q) 3 true d)

/-! Fetch (08 R224). -/

/-- Queue `q` takes a head. -/
def setHead (q : Nat) (x : List Byte) (belv : Bool) (d : Device) : Device :=
  let cls := fld d (CK_Q_CFG q) 2 1
  let n := d.cloak.nextOrder
  let d := modQueue q (fun v => { v with
    head := some x, belvHead := belv, headBeat := d.clock.beat, classBeat := d.clock.beat, headOrder := n,
    baseClass := cls, effClass := cls, aged := false, starved := false }) d
  { d with cloak := { d.cloak with nextOrder := n + 1 } }

/-- DESCRIPTOR_FETCH (08 R224): the entry at SQ_HEAD becomes the head once SQ_TAIL covers it and no command of the queue
is in flight; a ring in host memory needs the link. -/
def descriptorFetch (q : Nat) (d : Device) : Device :=
  let v := queueOf d q
  let head := rd d (CK_Q_SQ_HEAD q)
  let loc := rbit d (CK_Q_CFG q) 4
  if !isReady d || !queueEnabled d q || v.disabling || v.pausing || v.head.isSome || v.cmd.isSome || rbit d (CK_Q_STATUS q) 1 ||
      rbit d (CK_Q_STATUS q) 2 || rd d (CK_Q_SQ_TAIL q) == head || !(loc || (hostUp d && d.link.waiting.isEmpty)) then d
  else
    let a := sqBase d q + head * 64
    setHead q (if loc then memBytes d a 64 else hostBytes d a 64) false d

/-! Dispatch (08 R237, R238). -/

/-- May the pavilion take a command: unowned, in service or SUSPECT, unfenced, its cluster not clearing (08 R237,
14 R386); a golden run may take a STOPPED or FAILED one too. -/
def pavilionFree (d : Device) (golden : Bool) (p : Nat) : Bool :=
  !rbit d (GH_STATUS p) 29 && !rbit d (GH_STATUS p) 1 && !rbit d (KS_STATUS p) 1 && (pavOf d p).golden.isNone &&
    (pavState d p == 0 || pavState d p == 2 || golden)

/-- Does queue `q` run a step that is not being ended? -/
def runsStep (d : Device) (q : Nat) : Bool := namesImage (descOf d q) && !((cmdOf d q).map (·.ending)).getD false

/-- PEAK_GRANT of the Strict steps that run, and 59 for each golden run (05 R140). -/
def runningPeak (d : Device) : Nat :=
  (busyQueues d).foldl (fun m q =>
    m + (if cmdOp d q == 0x40 then 59 else if runsStep d q then namedPeak d (descOf d q) else 0)) 0

/-- Link slots that the Strict steps that run occupy (05 R136). -/
def runningSlots (d : Device) : Nat :=
  ((busyQueues d).filter (runsStep d)).foldl (fun m q => m ||| namedSlots d (descOf d q)) 0

/-- Is the head with descriptor `x` startable (08 R237; 05 R136, R140, R148; 17 R467)? -/
def startable (d : Device) (q : Nat) (x : List Byte) : Bool :=
  let op := leField x 0 1
  let mask := headPavs d q x
  let needsPav := mask != 0
  (bitsSet mask 8).all (pavilionFree d (op == 0x40)) &&
    !(needsPav && rbit d DEV_STATUS 3) && (!(needsPav && strictMode d) || islandsReady d) &&
    (op != 0x12 || d.serve.serving.isNone) &&
    (!(needsPav && strictMode d) || !namesImage x || (stepIllegal d x) ||
      (decide (runningPeak d + namedPeak d x + fixedGrants d ≤ powerBudget d) && namedSlots d x &&& runningSlots d == 0)) &&
    (!(op == 0x02 || op == 0x03) || decide (d.cloak.channels.length < 4)) &&
    (!namesImage x || imageRoom d (imageField x))

/-- The order of a head in H: class, then age, then queue (08 R238, 14 R401). -/
def headRank (d : Device) (q : Nat) : Nat × Nat × Nat := (headClass d q, (queueOf d q).headOrder, q)

/-- Lexicographic order of ranks. -/
def rankBefore (a b : Nat × Nat × Nat) : Bool :=
  decide (a.1 < b.1) || (a.1 == b.1 && (decide (a.2.1 < b.2.1) || (a.2.1 == b.2.1 && decide (a.2.2 ≤ b.2.2))))

/-- H of R238, in order. -/
def heads (d : Device) : List Nat :=
  sortBy (fun a b => rankBefore (headRank d a) (headRank d b)) ((d.cloak.queues.map (·.1)).filter (headEligible d))

/-- Belvedere has the Cloakroom enter GOLDEN_RUN in queue 15 for a pavilion whose run is due (14 R386, R400, R401). -/
def enterGolden (d : Device) : Device :=
  let v := queueOf d 15
  if !isReady d || v.head.isSome || v.cmd.isSome then d else
  let wanted := (List.range (pavCount d)).find? (fun p =>
    (pavOf d p).goldenDue && (pavOf d p).golden.isNone &&
      (!rbit d (GH_STATUS p) 29 || decide (3 ≤ fld d BV_GOLD_DEFER (3 * p + 2) (3 * p))))
  match wanted with
  | none => d
  | some p =>
    match nextGolden d p with
    | none => d
    | some e =>
      setHead 15 (leBytes 1 0x40 ++ List.replicate 7 0 ++ leBytes 1 p ++ List.replicate 3 0 ++ leBytes 4 e ++
        List.replicate 48 0) true d

/-! The start of a command (08 R225, R229). -/

/-- The head of queue `q` becomes the command in flight, with its ticket (08 R224, R225). -/
def takeHead (q : Nat) (x : List Byte) (d : Device) : Device :=
  let v := queueOf d q
  modQueue q (fun v => { v with head := none, belvHead := false, cmd := some {
    desc := x, ticket := ticketOf d q, startBeat := d.clock.beat, cls := v.baseClass, aged := v.aged, starved := v.starved,
    byBelvedere := v.belvHead } }) (setQueue q v d)

/-- The pavilions of a mask are taken for queue `q`. -/
def takePavilions (q mask : Nat) (d : Device) : Device := forEach (bitsSet mask 8) (takePavilion q) d

/-- A STEP starts: image, pavilions, step program, seed (08 R233, R234; 05 R155). -/
def startStep (q : Nat) (x : List Byte) (d : Device) : Device :=
  let img := imageField x
  let prog := leField x 16 4
  let bufs := namedBufs d x
  d |> nameImage img |> takePavilions q (progPavMask d img prog) |> loadStep q img prog (leField x 24 8) bufs []
    |> writeSeed q (leField x 24 8)

/-- A SEQ_STEP starts: it takes its pavilions and the Step Builder, and waits for its first boundary (08 R237, R240). -/
def startSeqStep (q : Nat) (x : List Byte) (d : Device) : Device :=
  let img := imageField x
  d |> nameImage img |> takePavilions q (progPavMask d img (leField x 16 4)) |> setServing (some { queue := q })

/-- A COPY or FILL takes a copy channel (08 R233). -/
def startCopy (q : Nat) (d : Device) : Device :=
  let c := (firstBelow 4 (fun c => (tabFind c d.cloak.channels).isNone)).getD 0
  { d with cloak := { d.cloak with channels := tabPut c q d.cloak.channels } } |> modCmd q (fun k => { k with channel := some c })

/-- A FENCE starts: it waits for every command in flight before it (08 R233). -/
def startFence (q : Nat) (d : Device) : Device :=
  let others := ((busyQueues d).filter (· != q)).filterMap (fun r => (cmdOf d r).map (·.ticket))
  modCmd q (fun c => { c with fenceOn := others }) d

/-- A SIGNAL (08 Table 8.4). -/
def startSignal (q : Nat) (x : List Byte) (d : Device) : Device :=
  let sem := CK_SEM (leField x 8 2)
  let v := leField x 12 4
  d |> (if leField x 10 1 == 0 then addWrap sem v else wr sem v) |> finishExec q

/-- Bytes to a host or device end (08 R233). -/
def putEnd (v : Nat) (bs : List Byte) (d : Device) : Device :=
  if isHostEnd v then hostPut (endAddr v) bs d else memPut (endAddr v) bs d

/-- A TIMESTAMP (08 Table 8.4). -/
def startTimestamp (q : Nat) (x : List Byte) (d : Device) : Device :=
  let bs := leBytes 8 d.clock.beat ++ leBytes 4 (rd d CT_NS) ++ leBytes 4 (rd d CT_FRAC)
  d |> putEnd (leField x 8 8) bs |> finishExec q

/-- A serving command waits in the Step Builder, ordered by `seqno` (08 R240). -/
def joinBuilder (q seqno : Nat) (d : Device) : Device :=
  let d := modCmd q (fun c => { c with seqno := seqno }) d
  { d with serve := { d.serve with waiting := d.serve.waiting ++ [q] } }

/-- A SEQ_ADMIT takes its SEQNO: a held retry ticket, or CK_SB_SEQNEXT (08 R244, Table 8.7). -/
def startAdmit (q : Nat) (x : List Byte) (d : Device) : Device :=
  if bitOf (leField x 21 1) 1 then
    let t := leField x 28 4
    { d with serve := { d.serve with tickets := d.serve.tickets.filter (· != t) } } |> joinBuilder q t
  else d |> joinBuilder q (rd d CK_SB_SEQNEXT) |> addWrap CK_SB_SEQNEXT 1

/-- A PAGE_EDIT starts: a live edit is applied now, a shadow edit is recorded (07 R194). -/
def startEdit (q : Nat) (x : List Byte) (d : Device) : Device :=
  let k := leField x 12 2
  if leField x 15 1 == 1 then d |> truncate k (leField x 16 4) [0, 1] |> finishExec q
  else d |> setRecFlag k 4 true |> joinBuilder q (leField x 8 4)

/-- A LOOP_LOAD or LOOP_ARM goes to the Cloche (10 R301, R302). -/
def startLoop (q : Nat) (x : List Byte) (d : Device) : Device :=
  if leField x 0 1 == 0x21 then clocheAccept (.arm q (leField x 8 8) (leField x 16 1 == 1)) d
  else if leField x 8 1 == 0 then clocheAccept (.loops q (leField x 9 1) (loopRecords d x)) d
  else clocheAccept (.setpoints q (leField x 9 1) (loopRecords d x)) d

/-- A SCRUB starts the scrub of the named present Glasshouses and the clearing of their clusters (03 R91, 04 R118). -/
def startScrub (q : Nat) (x : List Byte) (d : Device) : Device :=
  let gs := bitsSet (leField x 8 1) (pavCount d)
  d |> modCmd q (fun c => { c with scrubbing := gs })
    |> forEach gs (fun g d => d |> setBit (GH_STATUS g) 0 true |> setBit (GH_STATUS g) 1 true |> setBit (KS_STATUS g) 1 true)

/-- A GOLDEN_RUN starts (14 R399, R400). -/
def startGolden (q : Nat) (x : List Byte) (d : Device) : Device :=
  let p := leField x 8 1
  d |> takePavilions q (2 ^ p) |> goldenStart p (leField x 12 4) none

/-! COPY and FILL (08 R233). -/

/-- Bytes `i` to `i + n` of what a COPY or FILL writes. A byte of an overlap of source and destination in device memory is
a free value: the spec orders no copy. -/
def moved (d : Device) (x : List Byte) (n : Nat) : List Byte :=
  if leField x 0 1 == 0x03 then (List.range n).map (fun i => (sliceBytes x 24 8).getD (i % 8) 0)
  else
    let src := leField x 8 8
    let dst := leField x 16 8
    let bytes := if isHostEnd src then hostBytes d (endAddr src) n else memBytes d src n
    if isHostEnd src || isHostEnd dst || !overlaps src (leField x 24 8) dst (leField x 24 8) then bytes
    else bytes.zipIdx.map (fun b =>
      if src ≤ dst + b.2 && dst + b.2 < src + leField x 24 8 then BitVec.ofNat 8 (Config.free (d.freeCtr + b.2)) else b.1)

/-- Destination and length of a COPY or FILL. -/
def copyTarget (x : List Byte) : Nat × Nat :=
  if leField x 0 1 == 0x03 then (leField x 8 8, leField x 16 8) else (leField x 16 8, leField x 24 8)

/-- The first `n` bytes of a COPY or FILL are written. -/
def copyBytes (x : List Byte) (n : Nat) (d : Device) : Device :=
  let bs := moved d x n
  { d with freeCtr := d.freeCtr + n } |> putEnd (copyTarget x).1 bs

/-- COPY_COMPLETE (08 R233): a source in host memory needs the link. -/
def copyComplete (q : Nat) (ecc : EccEvent) (d : Device) : Device :=
  match cmdOf d q with
  | none => d
  | some c =>
    let x := c.desc
    let op := leField x 0 1
    let src := leField x 8 8
    if c.channel.isNone || (op == 0x02 && isHostEnd src && !(hostUp d && d.link.waiting.isEmpty)) then d
    else
      d |> copyBytes x (copyTarget x).2 |> applyIf (op == 0x02 && !isHostEnd src) (checkBurst ecc src [q]) |> finishExec q

/-! KILL (08 R251). -/

/-- The shadow edit of queue `q` is withdrawn: EDIT_PENDING clears where no other edit of the sequence waits. -/
def withdrawEdit (q : Nat) (d : Device) : Device :=
  let k := leField (descOf d q) 12 2
  if cmdOp d q == 0x14 && d.serve.waiting.contains q &&
      !(waitingOp d 0x14).any (fun r => r != q && leField (descOf d r) 12 2 == k) then setRecFlag k 4 false d else d

/-- The command of queue `t` is ended by a KILL, by kind (08 R251): a step or golden run as R92 states, a COPY or FILL at a
64-byte boundary, a SCRUB once its fences lift, any other command at once and without side effect. -/
def killCommand (t : Nat) (d : Device) : Device :=
  let op := cmdOp d t
  let d := modCmd t (fun c => { c with killed := true }) d
  match op with
  | 0x01 => beginKill t d
  | 0x12 => beginKill t d
  | 0x40 => beginKill t d
  | 0x31 => d
  | 0x02 => d |> killedCopy t |> finishExec t
  | 0x03 => d |> killedCopy t |> finishExec t
  | _ => d |> withdrawEdit t |> clocheWithdraw t |> finishExec t
where
  /-- A free number of the 64-byte blocks has been written. -/
  killedCopy (t : Nat) (d : Device) : Device :=
    let x := descOf d t
    let n := freeBelow d ((copyTarget x).2 / 64 + 1) * 64
    if leField x 0 1 == 0x02 && isHostEnd (leField x 8 8) && !(hostUp d && d.link.waiting.isEmpty) then nextFree d
    else d |> nextFree |> copyBytes x n

/-- A KILL starts and completes. -/
def startKill (q : Nat) (x : List Byte) (d : Device) : Device :=
  let target := leField x 8 4
  let t := target % 8192
  let hit := t != q && ((cmdOf d t).map (fun c => c.ticket == target)).getD false
  let d := if hit then killCommand t d else d
  d |> modCmd q (fun c => { c with detail := (if hit then 1 else 0, 0) }) |> finishExec q

/-! The start. -/

/-- The effect of an accepted command's start, by opcode. -/
def startEffect (q : Nat) (x : List Byte) (d : Device) : Device :=
  match leField x 0 1 with
  | 0x01 => startStep q x d
  | 0x02 => startCopy q d
  | 0x03 => startCopy q d
  | 0x04 => startFence q d
  | 0x05 => startSignal q x d
  | 0x06 => d
  | 0x07 => startTimestamp q x d
  | 0x10 => startAdmit q x d
  | 0x12 => startSeqStep q x d
  | 0x13 => joinBuilder q 0 d
  | 0x14 => startEdit q x d
  | 0x20 => startLoop q x d
  | 0x21 => startLoop q x d
  | 0x30 => startKill q x d
  | 0x31 => startScrub q x d
  | 0x40 => startGolden q x d
  | _ => joinBuilder q (leField x 8 4) d

/-- A command that is not accepted leaves its image loaded where the image itself passed its checks (05 R122, 06 R164);
an image that fails them leaves the image table as it was (00 R6, 08 R234). -/
def loadNamed (q : Nat) (x : List Byte) (d : Device) : Device :=
  if namesImage x && (descFault d q x).isNone && featureOk d q x &&
      (imageLoaded d (imageField x) || (imageFault d (imageField x)).isNone) then nameImage (imageField x) d else d

/-- The head of queue `q` starts: it takes its ticket, is checked, and has its effect or its acceptance status
(08 R225, R229, R231). -/
def startHead (q : Nat) (d : Device) : Device :=
  match (queueOf d q).head with
  | none => d
  | some x =>
    match acceptStatus d q x with
    | some (st, d0) => d |> loadNamed q x |> takeHead q x |> finish q st d0 0
    | none => d |> takeHead q x |> startEffect q x

/-- What the decision of R238 carries from head to head. -/
structure Plan where
  /-- Pavilions claimed -/
  claimed : Nat := 0
  /-- The Step Builder is claimed -/
  builder : Bool := false
  /-- Queues whose heads start -/
  started : List Nat := []
  deriving DecidableEq, Repr

/-- One head of the decision. -/
def dispatchOne (q : Nat) (a : Plan × Device) : Plan × Device :=
  let d := a.2
  let x := ((queueOf d q).head).getD []
  let mask := headPavs d q x
  let builder := leField x 0 1 == 0x12 && mask != 0
  if !headEligible d q || (mask &&& a.1.claimed) != 0 || (builder && a.1.builder) then a
  else if startable d q x then ({ a.1 with started := a.1.started ++ [q] }, startHead q d)
  else ({ a.1 with claimed := a.1.claimed ||| mask, builder := a.1.builder || builder }, d)

/-- The decision of R238: which heads start, and the device after their starts. -/
def dispatchRun (d : Device) : Plan × Device :=
  let d := enterGolden d
  (heads d).foldl (fun (a : Plan × Device) q => dispatchOne q a) ({}, d)

/-- DISPATCH (08 R238). -/
def dispatch (d : Device) : Device := (dispatchRun d).2

/-- May the head of queue `q` start at the decision of R238 taken now? -/
def planned (d : Device) (q : Nat) : Bool := (dispatchRun d).1.started.contains q

/-- The head of queue `q` starts if its descriptor satisfies `is` and the decision of R238 starts it. -/
def startIf (is : List Byte → Bool) (q : Nat) (d : Device) : Device :=
  match (queueOf (enterGolden d) q).head with
  | some x => if is x && planned d q then startHead q (enterGolden d) else d
  | none => d

/-- The head has opcode `op`. -/
def isOp (op : Nat) (x : List Byte) : Bool := leField x 0 1 == op

/-! Completions of waiting commands (08 R233). -/

/-- FENCE_COMPLETE. -/
def fenceComplete (q : Nat) (d : Device) : Device :=
  match cmdOf d q with
  | some c => if leField c.desc 0 1 == 0x04 && c.fenceOn.isEmpty then finishExec q d else d
  | none => d

/-- Has the semaphore reached the value of the WAIT `x`? -/
def waitReached (d : Device) (x : List Byte) : Bool :=
  decide (0 ≤ signedOf 32 (rd d (CK_SEM (leField x 8 2)) + 2 ^ 32 - leField x 12 4))

/-- WAIT_SATISFIED. -/
def waitSatisfied (q : Nat) (d : Device) : Device :=
  match cmdOf d q with
  | some c => if leField c.desc 0 1 == 0x06 && waitReached d c.desc then finishExec q d else d
  | none => d

/-- WAIT_TIMEOUT: TIMEOUT_US, 25 beats each, have passed since the start. -/
def waitTimeout (q : Nat) (d : Device) : Device :=
  match cmdOf d q with
  | some c =>
    let us := leField c.desc 16 4
    if leField c.desc 0 1 == 0x06 && us != 0 && !waitReached d c.desc && decide (c.startBeat + us * 25 ≤ d.clock.beat) then
      finish q 0x01 1 0 d
    else d
  | none => d

/-! The end of a step program (05 R143; 08 R224, R246). -/

/-- A run of the serving step has ended: the next run is loaded, or the step's commit is due. -/
def nextRun (q stop : Nat) (d : Device) : Device :=
  match d.serve.serving with
  | none => d
  | some v =>
    let v := { v with runs := v.runs.drop 1, runIndex := v.runIndex + 1, lastEnd := stop }
    let d := { d with comp := { d.comp with steps := tabErase q d.comp.steps } }
    startRun (setServing (some v) d)

/-- STEP_END of the step program of queue `q`. -/
def stepEnd (q : Nat) (d : Device) : Device :=
  match stepOf d q, cmdOf d q with
  | some s, some c =>
    if !s.started || c.ending || !allSegsDone d s || !beatReached d (endBeatOf d s) then d else
    let stop := endBeatOf d s
    let d := compareTwins q s d
    match cmdOf d q with
    | none => d
    | some c =>
      if c.ending then d
      else if leField c.desc 0 1 == 0x12 then
        if c.withheld || c.corrupt then finishExec q d else nextRun q stop d
      else
        let shown := reportedFlag d (ownedBy d q)
        let d := modCmd q (fun c => { c with flagged := c.flagged || shown }) d
        match cmdOf d q with
        | none => d
        | some c => let r := execStatus c; finishAt q r.1 r.2.1 r.2.2 stop d
  | _, _ => d

/-! Ageing (08 R239). -/

/-- Beats per millisecond. -/
abbrev beatsPerMs : Nat := 25000

/-- AGEING_PROMOTION: a BULK head goes to PLAN, a PLAN head to PERCEPT, once it has waited long enough in its class. -/
def ageingPromotion (q : Nat) (d : Device) : Device :=
  let v := queueOf d q
  let limit := if v.effClass == 3 then CK_AGE_BULK else CK_AGE_PLAN
  if v.head.isSome && (v.effClass == 3 || v.effClass == 2) &&
      decide (v.classBeat + fld d limit 15 0 * beatsPerMs ≤ d.clock.beat) then
    modQueue q (fun v => { v with effClass := v.effClass - 1, classBeat := d.clock.beat, aged := true }) d
  else d

/-- STARVATION: source 68, once for the command; TICKET names the ticket it will receive. -/
def starvation (q : Nat) (d : Device) : Device :=
  let v := queueOf d q
  if v.head.isSome && !v.starved && decide (v.headBeat + fld d CK_AGE_LIMIT 15 0 * beatsPerMs ≤ d.clock.beat) then
    d |> modQueue q (fun v => { v with starved := true }) |> assertFault 68 (ticketOf d q) [] [] 0
  else d

/-! Pause, resume, halt (08 R230, R247). -/

/-- A WAIT in progress is withdrawn: no completion, SQ_HEAD unchanged; a FENCE no longer waits for it. -/
def withdrawWait (q : Nat) (d : Device) : Device :=
  match cmdOf d q with
  | some c =>
    d |> modQueue q (fun v => { v with cmd := none })
      |> forEach (busyQueues d) (fun r d => modCmd r (fun k => { k with fenceOn := k.fenceOn.filter (· != c.ticket) }) d)
      |> setBit (CK_Q_STATUS q) 1 true
  | none => d

/-- PAUSE of queue `q`. -/
def pauseQueue (q : Nat) (d : Device) : Device :=
  let d := modQueue q (fun v => { v with head := none }) d
  match cmdOf d q with
  | none => setBit (CK_Q_STATUS q) 1 true d
  | some c =>
    if leField c.desc 0 1 == 0x06 then withdrawWait q d else modQueue q (fun v => { v with pausing := true }) d

/-- A write to CK_Q_CTRL; one that sets both PAUSE and RESUME is ignored. -/
def queueControl (q v : Nat) (d : Device) : Device :=
  if bitOf v 0 && bitOf v 1 then d
  else d |> applyIf (bitOf v 0) (pauseQueue q) |> applyIf (bitOf v 1) (setBit (CK_Q_STATUS q) 1 false)
    |> applyIf (bitOf v 2) (setBit (CK_Q_STATUS q) 2 false)

/-! Enabling and disabling (08 R222, Table 8.13). -/

/-- Does the ring lie where it may: a device-memory ring in populated DRAM, outside the reserve and the key-value ranges
(08 R222, 14 R393)? -/
def ringOk (d : Device) (loc : Bool) (base bytes : Nat) : Bool := !loc || dramDest d base bytes

/-- The configuration of queue `q` keeps the rules of R222; rings in device memory need feature DEV_RINGS (15
Table 15.14). -/
def queueConfigOk (d : Device) (q : Nat) : Bool :=
  let n := fld d (CK_Q_CFG q) 20 16
  (bitOf d.hostif.featAccepted 5 || !(rbit d (CK_Q_CFG q) 4 || rbit d (CK_Q_CFG q) 5)) && decide (4 ≤ n) && decide (n ≤ 16) && ringOk d (rbit d (CK_Q_CFG q) 4) (sqBase d q) (2 ^ n * 64) &&
    ringOk d (rbit d (CK_Q_CFG q) 5) (cqBase d q) (2 ^ n * 32)

/-- ENABLE reads 0. -/
def disabled (q : Nat) (d : Device) : Device :=
  d |> setBit (CK_Q_CFG q) 0 false |> modQueue q (fun v => { v with disabling := false })

/-- A write to CK_Q_CFG (08 Table 8.13): while ENABLE is 1 only CLASS and ENABLE are taken. -/
def queueConfig (q v : Nat) (d : Device) : Device :=
  if queueEnabled d q then
    let d := setFld (CK_Q_CFG q) 2 1 (fieldOf v 2 1) d
    if bitOf v 0 then d
    else
      let d := modQueue q (fun k => { k with disabling := true, head := none }) d
      if (cmdOf d q).isNone then disabled q d else d
  else
    let d := wr (CK_Q_CFG q) (v &&& 0x1F003E) d
    if !bitOf v 0 then d
    else if queueConfigOk d q then setBit (CK_Q_CFG q) 0 true d
    else setBit (CK_Q_STATUS q) 4 true d

/-- QUEUE_DISABLE_EFFECT. -/
def queueDisableEffect (q : Nat) (d : Device) : Device :=
  if (queueOf d q).disabling && (cmdOf d q).isNone then disabled q d else d

/-- COALESCE_TIMEOUT: COAL_US microseconds, 25 beats each, have passed since the first completion not yet announced
(08 R255). -/
def coalesceTimeout (q : Nat) (d : Device) : Device :=
  let us := fld d (CK_Q_IRQ q) 31 24
  if (queueOf d q).uncoalesced != 0 && rbit d (CK_Q_IRQ q) 11 && us != 0 &&
      decide ((queueOf d q).coalBeat + us * 25 ≤ d.clock.beat) then queueVector q d else d

end Sys2Proof.Machine
end

