-- ==== Sys2Proof/Machine/Sense.lean ====
section
/-! DEFINITION. The sensing front end: routes, converters, SENT receivers, SPI masters, capture inputs (11 R317 to R332). -/
namespace Sys2Proof.Machine

/-! Delivery to the input table (11 R318 to R320). -/

/-- The input entries that a source feeds, ascending. -/
def routedEntries (d : Device) (kind index : Nat) : List Nat :=
  (List.range 128).filter (fun n => rbit d (SN_ROUTE n) 31 && fld d (SN_ROUTE n) 15 12 == kind &&
    fld d (SN_ROUTE n) 11 0 == index)

/-- Entry `n` takes a raw value, scaled to Q15 (11 R318). -/
def scaleInput (n : Nat) (raw : Int) (valid : Bool) (stamp : Nat) (d : Device) : Device :=
  let y := divRne ((raw - signedOf 32 (rd d (SN_OFFS n))) * signedOf 32 (rd d (SN_GAIN n))) 16
  let v := clampInt (-32768) 32767 y
  d |> writeInput n v valid stamp |> applyIf (v != y) (setBit (SN_CLIP (n / 32)) (n % 32) true)

/-- A source completes: every entry whose route names it is written, in ascending index (11 R318, R320). -/
def deliver (kind index : Nat) (raw : Int) (valid : Bool) (stamp : Nat) (d : Device) : Device :=
  forEach (routedEntries d kind index) (fun n d => scaleInput n raw valid stamp d) d

/-- Entry `n` is written with VALID = 0; the spec states no VALUE for it, which is free (Assumption 7). -/
def invalidateInput (n stamp : Nat) (d : Device) : Device :=
  d |> writeInput n (signedOf 16 (freeBelow d 65536)) false stamp |> nextFree

/-- Does a route name a kind and an index that exist (11 R319, Table 11.9)? -/
def routeOk (kind index : Nat) : Bool :=
  (kind == 1 && decide (index < 32)) || ((kind == 2 || kind == 3) && decide (index < 8)) ||
  (kind == 4 && decide (index < 2048)) || (kind == 5 && decide (index < 64)) ||
  (decide (6 ≤ kind) && decide (kind ≤ 8) && decide (index < 8))

/-- SN_STATUS.CFG_ERR. -/
def senseError (d : Device) : Device := setBit SN_STATUS 0 true d

/-- ROUTE_WRITE (11 R319): entry `n` is written invalid at once; the route is adopted, or the previous one stays and
CFG_ERR is set. -/
def routeWrite (n v : Nat) (d : Device) : Device :=
  let d := invalidateInput n (nowNs d) d
  if bitOf v 31 && !routeOk (fieldOf v 15 12) (fieldOf v 11 0) then senseError d else storedWrite (SN_ROUTE n) v d

/-! Converters (11 R321, R322). -/

/-- Converter `a`. -/
def adcOf (d : Device) (a : Nat) : AdcRun := tabGet {} d.sense.adc a
/-- Replace converter `a`. -/
def setAdc (a : Nat) (v : AdcRun) (d : Device) : Device := { d with sense := { d.sense with adc := tabPut a v d.sense.adc } }

/-- A trigger reaches converter `a`: the sequence starts, or the trigger is dropped and counted. -/
def adcStart (a : Nat) (d : Device) : Device :=
  if !rbit d SN_CTRL a then d
  else if (adcOf d a).running then countUp (SN_ADC_OVR a) d
  else setAdc a { running := true, slot := 0 } d

/-- The converter whose trigger starts converter `a`: with ADC_SYNC, ADC0's (11 R322). -/
def adcLead (d : Device) (a : Nat) : Nat := if rbit d SN_CTRL 2 then 0 else a

/-- Does a trigger of kind `kind` (the code of TRIG; for kind 2 a pulse of TT_OUT pin `tt`) start converter `a`? -/
def adcTriggered (d : Device) (kind tt a : Nat) : Bool :=
  let cfg := SN_ADC_CFG (adcLead d a)
  fld d cfg 1 0 == kind && (kind != 2 || fld d cfg 3 2 == tt)

/-- A trigger of kind 1 or 2 reaches the converters that it starts (11 R322). -/
def adcTriggers (kind tt : Nat) (d : Device) : Device :=
  forEach ((List.range 2).filter (adcTriggered d kind tt)) adcStart d

/-- The continuous sequences of converter `a` start: with ADC_SYNC those of both converters (11 R322). -/
def adcContinue (a : Nat) (d : Device) : Device :=
  if rbit d SN_CTRL 2 then if a == 0 then d |> adcStart 0 |> adcStart 1 else d else adcStart a d

/-- ADC_TRIGGER of converter `a`: its continuous sequences begin. The triggers of the other modes are the sub-period
boundary and the TT_OUT pulse themselves (`adcTriggers`, Assumption 91). -/
def adcTrigger (a : Nat) (d : Device) : Device :=
  let a := a % 2
  if adcTriggered d 0 0 a && !(adcOf d a).running then adcContinue a d else d

/-- The ideal code for an input of `v` nV (11 R321). -/
def idealCode (v : Int) : Nat := (clampInt 0 65535 (v * 65536 / 1800000000)).toNat

/-- The code of a conversion of channel `ch`: the ideal code, with the deviation that the converter shows. -/
def adcCode (ch : Nat) (x : AdcSample) : Nat := (clampInt 0 65535 ((idealCode (x.inputs.getD ch 0) : Nat) + x.error)).toNat

/-- The rounded mean of the codes of 2^k conversions of channel `ch` (11 R322). -/
def adcMean (ch : Nat) (samples : List AdcSample) (k : Nat) : Nat :=
  let sum := (List.range (2 ^ k)).foldl (fun s i => s + adcCode ch (samples.getD i {})) 0
  (sum + 2 ^ k / 2) / 2 ^ k

/-- ADC_SLOT_COMPLETE: the current slot of converter `a` ends; `samples`: its conversions (11 R318, R321, R322). -/
def adcSlotComplete (a : Nat) (samples : List AdcSample) (d : Device) : Device :=
  let a := a % 2
  let r := adcOf d a
  if !r.running then d else
  let i := r.slot
  let seq := SN_ADC_SEQ a i
  let raw := adcMean (fld d seq 3 0) samples (fld d seq 6 4)
  let d := d |> wr (SN_ADC_LAST a i) raw |> deliver 1 (a * 16 + i) raw true (nowNs d)
  if i < fld d (SN_ADC_CFG a) 11 8 then setAdc a { running := true, slot := i + 1 } d
  else d |> setAdc a {} |> applyIf (adcTriggered d 0 0 a) (adcContinue a)

/-! SENT receivers (11 R324 to R326; SAE J2716 for the two CRCs and the serial messages, Assumption 40). -/

/-- SENT receiver `j`. -/
def sentOf (d : Device) (j : Nat) : SentRun := tabGet {} d.sense.sent j
/-- Replace SENT receiver `j`. -/
def setSent (j : Nat) (v : SentRun) (d : Device) : Device := { d with sense := { d.sense with sent := tabPut j v d.sense.sent } }

/-- One bit shifted into a CRC of width `w`, polynomial `poly` with its top term. -/
def crcShift (w poly : Nat) (c : Nat) (b : Bool) : Nat :=
  let c := c * 2 + (if b then 1 else 0)
  if bitOf c w then c ^^^ poly else c

/-- A nibble shifted into the CRC-4. -/
def crc4Nibble (c n : Nat) : Nat := iterN 4 (fun c => crcShift 4 0x1D c false) c ^^^ n

/-- The CRC-4 of a list of nibbles: recommended, with a zero nibble appended, or legacy. -/
def sentCrc4 (legacy : Bool) (ns : List Nat) : Nat :=
  let c := ns.foldl crc4Nibble 5
  if legacy then c else crc4Nibble c 0

/-- The CRC-6 of the 24 bits of an enhanced serial message. -/
def sentCrc6 (bits : List Bool) : Nat := (bits ++ List.replicate 6 false).foldl (crcShift 6 0x59) 0x15

/-- Value of bits, most significant first. -/
def bitsValue (bs : List Bool) : Nat := bs.foldl (fun v b => v * 2 + (if b then 1 else 0)) 0

/-- Value of nibbles, most significant first. -/
def nibblesValue (ns : List Nat) : Nat := ns.foldl (fun v n => v * 16 + n) 0

/-- A slow message that the latest frame ends: message ID, data, CRC good. -/
def slowMessage (kind : Nat) (legacy : Bool) (hist : List (Bool × Bool)) : Option (Nat × Nat × Bool) :=
  if kind == 1 then
    let f := (hist.take 16).reverse
    let b3 := f.map (·.1)
    let b2 := f.map (·.2)
    if b3 == true :: List.replicate 15 false then
      let n := fun k => bitsValue ((b2.drop (4 * k)).take 4)
      some (n 0, n 1 * 16 + n 2, sentCrc4 legacy [n 0, n 1, n 2] == n 3)
    else none
  else if kind == 2 then
    let f := (hist.take 18).reverse
    let b3 := f.map (·.1)
    let b2 := f.map (·.2)
    if f.length == 18 && b3.take 7 == [true, true, true, true, true, true, false] && b3.getD 12 true == false &&
        b3.getD 17 true == false then
      let hi := bitsValue ((b3.drop 8).take 4)
      let lo := bitsValue ((b3.drop 13).take 4)
      let data := bitsValue (b2.drop 6)
      let good := sentCrc6 ((f.drop 6).flatMap (fun x => [x.2, x.1])) == bitsValue (b2.take 6)
      if b3.getD 7 false then some (hi, lo * 4096 + data, good) else some (hi * 16 + lo, data, good)
    else none
  else none

/-- A nibble of `ns` nanoseconds against a calibration pulse of 56 ticks: its length in ticks, rounded. -/
def sentTicks (cal ns : Nat) : Nat := (112 * ns + cal) / (2 * cal)

/-- The lengths between the falling edges that the receiver sees: a low pulse shorter than 250 ns is ignored, and the
length that begins with it belongs to the one before (11 Table 11.2). -/
def sentLengths (cal : Nat) (pulses : List SentPulse) : List Nat :=
  (pulses.foldl (fun (acc : List Nat) x =>
    match acc with
    | last :: rest => if x.low < 250 then (last + x.ns) :: rest else x.ns :: acc
    | [] => [x.ns]) [cal]).reverse

/-- Do the pulses of a frame pass the checks of R325: window, 1/64 check, nibble range, count, CRC? -/
def sentFrameOk (d : Device) (j cal : Nat) (ticks : List Nat) : Bool :=
  let cfg := SN_SENT_CFG j
  let nominal := 5600 * fld d cfg 9 0
  let nibbles := ticks.map (fun t => t - 12)
  decide (4 * nominal ≤ 5 * cal) && decide (5 * cal ≤ 6 * nominal) &&
    (match (sentOf d j).lastCal with
     | none => true
     | some p => decide (64 * (max p cal - min p cal) ≤ p)) &&
    ticks.length == fld d cfg 13 11 + 2 && ticks.all (fun t => decide (12 ≤ t) && decide (t ≤ 27)) &&
    sentCrc4 (rbit d cfg 19) ((nibbles.drop 1).take (fld d cfg 13 11)) == nibbles.getLastD 0

/-- A valid SENT frame: fast channels, then the slow message that it ends (11 R325). -/
def sentGood (j : Nat) (nibbles : List Nat) (d : Device) : Device :=
  let cfg := SN_SENT_CFG j
  let now := nowNs d
  let data := (nibbles.drop 1).take (fld d cfg 13 11)
  let st := nibbles.headD 0
  let first := data.take (fld d cfg 16 14)
  let rest := data.drop (fld d cfg 16 14)
  let fc1 := nibblesValue first
  let fc2 := nibblesValue (if rbit d cfg 18 then rest.reverse else rest)
  let hist := ((bitOf st 3, bitOf st 2) :: (sentOf d j).serial).take 18
  let d := d |> wr (SN_SENT_STATUS j) st
    |> setSent j { sentOf d j with serial := hist, since := nowTicks d, expired := false }
  let d := if first.isEmpty then d else d |> wr (SN_SENT_FC1 j) fc1 |> deliver 2 j fc1 true now
  let d := if rest.isEmpty then d else d |> wr (SN_SENT_FC2 j) fc2 |> deliver 3 j fc2 true now
  match slowMessage (fld d cfg 21 20) (rbit d cfg 19) hist with
  | none => d
  | some (id, v, good) => if good then deliver 4 (j * 256 + id) v true now d else countUp (SN_SENT_ERR j) d

/-- SENT_FRAME of receiver `j`: the calibration pulse, the pulses of the status, data and CRC nibbles, and a pause pulse
where the sender has one, which is not checked (11 R324). -/
def sentFrame (j cal : Nat) (pulses : List SentPulse) (d : Device) : Device :=
  let j := j % 8
  let lengths := sentLengths cal pulses
  let cal := lengths.headD 0
  if !rbit d SN_CTRL (8 + j) || cal == 0 then d else
  let nibbles := fld d (SN_SENT_CFG j) 13 11 + 2
  let ticks := (if lengths.length == nibbles + 2 then lengths.tail.take nibbles else lengths.tail).map (sentTicks cal)
  let ok := sentFrameOk d j cal ticks
  let d := setSent j { sentOf d j with lastCal := some cal } d
  if ok then sentGood j (ticks.map (fun t => t - 12)) d
  else d |> setSent j { sentOf d j with serial := [] } |> countUp (SN_SENT_ERR j)

/-- SENT_TIMEOUT of receiver `j`, once SN_SENT_TIMEOUT has passed since its latest valid frame or its enabling, and once
only (11 R326); a microsecond is 500 ticks. -/
def sentTimeout (j : Nat) (d : Device) : Device :=
  let j := j % 8
  let us := fld d (SN_SENT_TIMEOUT j) 15 0
  if !rbit d SN_CTRL (8 + j) || us == 0 || (sentOf d j).expired ||
      decide (nowTicks d - (sentOf d j).since < 500 * us) then d
  else
    let now := nowNs d
    let d := setSent j { sentOf d j with expired := true } d
    let d := forEach (routedEntries d 2 j ++ routedEntries d 3 j) (fun n d => invalidateInput n now d) d
    d |> setBit (SN_SENT_STATUS j) 4 true |> raiseFault 71 [] [] 0

/-! SPI masters (11 R327 to R329). -/

/-- SPI master `m`. -/
def spiOf (d : Device) (m : Nat) : SpiRun := tabGet {} d.sense.spi m
/-- Replace SPI master `m`. -/
def setSpi (m : Nat) (v : SpiRun) (d : Device) : Device := { d with sense := { d.sense with spi := tabPut m v d.sense.spi } }

/-- Bytes of transfer `t` of master `m`. -/
def spiLen (d : Device) (m t : Nat) : Nat := fld d (SN_SPI_XFER m t) 25 21 + 1

/-- Is SPIm_CS_N[i] asserted (low)? -/
def spiSelected (d : Device) (m i : Nat) : Bool := (spiOf d m).cs == some i

/-- The level of SPIm_SCLK between transfers: CPOL (11 R327). -/
def spiIdleLevel (d : Device) (m : Nat) : Bool := rbit d (SN_SPI_CFG m) 1

/-- Does the master sample SPIm_MISO on rising edges of SCLK (SPI modes 0 and 3)? -/
def spiSamplesRising (d : Device) (m : Nat) : Bool := rbit d (SN_SPI_CFG m) 1 == rbit d (SN_SPI_CFG m) 0

/-- The SCLK period in ns: 200 MHz / (2 (DIV + 1)) (11 R327). -/
def spiPeriodNs (d : Device) (m : Nat) : Nat := 10 * (fld d (SN_SPI_CFG m) 15 8 + 1)

/-- From the assertion of CS_N to its release, in ns: one period before the first edge, one after the last (11 R327). -/
def spiTransferNs (d : Device) (m t : Nat) : Nat := (8 * spiLen d m t + 2) * spiPeriodNs d m

/-- An idle master starts its lowest waiting transfer, with the chip select its slot names. -/
def spiNext (m : Nat) (d : Device) : Device :=
  let r := spiOf d m
  match r.running, r.waiting with
  | none, t :: rest =>
    setSpi m { running := some t, waiting := rest, cs := some (fld d (SN_SPI_XFER m t) 30 30)
               mosi := ((List.range 8).flatMap (fun w => leBytes 4 (rd d (SN_SPI_TX m t w)))).take (spiLen d m t) } d
  | _, _ => d

/-- The trigger of transfer `t` of master `m`: it starts, waits, or is dropped and counted (11 R328). -/
def spiStart (m t : Nat) (d : Device) : Device :=
  let r := spiOf d m
  if !rbit d SN_CTRL (16 + m) || !rbit d (SN_SPI_XFER m t) 31 then d
  else if r.running == some t || r.waiting.contains t then countUp (SN_SPI_DROP m) d
  else d |> setSpi m { r with waiting := insertSorted (fun a b => decide (a ≤ b)) t r.waiting } |> spiNext m

/-- SPI_TRIGGER of transfer `t` of master `m`: a rising edge of SPIm_DRDY, on which a slot with TRIG = 1 starts. The other
triggers are the sub-period boundary, the TT_OUT pulse and the end of transfer t - 1 themselves (Assumption 91). -/
def spiTrigger (m t : Nat) (d : Device) : Device :=
  if fld d (SN_SPI_XFER (m % 4) (t % 4)) 29 28 == 1 then spiStart (m % 4) (t % 4) d else d

/-- A trigger of kind `kind` (the code of TRIG; for kind 2 a pulse of TT_OUT pin `tt`) reaches the transfer slots that it
starts, of every master in ascending slot order (11 R328). -/
def spiTriggers (kind tt : Nat) (d : Device) : Device :=
  forEach ((List.range 16).filter (fun i => fld d (SN_SPI_XFER (i / 4) (i % 4)) 29 28 == kind &&
      (kind != 2 || fld d (SN_SPI_XFER (i / 4) (i % 4)) 27 26 == tt)))
    (fun i d => spiStart (i / 4) (i % 4) d) d

/-- A Cloche sub-period boundary occurs, and starts what it triggers (10 R296, 11 R322, R328). -/
def boundarySamples (d : Device) : Device := d |> subPeriodBoundary |> adcTriggers 1 0 |> spiTriggers 0 0

/-- A pulse of TT_OUT pin `n` starts what it triggers (11 R322, R328). -/
def pulseSamples (n : Nat) (d : Device) : Device := d |> adcTriggers 2 n |> spiTriggers 2 n

/-- Does field `f` of master `m` end within its transfer (11 Table 11.8)? -/
def spiFieldFits (d : Device) (m v : Nat) : Bool :=
  decide (fieldOf v 13 9 + fieldOf v 1 0 + 1 ≤ spiLen d m (fieldOf v 15 14))

/-- Raw value of a field of the bytes shifted in (11 R329). -/
def spiField (v : Nat) (rx : List Byte) : Int :=
  let bs := sliceBytes rx (fieldOf v 13 9) (fieldOf v 1 0 + 1)
  let x := if bitOf v 8 then beNat bs else leNat bs
  if bitOf v 7 then signedOf (8 * (fieldOf v 1 0 + 1)) x else signedOf 32 x

/-- SPI_TRANSFER_COMPLETE of master `m` with the bytes shifted in (11 R329). A checked byte beyond the transfer is free
(Assumption 7). -/
def spiComplete (m : Nat) (rx : List Byte) (d : Device) : Device :=
  let m := m % 4
  match (spiOf d m).running with
  | none => d
  | some t =>
    let now := nowNs d
    let x := SN_SPI_XFER m t
    let rx := sliceBytes rx 0 (spiLen d m t)
    let mask := fld d x 15 8
    let stat := if fld d x 20 16 < spiLen d m t then leField rx (fld d x 20 16) 1 else freeBelow d 256
    let failed := mask != 0 && stat &&& mask != fld d x 7 0
    let d := nextFree d
    let fields := (List.range 16).filter (fun f => rbit d (SN_SPI_FIELD m f) 31 && fld d (SN_SPI_FIELD m f) 15 14 == t &&
      spiFieldFits d m (rd d (SN_SPI_FIELD m f)))
    let d := forEach fields (fun f d =>
      let raw := spiField (rd d (SN_SPI_FIELD m f)) rx
      d |> wr (SN_SPI_VAL m f) (patternOf 32 raw) |> deliver 5 (m * 16 + f) raw (!failed) now) d
    let d := if failed then d |> countUp (SN_SPI_ERR m) |> raiseFault 71 [] [] 0 else d
    let d := setSpi m { spiOf d m with running := none, mosi := [], cs := none } d
    let d := if t < 3 && fld d (SN_SPI_XFER m (t + 1)) 29 28 == 3 then spiStart m (t + 1) d else d
    spiNext m d

/-! Capture inputs (11 R330, R331). -/

/-- Capture input `c`. -/
def capOf (d : Device) (c : Nat) : CapRun := tabGet {} d.sense.cap c
/-- Replace capture input `c`. -/
def setCap (c : Nat) (v : CapRun) (d : Device) : Device := { d with sense := { d.sense with cap := tabPut c v d.sense.cap } }

/-- Does an edge that follows `level` ns of the opposite level qualify under EDGE and FILT (11 R330, 13 R367)? -/
def edgeQualifies (edge filt : Nat) (rising : Bool) (level : Nat) : Bool :=
  (edge == 2 || (edge == 0 && rising) || (edge == 1 && !rising)) && decide (filt * 10 ≤ level)

/-- The frequency in mHz of a period; where it is no signed 32-bit value the spec states none, and it is free. -/
def capFrequency (d : Device) (period : Nat) : Int :=
  if period == 0 || decide (2 ^ 31 ≤ 10 ^ 12 / period) then signedOf 32 (freeBelow d (2 ^ 32)) else (10 ^ 12 / period : Nat)

/-- CAPTURE_EDGE of input `c` after `level` ns of the opposite level (11 R330). -/
def captureEdge (c : Nat) (rising : Bool) (level : Nat) (d : Device) : Device :=
  let c := c % 8
  let cfg := SN_CAP_CFG c
  if !rbit d SN_CTRL (24 + c) || !edgeQualifies (fld d cfg 1 0) (fld d cfg 31 24) rising level then d else
  let now := nowNs d
  let prev := (capOf d c).prev
  let count := (rd d (SN_CAP_COUNT c) + 1) % 2 ^ 32
  let d := setCap c { prev := some now, since := some (nowTicks d) } d
  let d := match prev with
    | none => d
    | some p =>
      let period := min ((now + 2 ^ 32 - p) % 2 ^ 32) 0x7FFFFFFF
      d |> wr (SN_CAP_PERIOD c) period |> deliver 6 c period true now |> deliver 7 c (capFrequency d period) true now
        |> nextFree
  d |> wr (SN_CAP_COUNT c) count |> deliver 8 c (signedOf 32 count) true now

/-- CAPTURE_TIMEOUT of input `c`, once TIMEOUT_MS has passed since its latest edge (11 R331). -/
def captureTimeout (c : Nat) (d : Device) : Device :=
  let c := c % 8
  match (capOf d c).since with
  | none => d
  | some s =>
    if !rbit d SN_CTRL (24 + c) || decide (nowTicks d - s < 500000 * fld d (SN_CAP_CFG c) 23 8) then d
    else
      let now := nowNs d
      d |> setCap c {} |> wr (SN_CAP_PERIOD c) 0x7FFFFFFF
        |> deliver 6 c 0x7FFFFFFF true now |> deliver 7 c 0 true now

/-- A counter step invalidates the intervals in progress (11 R331, 13 R360). -/
def dropIntervals (d : Device) : Device :=
  { d with sense := { d.sense with cap := d.sense.cap.map (fun (e : Nat × CapRun) => (e.1, { e.2 with prev := none })) } }

/-! Register writes (11 R332). -/

/-- A write of SN_CTRL: an enabled receiver and capture input begin anew, a disabled unit stops. -/
def senseControl (v : Nat) (d : Device) : Device :=
  let old := rd d SN_CTRL
  let d := storedWrite SN_CTRL v d
  let rises := fun i => bitOf (rd d SN_CTRL) i && !bitOf old i
  let d := forEach ((List.range 2).filter (fun a => !rbit d SN_CTRL a)) (fun a d => setAdc a {} d) d
  let d := forEach ((List.range 4).filter (fun m => !rbit d SN_CTRL (16 + m))) (fun m d => setSpi m {} d) d
  let d := forEach ((List.range 8).filter (fun j => rises (8 + j))) (fun j d => setSent j { since := nowTicks d } d) d
  forEach ((List.range 8).filter (fun c => rises (24 + c))) (fun c d => d |> setCap c {} |> wr (SN_CAP_COUNT c) 0) d

/-- A field that the write refuses keeps its value and CFG_ERR is set (11 Tables 11.6 to 11.9). -/
def senseRefuse (off v hi lo bad : Nat) (d : Device) : Device :=
  if fieldOf v hi lo == bad then d |> storedWrite off (putField v hi lo (fld d off hi lo)) |> senseError
  else storedWrite off v d

/-- A host write to a register of the sensing front end. -/
def senseWrite (off v : Nat) (d : Device) : Device :=
  if off == SN_CTRL then senseControl v d
  else match (List.range 128).find? (fun n => SN_ROUTE n == off) with
  | some n => routeWrite n v d
  | none =>
  match (List.range 2).find? (fun a => SN_ADC_CFG a == off) with
  | some _ => senseRefuse off v 1 0 3 d
  | none =>
  match (List.range 8).find? (fun j => SN_SENT_CFG j == off) with
  | some j =>
    let dn := if fieldOf v 13 11 == 0 || fieldOf v 13 11 == 7 then fld d (SN_SENT_CFG j) 13 11 else fieldOf v 13 11
    senseRefuse off (if fieldOf v 16 14 ≤ dn then v else putField v 16 14 (fld d off 16 14)) 21 20 3 d
  | none =>
  match (List.range 8).find? (fun c => SN_CAP_CFG c == off) with
  | some _ => senseRefuse off v 1 0 3 d
  | none =>
  match (List.range 4).find? (fun m => SN_SPI_XFER m 0 == off) with
  | some _ => storedWrite off (if fieldOf v 29 28 == 3 then putField v 29 28 (fld d off 29 28) else v) d
  | none =>
  match (List.range 64).find? (fun k => SN_SPI_FIELD (k / 16) (k % 16) == off) with
  | some k => if spiFieldFits d (k / 16) v then storedWrite off v d else senseError d
  | none => storedWrite off v d

end Sys2Proof.Machine
end

