-- ==== Sys2Proof/Machine/Clock.lean ====
section
/-! DEFINITION. The Clocktower: counter, base, servo, time-triggered outputs, captures, PPS (13 R357 to R370). -/
namespace Sys2Proof.Machine

/-- Change the Clocktower's state beside its registers. -/
def modTower (f : Tower → Tower) (d : Device) : Device := { d with tower := f d.tower }

/-! The counter (13 R357, R358). -/

/-- ADJ before its clamp (13 R357). -/
def rawAdj (d : Device) : Int := signedOf 32 (rd d CT_FREQ_ADJ) + d.tower.servoC

/-- ADJ (13 R357). -/
def adjOf (d : Device) : Int := clampInt (-8589934) 8589934 (rawAdj d)

/-- INCR (13 R357). -/
def incrOf (d : Device) : Nat := ((0x200000000 : Int) + adjOf d).toNat

/-- {NS, FRAC} as one 64-bit value. -/
def counterOf (d : Device) : Nat := rd d CT_NS * 2 ^ 32 + rd d CT_FRAC

/-- The stretches that reach back 2^24 ticks before `now`. -/
def keepRuns (now : Nat) : List CounterRun → List CounterRun
  | [] => []
  | r :: rs => if r.tick + 2 ^ 24 ≤ now then [r] else r :: keepRuns now rs

/-- The counter's course is kept: a stretch begins where the counter leaves the one before. -/
def logCounter (d : Device) : Device :=
  let r : CounterRun := { tick := nowTicks d, counter := counterOf d, incr := incrOf d }
  let on := match d.tower.runs with
    | x :: _ => x.incr == r.incr && decide (x.tick ≤ r.tick) && (x.counter + x.incr * (r.tick - x.tick)) % 2 ^ 64 == r.counter
    | [] => false
  modTower (fun t => { t with runs := keepRuns r.tick (if on then t.runs else r :: t.runs) }) d

/-- The counter as it stood at tick `t`; before the oldest stretch kept, as its present increment gives it. -/
def counterAt (d : Device) (t : Nat) : Nat :=
  if nowTicks d ≤ t then counterOf d else
  match d.tower.runs.find? (fun r => decide (r.tick ≤ t)) with
  | some r => (r.counter + r.incr * (t - r.tick)) % 2 ^ 64
  | none => (counterOf d + 2 ^ 64 - incrOf d * (nowTicks d - t) % 2 ^ 64) % 2 ^ 64

/-- Does the next tick wrap NS? -/
def wrapsNext (d : Device) : Bool := decide (2 ^ 64 ≤ counterOf d + incrOf d)

/-- Nanoseconds of a base as one count. -/
def baseNs (b : PtpBase) : Nat := b.sec * 10 ^ 9 + b.ns

/-- A base from a count of nanoseconds, seconds modulo 2^48. -/
def baseOfNs (n : Nat) : PtpBase := { sec := n / 10 ^ 9 % 2 ^ 48, ns := n % 10 ^ 9 }

/-- The base changes over at a wrap, or goes stale (13 R363). -/
def changeBase (d : Device) : Device :=
  if rbit d CT_STATUS 1 then d |> modTower (fun t => { t with cur := t.next }) |> setBit CT_STATUS 1 false
  else if rbit d CT_STATUS 2 then d
  else d |> setBit CT_STATUS 2 true |> raiseFault 61 [] [] 2

/-- NS wraps forward (13 R358, R363). -/
def wrapForward (d : Device) : Device := d |> addWrap CT_WRAPS 1 |> setBit CT_STATUS 0 true |> changeBase

/-- NS wraps backward by a step (13 R360). -/
def wrapBackward (d : Device) : Device :=
  d |> addWrap CT_WRAPS (2 ^ 32 - 1)
    |> modTower (fun t => { t with cur := baseOfNs (baseNs t.cur + 2 ^ 48 * 10 ^ 9 - 2 ^ 32) })

/-- A step is added to the extended local time (13 R360). -/
def applyStep (s : Int) (d : Device) : Device :=
  let ns : Int := (rd d CT_NS : Nat) + s
  let d := wr CT_NS (patternOf 32 ns) d
  let d := if ns < 0 then wrapBackward d else if 2 ^ 32 ≤ ns then wrapForward d else d
  d |> countUp CT_STEP_COUNT |> setBit CT_STATUS 3 true |> dropIntervals

/-- A servo offset is applied (13 R365). CT_SERVO_C shows SERVO_C where it is a signed 32-bit value. -/
def applyOffset (x : Int) (d : Device) : Device :=
  let kp : Int := (fld d CT_SERVO_GAIN 15 0 : Nat)
  let ki : Int := (fld d CT_SERVO_GAIN 31 16 : Nat)
  let i := clampInt (-(2 ^ 47)) (2 ^ 47 - 1) (d.tower.servoI + ki * x)
  let c := -((kp * x + i) / 256)
  let d := modTower (fun t => { t with servoI := i, servoC := c }) d
  if c < -(2 ^ 31) || 2 ^ 31 ≤ c then d |> wr CT_SERVO_C (freeBelow d (2 ^ 32)) |> nextFree
  else wr CT_SERVO_C (patternOf 32 c) d

/-- A pending LOAD_NOW copies NEXT into CUR (13 R363). -/
def applyLoad (d : Device) : Device :=
  if d.tower.loadDue then
    d |> modTower (fun t => { t with cur := t.next, loadDue := false }) |> setBit CT_STATUS 1 false |> setBit CT_STATUS 2 false
  else d

/-- The two copies of the counter are compared: a mismatch raises source 61 (13 R369). -/
def compareCopies (d : Device) : Device :=
  if d.tower.copyDiff == 0 || d.tower.copyTold then d
  else d |> modTower (fun t => { t with copyTold := true }) |> raiseFault 61 [] [] 1

/-- One CTW tick of 2 ns: the comparison of the copies, the increment, a wrap, then the writes that wait for the tick (13 R357 to R365). -/
def towerTick (d : Device) : Device :=
  let d := d |> compareCopies |> logCounter
  let total := counterOf d + incrOf d
  let d := applyIf (adjOf d != rawAdj d) (setBit CT_STATUS 4 true) d
  let wrap := decide (2 ^ 64 ≤ total)
  let d := d |> wr CT_NS (total / 2 ^ 32 % 2 ^ 32) |> wr CT_FRAC (total % 2 ^ 32) |> applyIf wrap wrapForward
  let steps := d.tower.steps
  let offsets := d.tower.offsets
  let d := modTower (fun t => { t with steps := [], offsets := [] }) d
  d |> forEach steps applyStep |> applyLoad |> forEach offsets applyOffset

/-- A beat begins: a Strict step whose first beat it is carries STRICT_LOST while an emergency persists (05 R156). -/
def beatBegins (d : Device) : Device :=
  if alertPersists d then
    forEach (d.comp.steps.filter (fun s => s.2.started && s.2.firstBeat == d.clock.beat)) (fun s => loseStrict s.1) d
  else d

/-- Time passes by one CTW tick; a beat is 20 ticks (01 R25, 05 R133). While SYSCLK_25 is absent nothing counts. -/
def clockTick (d : Device) : Device :=
  if d.belv.sysclkLost then d else
  let d := towerTick d
  if 19 ≤ d.clock.tick then beatBegins { d with clock := { d.clock with beat := (d.clock.beat + 1) % 2 ^ 64, tick := 0 } }
  else { d with clock := { d.clock with tick := d.clock.tick + 1 } }

/-- NS_WRAP (13 R358): the tick at which NS wraps. -/
def nsWrap (d : Device) : Device := if wrapsNext d then clockTick d else d

/-! The base (13 R362 to R364). -/

/-- COUNTER_STEP: a write of CT_STEP, applied at the next tick. -/
def counterStep (v : Nat) (d : Device) : Device := modTower (fun t => { t with steps := t.steps ++ [signedOf 32 v] }) d

/-- NEXT_BASE_COMMIT: a write of CT_NEXT_SEC_HI (13 R362, R364). -/
def nextBaseCommit (v : Nat) (d : Device) : Device :=
  let d := wr CT_NEXT_SEC_HI (fieldOf v 15 0) d
  if rd d CT_NEXT_NS < 10 ^ 9 then
    d |> modTower (fun t => { t with next := { sec := rd d CT_NEXT_SEC_LO + fieldOf v 15 0 * 2 ^ 32, ns := rd d CT_NEXT_NS } })
      |> setBit CT_STATUS 1 true
  else setBit CT_STATUS 6 true d

/-- LOAD_NOW (13 R363): copied at the next tick, ignored while NEXT_VALID is 0. -/
def loadNow (d : Device) : Device := if rbit d CT_STATUS 1 then modTower (fun t => { t with loadDue := true }) d else d

/-- The PTP time of an event at NS with a latency: seconds and nanoseconds (13 R364). -/
def ptpTime (d : Device) (ns latency : Nat) : Nat × Nat :=
  let n := d.tower.cur.ns + ns + latency
  ((d.tower.cur.sec + n / 10 ^ 9) % 2 ^ 48, n % 10 ^ 9)

/-! The servo (13 R365). -/

/-- An offset arrives at the servo: accepted for the next tick, or rejected. -/
def servoArrive (x : Int) (d : Device) : Device :=
  if rbit d CT_SERVO_CTRL 0 && decide (x.natAbs ≤ rd d CT_SERVO_LIMIT) then
    modTower (fun t => { t with offsets := t.offsets ++ [x] }) d
  else setBit CT_STATUS 5 true d

/-- SERVO_OFFSET: a write of CT_SERVO_OFS; with CT_SERVO_SRC = 1 the PPS measurement feeds the servo instead. -/
def servoOffset (v : Nat) (d : Device) : Device := if rbit d CT_SERVO_CTRL 2 then d else servoArrive (signedOf 32 v) d

/-- SERVO_RESET: I and SERVO_C become zero. -/
def servoReset (d : Device) : Device := d |> modTower (fun t => { t with servoI := 0, servoC := 0 }) |> wr CT_SERVO_C 0

/-! PPS (13 R368). -/

/-- PPS_EDGE: the stamp, the offset, the servo. -/
def ppsEdge (d : Device) : Device :=
  let p : Nat := (d.tower.cur.ns + nowNs d) % 1000000000
  let x : Int := if p < 500000000 then p else (p : Int) - 1000000000
  let d := d |> wr CT_PPS_NS (nowNs d) |> wr CT_PPS_FRAC (rd d CT_FRAC) |> wr CT_PPS_OFS (patternOf 32 x)
    |> setBit CT_STATUS 7 false |> modTower (fun t => { t with ppsSince := d.clock.beat })
  if rbit d CT_SERVO_CTRL 2 then servoArrive x d else d

/-- PPS_LOST: 1.5 s, 37,500,000 beats, without an edge. -/
def ppsLost (d : Device) : Device :=
  if rbit d CT_CTRL 1 && !rbit d CT_STATUS 7 && decide (37500000 ≤ d.clock.beat - d.tower.ppsSince) then
    d |> setBit CT_STATUS 7 true |> raiseFault 61 [] [] 3
  else d

/-! Time-triggered outputs (13 R366). -/

/-- Output TT_OUT `n`. -/
def ttOf (d : Device) (n : Nat) : TtOut := tabGet {} d.tower.out n
/-- Replace output TT_OUT `n`. -/
def setTt (n : Nat) (v : TtOut) (d : Device) : Device := modTower (fun t => { t with out := tabPut n v t.out }) d

/-- PERIOD and WIDTH within the limits of R366. -/
def ttLimitsOk (d : Device) (n : Nat) : Bool :=
  let p := rd d (CT_TT_PERIOD n)
  let w := rd d (CT_TT_WIDTH n)
  (p == 0 || (decide (1000 ≤ p) && decide (p < 2 ^ 31))) && decide (8 ≤ w) && (p == 0 || decide (w + 8 ≤ p))

/-- TT_OUT_ENABLE: a write of CT_TT_CFG_n. -/
def ttConfigWrite (n v : Nat) (d : Device) : Device :=
  let n := n % 4
  let on := rbit d (CT_TT_CFG n) 31
  let d := d |> storedWrite (CT_TT_CFG n) (putBit v 31 on)
  if bitOf v 31 && !on then
    if ttLimitsOk d n then
      d |> setBit (CT_TT_CFG n) 31 true |> setTt n { ttOf d n with next := some (rd d (CT_TT_START n)) }
    else setBit CT_STATUS 6 true d
  else if !bitOf v 31 && on then d |> setBit (CT_TT_CFG n) 31 false |> setTt n { ttOf d n with next := none }
  else d

/-- The next edge of output `n` is due: (NS - next) as a signed value is at least zero. -/
def ttEdgeDue (d : Device) (n : Nat) : Bool :=
  match (ttOf d n).next with
  | some t => rbit d (CT_TT_CFG n) 31 && decide (0 ≤ passedBy (nowNs d) t)
  | none => false

/-- An edge of output `n`: the pin asserts, the next edge advances by PERIOD, missed edges are skipped and counted. -/
def ttEdge (n : Nat) (d : Device) : Device :=
  match (ttOf d n).next with
  | none => d
  | some t =>
    let p := rd d (CT_TT_PERIOD n)
    if p == 0 then setTt n { next := none, since := some (nowTicks d) } d
    else
      let late := passedBy (nowNs d) (t + p)
      let missed := if late < 0 then 0 else late.toNat / p + 1
      d |> countBy (CT_TT_MISS n) missed |> setTt n { next := some ((t + p + missed * p) % 2 ^ 32), since := some (nowTicks d) }

/-- TT_OUT_PULSE_END of output `n`, WIDTH ns after its edge; a one-shot output is then disabled. -/
def ttPulseEnd (n : Nat) (d : Device) : Device :=
  let n := n % 4
  match (ttOf d n).since with
  | none => d
  | some s =>
    if (nowTicks d - s) * 2 < rd d (CT_TT_WIDTH n) then d
    else
      d |> setTt n { ttOf d n with since := none }
        |> applyIf (rd d (CT_TT_PERIOD n) == 0 && (ttOf d n).next.isNone) (setBit (CT_TT_CFG n) 31 false)

/-- The level of pin TT_OUT `n`: high in a pulse and low between pulses at POL = 0 (18 Table 18.4), the other way round at
POL = 1; inactive while the pins are gated (14 Table 14.3, 18 R478). -/
def ttLevel (d : Device) (n : Nat) : Bool :=
  ((ttOf d n).since.isSome && !d.belv.canGate) != rbit d (CT_TT_CFG n) 30

/-! Captures (13 R367). -/

/-- TT_CAPTURE: an edge of TT_CAPn after `level` ns of the opposite level. -/
def ttCapture (n : Nat) (rising : Bool) (level : Nat) (d : Device) : Device :=
  let n := n % 4
  let cfg := CT_CAP_CFG n
  if !edgeQualifies (fld d cfg 1 0) (fld d cfg 9 2) rising level then d
  else if rbit d (CT_CAP_STAT n) 31 then setFld (CT_CAP_STAT n) 15 0 (min 65535 (fld d (CT_CAP_STAT n) 15 0 + 1)) d
  else d |> wr (CT_CAP_NS n) (nowNs d) |> wr (CT_CAP_FRAC n) (rd d CT_FRAC) |> setBit (CT_CAP_STAT n) 31 true

/-! Register writes (13 R379). -/

/-- A write of CT_CTRL. -/
def towerControl (v : Nat) (d : Device) : Device :=
  let rise := bitOf v 1 && !rbit d CT_CTRL 1
  d |> storedWrite CT_CTRL (putBit v 0 false) |> applyIf rise (modTower (fun t => { t with ppsSince := d.clock.beat }))
    |> applyIf (bitOf v 0) loadNow

/-- A write of CT_SERVO_CTRL. -/
def servoControl (v : Nat) (d : Device) : Device :=
  d |> storedWrite CT_SERVO_CTRL (putBit v 1 false) |> applyIf (bitOf v 1) servoReset

/-- A host write to a Clocktower register. -/
def towerWrite (off v : Nat) (d : Device) : Device :=
  if off == CT_CTRL then towerControl v d
  else if off == CT_STEP then counterStep v d
  else if off == CT_NEXT_SEC_HI then nextBaseCommit v d
  else if off == CT_SERVO_CTRL then servoControl v d
  else if off == CT_SERVO_OFS then servoOffset v d
  else match (List.range 4).find? (fun n => CT_TT_CFG n == off) with
  | some n => ttConfigWrite n v d
  | none =>
  match (List.range 4).find? (fun n => CT_TT_START n == off || CT_TT_PERIOD n == off || CT_TT_WIDTH n == off) with
  | some n => if rbit d (CT_TT_CFG n) 31 then d else storedWrite off v d
  | none =>
  match (List.range 4).find? (fun n => CT_CAP_CFG n == off) with
  | some _ =>
    if fieldOf v 1 0 == 3 then d |> storedWrite off (putField v 1 0 (fld d off 1 0)) |> setBit CT_STATUS 6 true
    else storedWrite off v d
  | none =>
  match (List.range 4).find? (fun n => CT_CAP_STAT n == off) with
  | some _ => if bitOf v 31 then wr off 0 d else d
  | none => storedWrite off v d

end Sys2Proof.Machine
end

