-- ==== Sys2Proof/Machine/Can.lean ====
section
/-! DEFINITION. The CAN FD controllers and the TTCAN time master (12 R333 to R356), and the Cloche's CAN frames
(10 R312, R313). -/
namespace Sys2Proof.Machine

/-- Controller `c`. -/
def canOf (d : Device) (c : Nat) : Can := tabGet {} d.can c
/-- Change controller `c`. -/
def modCan (c : Nat) (f : Can → Can) (d : Device) : Device := { d with can := tabPut c (f (canOf d c)) d.can }

/-- The 64-bit counter at the sample point `ago` ns before now, resolved to a 5 ns cycle of the CLC domain (12 R344). -/
def canStamp (d : Device) (ago : Nat) : Nat := counterAt d ((2 * nowTicks d - ago) / 5 * 5 / 2)

/-- A nominal bit in ns (12 R335). -/
def nominalBitNs (d : Device) (c : Nat) : Nat :=
  (fld d (CAN_NBT c) 7 0 + 1) * 5 * (3 + fld d (CAN_NBT c) 24 17 + fld d (CAN_NBT c) 16 10)

/-- Does the controller, `ago` ns before now, still wait for 11 recessive bits (12 R336)? -/
def canWaits (d : Device) (c ago : Nat) : Bool :=
  match (canOf d c).waitFrom with
  | none => false
  | some t => decide (2 * nowTicks d < 2 * t + 11 * nominalBitNs d c + ago)

/-! Flags and faults (12 R353, R354). -/

/-- A CAN_IR flag is set; an enabled flag raises its vector, HP_NEW the one in HP_VECTOR (12 R353). -/
def canFlag (c b : Nat) (d : Device) : Device :=
  let d := setBit (CAN_IR c) b true d
  if !rbit d (CAN_IE c) b then d
  else if b == 6 then applyIf (rbit d (CAN_IRQ c) 27) (raiseVector (fld d (CAN_IRQ c) 26 16)) d
  else raiseIrq (CAN_IRQ c) d

/-- Source 59 is raised for controller `c` (12 R338, R351, R354). -/
def canFault (c cause : Nat) (d : Device) : Device :=
  d |> setBit CAN_FAULT c true |> raiseFault 59 [] [] (cause + c * 2 ^ 8)

/-- CAN_STATUS.CFG_ERR. -/
def canCfgError (c : Nat) (d : Device) : Device := setBit (CAN_STATUS c) 10 true d
/-- CAN_STATUS.TX_WRERR. -/
def canWriteError (c : Nat) (d : Device) : Device := setBit (CAN_STATUS c) 11 true d

/-- Errors that message RAM shows: corrected ones are counted, uncorrectable ones set RAM_ERR and raise source 59. -/
def canRamErrors (c : Nat) (bads : List Nat) (corrected : Nat) (d : Device) : Device :=
  let d := countBy (CAN_ECC_CORR c) corrected d
  forEach bads (fun w d => d |> modCan c (fun k => { k with badWords := w :: k.badWords.filter (· != w) })
    |> setBit (CAN_STATUS c) 9 true |> canFlag c 18 |> canFault c 3) d

/-! Error counters (as ISO 11898-1 defines them, Assumption 41). -/

/-- The error counters take values: CAN_ERRCNT, ERR_WARN and ERR_PASSIVE follow. -/
def canCounters (c tec rec : Nat) (d : Device) : Device :=
  let d := modCan c (fun k => { k with txErr := tec, rxErr := rec }) d
  let d := wr (CAN_ERRCNT c) (min 255 tec + min 127 rec * 2 ^ 8 + (if 128 ≤ rec then 2 ^ 15 else 0)) d
  let warn := decide (96 ≤ tec) || decide (96 ≤ rec)
  let passive := decide (128 ≤ tec) || decide (128 ≤ rec)
  let w := rbit d (CAN_STATUS c) 1
  let p := rbit d (CAN_STATUS c) 2
  d |> setBit (CAN_STATUS c) 1 warn |> setBit (CAN_STATUS c) 2 passive
    |> applyIf (w != warn) (canFlag c 10) |> applyIf (p != passive) (canFlag c 11)

/-- BUS_OFF (12 R338). -/
def canBusOff (c : Nat) (d : Device) : Device :=
  d |> setBit (CAN_STATUS c) 3 true |> setBit (CAN_STATUS c) 0 false |> countUp (CAN_BO_COUNT c)
    |> canFlag c 12 |> canFault c 1 |> modCan c (fun k => { k with recovering := rbit d (CAN_CTRL c) 4 })

/-! Elements (12 R340). -/

/-- Data bytes of a frame. -/
def canLength (f : CanFrame) : Nat :=
  if f.rtr then 0
  else if !bitOf f.id 30 then min f.dlc 8
  else [0, 1, 2, 3, 4, 5, 6, 7, 8, 12, 16, 20, 24, 32, 48, 64].getD (f.dlc % 16) 64

/-- The DLC of a CAN FD length. -/
def canDlc (len : Nat) : Nat :=
  ([12, 16, 20, 24, 32, 48, 64].findIdx? (fun n => decide (len ≤ n))).elim 15 (fun i => if len ≤ 8 then len else i + 9)

/-- First word of transmit buffer `b` in message RAM. -/
def txWord (b : Nat) : Nat := 0x620 + 20 * b

/-- An element is written at word `w` of message RAM, whole, over any error there. -/
def putElement (c w id ctrl ns frac : Nat) (data : List Byte) (d : Device) : Device :=
  let words := [id, ctrl, ns, frac] ++ (List.range 16).map (fun i => leField data (4 * i) 4)
  let d := modCan c (fun k => { k with badWords := k.badWords.filter (fun b => b < w / 2 || w / 2 + 10 ≤ b) }) d
  forEach words.zipIdx (fun (x : Nat × Nat) d => wr (CAN_RAM c (w + x.2)) x.1 d) d

/-- The frame of transmit buffer `b`; a CAN FD frame shows in ESI whether its sender is error passive (12 Table 12.1, by
ISO 11898-1). -/
def txFrame (d : Device) (c b : Nat) : CanFrame :=
  let w := fun i => rd d (CAN_RAM c (txWord b + i))
  let passive := decide (128 ≤ (canOf d c).txErr) || decide (128 ≤ (canOf d c).rxErr)
  let f : CanFrame := { id := w 0, dlc := fieldOf (w 1) 3 0, rtr := bitOf (w 1) 4, esi := bitOf (w 0) 30 && passive }
  { f with data := ((List.range 16).flatMap (fun i => leBytes 4 (w (4 + i)))).take (canLength f) }

/-- The check of an element when its request is set (12 R345). -/
def txElementOk (d : Device) (c b : Nat) : Bool :=
  let w := fun i => rd d (CAN_RAM c (txWord b + i))
  !(bitOf (w 1) 4 && bitOf (w 0) 30) && !(bitOf (w 0) 29 && !bitOf (w 0) 30) && decide (w 1 < 32) && w 2 == 0 && w 3 == 0 &&
    (bitOf (w 0) 31 || fieldOf (w 0) 28 11 == 0)

/-! Transmit buffers (12 R345 to R347). -/

/-- STATE of buffer `b`. -/
def txState (d : Device) (c b : Nat) : Nat := fld d (CAN_TXB_STAT c b) 2 0

/-- Buffer `b` takes a state; CAN_TXREQ shows the pending requests; an end raises TX_DONE or TX_FAIL. -/
def setTxState (c b v : Nat) (d : Device) : Device :=
  d |> setFld (CAN_TXB_STAT c b) 2 0 v |> setBit (CAN_TXREQ c) b (v == 1 || v == 2)
    |> applyIf (v == 3) (canFlag c 8) |> applyIf (v == 4 || v == 5) (canFlag c 9)

/-- Buffer `b` belongs to the Cloche. -/
def clocheOwns (d : Device) (c b : Nat) : Bool := rbit d (CAN_TX_CFG c) (4 + b)

/-- Buffer `b` has a pending request. -/
def txPending (d : Device) (c b : Nat) : Bool := rbit d (CAN_TXREQ c) b

/-- A request is set: the element is checked (12 R345). -/
def requestBuffer (c b : Nat) (d : Device) : Device :=
  if txPending d c b then d
  else if txElementOk d c b then setTxState c b 1 d else setTxState c b 6 d

/-- TX_REQUEST: a host write of CAN_TXREQ. -/
def txRequest (c v : Nat) (d : Device) : Device :=
  forEach (bitsSet v 3) (fun b d => if clocheOwns d c b then canWriteError c d else requestBuffer c b d) d

/-- TX_CANCEL: a host write of CAN_TXCANCEL (12 R347). -/
def txCancel (c v : Nat) (d : Device) : Device :=
  forEach (bitsSet v 3) (fun b d =>
    if clocheOwns d c b then canWriteError c d
    else if txState d c b == 1 then setTxState c b 5 d
    else if txState d c b == 2 then modCan c (fun k => { k with cancelling := b :: k.cancelling.filter (· != b) }) d
    else d) d

/-- A Cloche frame is written to its buffer and requested (10 R312). -/
def writeClocheFrame (f : ClocheFrame) (d : Device) : Device :=
  d |> putElement f.dest (txWord f.buf) f.canId (canDlc f.bytes.length) 0 0 f.bytes
    |> setTxState f.dest f.buf 0 |> requestBuffer f.dest f.buf

/-- FRAME_DELIVERY of a CAN frame (10 R313): it replaces a frame not yet in arbitration, and waits for one on the bus. -/
def deliverCan (f : ClocheFrame) (d : Device) : Device :=
  let key := f.dest * 4 + f.buf
  if txState d f.dest f.buf == 2 then
    let d := applyIf (tabFind key d.cloche.waiting).isSome (countUp CL_TX_REPLACED) d
    { d with cloche := { d.cloche with waiting := tabPut key f d.cloche.waiting } }
  else d |> applyIf (txState d f.dest f.buf == 1) (countUp CL_TX_REPLACED) |> writeClocheFrame f

/-- The frame that waited for the end of the attempt of buffer `b` is written. -/
def writeWaiting (c b : Nat) (d : Device) : Device :=
  match tabFind (c * 4 + b) d.cloche.waiting with
  | none => d
  | some f => writeClocheFrame f { d with cloche := { d.cloche with waiting := tabErase (c * 4 + b) d.cloche.waiting } }

/-! Reception (12 R341 to R344). -/

/-- Does filter `i` match an identifier word (12 R341)? -/
def filterMatches (d : Device) (c i id : Nat) : Bool :=
  let w0 := rd d (CAN_RAM c (2 * i))
  let w1 := rd d (CAN_RAM c (2 * i + 1))
  let top := if bitOf w0 29 then 28 else 10
  let x := fieldOf id 28 0
  let key := fieldOf w0 top 0
  let arg := fieldOf w1 top 0
  fieldOf w0 31 30 != 0 && bitOf w0 29 == bitOf id 31 && !(canOf d c).badWords.contains i &&
    (match fieldOf w0 31 30 with
     | 1 => (x ^^^ key) &&& arg == 0
     | 2 => decide (key ≤ x) && decide (x ≤ arg)
     | _ => x == key || x == arg)

/-- CTRL word of a received element (12 Table 12.4). -/
def rxCtrl (f : CanFrame) (filter : Nat) (dflt diverted : Bool) : Nat :=
  f.dlc % 16 + (if f.rtr then 16 else 0) + (if f.esi then 32 else 0) + filter * 2 ^ 8 + (if dflt then 2 ^ 15 else 0) +
    (if diverted then 2 ^ 16 else 0)

/-- CAN_RXQn_STAT. -/
def rxqStat (c n : Nat) : Nat := if n == 0 then CAN_RXQ0_STAT c else CAN_RXQ1_STAT c

/-- A frame is stored in receive FIFO `n`, or dropped (12 R343). -/
def storeFifo (c n : Nat) (f : CanFrame) (ctrl ns frac : Nat) (d : Device) : Device :=
  let s := rxqStat c n
  let fill := fld d s 13 8
  if 32 ≤ fill then d |> setFld s 31 24 (min 255 (fld d s 31 24 + 1)) |> canFlag c (3 * n + 2)
  else
    let slot := (fld d s 4 0 + fill) % 32
    let level := if n == 0 then fld d (CAN_RX_CFG c) 13 8 else fld d (CAN_RX_CFG c) 21 16
    d |> putElement c ((if n == 0 then 0x120 else 0x3A0) + 20 * slot) f.id ctrl ns frac (f.data.take (canLength f))
      |> setFld s 13 8 (fill + 1) |> canFlag c (3 * n)
      |> applyIf (level != 0 && fill + 1 == level) (canFlag c (3 * n + 1))

/-- A frame for the high-priority buffer (12 R342). -/
def storeHighPriority (c : Nat) (f : CanFrame) (filter ns frac : Nat) (d : Device) : Device :=
  let s := CAN_HP_STATUS c
  if rbit d s 0 then
    d |> storeFifo c 0 f (rxCtrl f filter false true) ns frac |> setFld s 15 8 (min 255 (fld d s 15 8 + 1)) |> canFlag c 7
  else
    d |> putElement c 0x100 f.id (rxCtrl f filter false false) ns frac (f.data.take (canLength f))
      |> setBit s 0 true |> canFlag c 6

/-- A valid frame is filtered and stored, or discarded (12 R341). -/
def canStore (c : Nat) (f : CanFrame) (ns frac : Nat) (d : Device) : Device :=
  match (List.range 128).find? (fun i => filterMatches d c i f.id) with
  | some i =>
    let dest := fld d (CAN_RAM c (2 * i + 1)) 31 30
    if dest == 3 then d
    else if dest == 2 then storeHighPriority c f i ns frac d
    else storeFifo c dest f (rxCtrl f i false false) ns frac d
  | none =>
    let dest := fld d (CAN_RX_CFG c) 1 0
    if dest < 2 then storeFifo c dest f (rxCtrl f 0 true false) ns frac d else d

/-- Does a frame carry the reference identifier (12 R349)? -/
def isReference (d : Device) (c id : Nat) : Bool :=
  bitOf id 31 == rbit d (CAN_TT_REF_ID c) 31 && fieldOf id 28 0 == fld d (CAN_TT_REF_ID c) 28 0

/-- CAN_FRAME_RECEIVED: a valid frame whose SOF was sampled `ago` ns before; `bads` and `corrected` are what the check of
message RAM finds. A controller that still waited for 11 recessive bits at the SOF takes no part in the frame. -/
def canReceived (c : Nat) (f : CanFrame) (ago : Nat) (bads : List Nat) (corrected : Nat) (d : Device) : Device :=
  let c := c % 8
  let k := canOf d c
  if !k.running || k.mode == 3 || rbit d (CAN_STATUS c) 3 || canWaits d c ago then d else
  let stamp := canStamp d ago
  let d := d |> modCan c (fun k => { k with waitFrom := none }) |> canRamErrors c bads corrected |> setBit (CAN_STATUS c) 0 true
  let d := if k.mode == 0 && k.rxErr != 0 then
      if k.rxErr < 128 then canCounters c k.txErr (k.rxErr - 1) d
      else d |> canCounters c k.txErr (119 + freeBelow d 9) |> nextFree
    else d
  let d := if rbit d (CAN_TT_STATUS c) 0 && isReference d c f.id then d |> countUp (CAN_TT_FOREIGN c) |> canFlag c 16 else d
  canStore c f (stamp / 2 ^ 32) (stamp % 2 ^ 32) d

/-- HP_BUFFER_RELEASE: a write of CAN_HP_STATUS (12 R342). -/
def hpRelease (c v : Nat) (d : Device) : Device := applyIf (bitOf v 0) (setBit (CAN_HP_STATUS c) 0 false) d

/-- RX_FIFO_RELEASE: a write of CAN_RXQn_REL (12 R343). -/
def rxRelease (c n v : Nat) (d : Device) : Device :=
  let s := rxqStat c n
  let k := fieldOf v 5 0
  let d := setFld s 31 24 0 d
  if k == 0 || decide (fld d s 13 8 < k) then canCfgError c d
  else d |> setFld s 4 0 ((fld d s 4 0 + k) % 32) |> setFld s 13 8 (fld d s 13 8 - k)

/-! Transmission (12 R346 to R352). -/

/-- The arbitration field of a frame as a number: the lower wins on the bus. -/
def arbitration (f : CanFrame) : Nat :=
  let id := fieldOf f.id 28 0
  let rtr := if f.rtr then 1 else 0
  if bitOf f.id 31 then fieldOf id 28 18 * 2 ^ 21 + 3 * 2 ^ 19 + fieldOf id 17 0 * 2 + rtr
  else fieldOf id 10 0 * 2 ^ 21 + rtr * 2 ^ 20

/-- Nanoseconds since the latest reference mark. -/
def sinceMark (d : Device) (c : Nat) : Int := passedBy (nowNs d) (rd d (CAN_TT_MARK c))

/-- May buffer `b` begin an attempt now: on the time master, where it has a window, only within that of a basic cycle that
has its reference mark (12 R352)? -/
def windowOpen (d : Device) (c b : Nat) : Bool :=
  !rbit d (CAN_TT_STATUS c) 0 || !rbit d (CAN_TXB_WIN c b) 31 ||
    ((canOf d c).marked && (canOf d c).opened.contains b && decide (0 ≤ sinceMark d c) &&
      decide (sinceMark d c < ((fld d (CAN_TXB_WIN c b) 16 0 + fld d (CAN_TXB_WIN c b) 30 24) * 1000 : Nat)))

/-- TX_WINDOW_OPEN of buffer `b` at the reference mark plus OFFSET_US (12 R352). -/
def txWindowOpen (c b : Nat) (d : Device) : Device :=
  let c := c % 8
  if rbit d (CAN_TT_STATUS c) 0 && rbit d (CAN_TXB_WIN c (b % 3)) 31 && (canOf d c).marked &&
      decide ((fld d (CAN_TXB_WIN c (b % 3)) 16 0 * 1000 : Nat) ≤ sinceMark d c) && !(canOf d c).opened.contains (b % 3) then
    modCan c (fun k => { k with opened := k.opened ++ [b % 3] }) d
  else d

/-- The reference message of instant `k` (12 R350). -/
def referenceFrame (d : Device) (c k : Nat) : CanFrame :=
  let data := leBytes 4 (rd d (CAN_TT_DATA c 0)) ++ leBytes 4 (rd d (CAN_TT_DATA c 1))
  let dlc := fld d (CAN_TT_CFG c) 19 16
  { id := rd d (CAN_TT_REF_ID c), dlc := dlc
    data := (overlay data 0 (leBytes 1 (k % 2 ^ fld d (CAN_TT_CFG c) 2 0))).take dlc }

/-- Does the element of buffer `b` show an uncorrectable error? -/
def txElementBad (d : Device) (c b : Nat) : Bool :=
  (canOf d c).badWords.any (fun w => decide (txWord b / 2 ≤ w) && decide (w < txWord b / 2 + 10))

/-- The buffer that goes first among `bs` (12 R346). -/
def chooseBuffer (d : Device) (c : Nat) (bs : List Nat) : Option Nat :=
  if rbit d (CAN_TX_CFG c) 0 then bs.head?
  else (sortBy (fun a b => decide (arbitration (txFrame d c a) ≤ arbitration (txFrame d c b))) bs).head?

/-- An attempt begins. -/
def beginAttempt (c : Nat) (src : CanSource) (f : CanFrame) (k : Nat) (d : Device) : Device :=
  let stamp := canStamp d 0
  modCan c (fun x => { x with attempt := some {
    source := src, frame := f, stamp := stamp / 2 ^ 32, frac := stamp % 2 ^ 32, k := k } }) d

/-- TX_CHOICE at bus idle (12 R346): the next frame goes into arbitration; SOF is sampled now. In modes 1 and 2 requests
stay pending, and the idle bus ends the wait for 11 recessive bits (12 R336). -/
def txChoice (c : Nat) (bads : List Nat) (corrected : Nat) (d : Device) : Device :=
  let c := c % 8
  let k := canOf d c
  if !k.running || k.attempt.isSome || rbit d (CAN_STATUS c) 3 || canWaits d c 0 then d else
  let d := d |> modCan c (fun k => { k with waitFrom := none }) |> setBit (CAN_STATUS c) 0 true |> canRamErrors c bads corrected
  if k.mode == 1 || k.mode == 2 then d else
  match k.refDue with
  | some n => beginAttempt c .reference (referenceFrame d c n) n d
  | none =>
    let ready := (List.range 3).filter (fun b => txState d c b == 1 && windowOpen d c b)
    let d := forEach (ready.filter (txElementBad d c)) (setTxState c · 4) d
    match chooseBuffer d c (ready.filter (fun b => txState d c b == 1)) with
    | none => d
    | some b => d |> setTxState c b 2 |> beginAttempt c (.buffer b) (txFrame d c b) 0

/-- A buffer's attempt ends without success (12 R347). -/
def attemptFailed (c b : Nat) (d : Device) : Device :=
  let d := if (canOf d c).cancelling.contains b then setTxState c b 5 d
    else if rbit d (CAN_CTRL c) 5 then setTxState c b 4 d
    else setTxState c b 1 d
  if (tabFind (c * 4 + b) d.cloche.waiting).isSome then
    d |> applyIf (txState d c b == 1) (countUp CL_TX_REPLACED) |> writeWaiting c b
  else d

/-- The reference message was sent: the mark of its basic cycle (12 R350). -/
def referenceSent (c : Nat) (a : CanAttempt) (d : Device) : Device :=
  let mine := (canOf d c).refDue == some a.k
  let d := d |> wr (CAN_TT_MARK c) a.stamp |> setFld (CAN_TT_STATUS c) 21 16 (a.k % 2 ^ fld d (CAN_TT_CFG c) 2 0) |> canFlag c 14
  modCan c (fun k => { k with refDue := if mine then none else k.refDue, refMissed := 0, refRaised := false,
                              marked := mine, opened := [] }) d

/-- A buffer's frame was sent (12 R344, R347). -/
def bufferSent (c b : Nat) (a : CanAttempt) (d : Device) : Device :=
  d |> wr (CAN_TXB_STAMP c b) a.stamp |> setTxState c b 3 |> writeWaiting c b

/-- A reference message is withdrawn: it is counted, and source 59 is raised once in a run of MISS_MAX (12 R351). -/
def countWithdrawn (c : Nat) (d : Device) : Device :=
  let k := canOf d c
  let n := k.refMissed + 1
  let due := fld d (CAN_TT_CFG c) 15 8 != 0 && decide (fld d (CAN_TT_CFG c) 15 8 ≤ n) && !k.refRaised
  d |> countUp (CAN_TT_MISS c) |> canFlag c 15
    |> modCan c (fun k => { k with refMissed := n, refRaised := k.refRaised || due })
    |> applyIf due (canFault c 2)

/-- The attempt of a reference message failed: it stays requested until the next instant, and where that has passed it is
withdrawn (12 R351, Assumption 92). -/
def referenceFailed (c : Nat) (a : CanAttempt) (d : Device) : Device :=
  applyIf (rbit d (CAN_TT_STATUS c) 0 && (canOf d c).refDue != some a.k) (countWithdrawn c) d

/-- TX_END (12 R347): the attempt of controller `c` ends in success, lost arbitration or an error. -/
def txEnd (c : Nat) (out : CanEnd) (d : Device) : Device :=
  let c := c % 8
  let k := canOf d c
  match k.attempt with
  | none => d
  | some a =>
    let d := modCan c (fun k => { k with attempt := none }) d
    let d := match out with
      | .success =>
        let d := modCan c (fun k => { k with sent := k.sent ++ [a.frame] }) d
        let d := if k.mode == 0 && k.txErr != 0 then canCounters c (k.txErr - 1) k.rxErr d else d
        let d := match a.source with
          | .reference => referenceSent c a d
          | .buffer b => bufferSent c b a d
        applyIf (k.mode == 3) (canStore c a.frame a.stamp a.frac) d
      | .lost => match a.source with
        | .reference => referenceFailed c a d
        | .buffer b => attemptFailed c b d
      | .error lec =>
        let tec := if lec == 3 && decide (128 ≤ k.txErr) then k.txErr else k.txErr + 8
        let d := d |> setFld (CAN_STATUS c) 8 6 lec |> applyIf (k.mode == 0) (canCounters c tec k.rxErr)
        let d := match a.source with
          | .reference => referenceFailed c a d
          | .buffer b => attemptFailed c b d
        applyIf (k.mode == 0 && decide (256 ≤ tec)) (canBusOff c) d
    modCan c (fun k => { k with cancelling := [] }) d

/-- The controller leaves the bus until it has seen 11 recessive bits (12 R333, R336). -/
def canReintegrate (c : Nat) (d : Device) : Device :=
  d |> setBit (CAN_STATUS c) 0 false |> modCan c (fun k => { k with waitFrom := some (nowTicks d) })

/-- CAN_ERROR_DETECTED on a frame that controller `c` receives (12 R333, R336, R353). -/
def canErrorDetected (c : Nat) (e : CanRxError) (d : Device) : Device :=
  let c := c % 8
  let k := canOf d c
  if !k.running || rbit d (CAN_STATUS c) 3 then d else
  let err := fun (lec : Nat) (n : Nat) (d : Device) =>
    d |> setFld (CAN_STATUS c) 8 6 lec |> applyIf (k.mode == 0) (canCounters c k.txErr (min 136 (k.rxErr + n)))
      |> applyIf (k.mode == 1 || k.mode == 2) (canReintegrate c)
  match e with
  | .bus lec eight => err lec (if eight then 8 else 1) d
  | .resBit =>
    if rbit d (CAN_CTRL c) 6 then err 2 1 d
    else d |> setBit (CAN_STATUS c) 5 true |> canReintegrate c |> canFlag c 17

/-! Bus-off recovery (12 R338). -/

/-- BO_RESTART: the host starts recovery. -/
def boRestart (c : Nat) (d : Device) : Device :=
  if rbit d (CAN_STATUS c) 3 && !rbit d (CAN_CTRL c) 4 then modCan c (fun k => { k with recovering := true }) d else d

/-- BUS_OFF_RECOVERY_END. -/
def busOffEnd (c : Nat) (d : Device) : Device :=
  let c := c % 8
  if rbit d (CAN_STATUS c) 3 && (canOf d c).recovering then
    d |> modCan c (fun k => { k with recovering := false }) |> setBit (CAN_STATUS c) 3 false
      |> setBit (CAN_STATUS c) 0 true |> canCounters c 0 0 |> canFlag c 13
  else d

/-! Modes (12 R335, R336). -/

/-- The bit timing of controller `c` is usable (12 R335). -/
def timingOk (d : Device) (c : Nat) : Bool :=
  let n := CAN_NBT c
  let x := CAN_DBT c
  let nsj := fld d n 31 25 + 1
  let ns1 := fld d n 24 17 + 1
  let ns2 := fld d n 16 10 + 1
  let dsj := fld d x 23 20 + 1
  let ds1 := fld d x 19 15 + 1
  let ds2 := fld d x 14 11 + 1
  let nbit := nominalBitNs d c
  let dbit := (fld d x 4 0 + 1) * 5 * (1 + ds1 + ds2)
  decide (1000 ≤ nbit) && decide (nbit ≤ 8000) && decide (125 ≤ dbit) && decide (2 ≤ ns1) && decide (nsj ≤ ns2) &&
    decide (dsj ≤ ds2)

/-- A write of CAN_CTRL; CAN_ENABLE when EN rises (12 R335, R336). -/
def canControl (c v : Nat) (d : Device) : Device :=
  let on := rbit d (CAN_CTRL c) 0
  let running := (canOf d c).running
  let d := d |> storedWrite (CAN_CTRL c) (putBit (putBit v 7 false) 0 (bitOf v 0 && on))
  let d := if bitOf v 0 && !on then
      if timingOk d c then
        d |> setBit (CAN_CTRL c) 0 true |> modCan c (fun k => { k with running := true })
      else canCfgError c d
    else d
  let d := if running then d else modCan c (fun k => { k with mode := fld d (CAN_CTRL c) 3 2 }) d
  applyIf (bitOf v 7) (boRestart c) d

/-- CAN_MODE_CHANGE at bus idle: MODE and EN = 0 take effect (12 R336). -/
def canModeChange (c : Nat) (d : Device) : Device :=
  let c := c % 8
  if !(canOf d c).running || (canOf d c).attempt.isSome then d else
  let d := d |> modCan c (fun k => { k with mode := fld d (CAN_CTRL c) 3 2 })
  if rbit d (CAN_CTRL c) 0 then d
  else
    let d := d |> modCan c (fun k => { k with running := false, refDue := none }) |> setBit (CAN_STATUS c) 0 false
    forEach ((List.range 3).filter (txPending d c)) (setTxState c · 5) d

/-- CAN_TX[c] is held recessive whatever the controller drives (12 R337). -/
def canRecessive (d : Device) (c : Nat) : Bool := d.belv.canGate || !(canOf d c).running || decide (2 ≤ (canOf d c).mode)

/-! The time master (12 R349 to R351). -/

/-- A write of CAN_TT_CFG; TT_ENABLE when EN rises (12 R349, R350). -/
def ttMasterWrite (c v : Nat) (d : Device) : Device :=
  let on := rbit d (CAN_TT_CFG c) 31
  let other := rbit d CAN_TT_MASTER 3 && fld d CAN_TT_MASTER 2 0 != c
  let d := storedWrite (CAN_TT_CFG c) (putBit v 31 on) d
  if bitOf v 31 && (other || fld d (CAN_CTRL c) 3 2 != 0) then canCfgError c d
  else if bitOf v 31 && !on then
    d |> setBit (CAN_TT_CFG c) 31 true |> setBit (CAN_TT_STATUS c) 0 true |> wr CAN_TT_MASTER (8 + c)
      |> modCan c (fun k => { k with refNext := rd d (CAN_TT_START c), refK := 0, refDue := none, refMissed := 0,
                                     refRaised := false, marked := false, opened := [] })
  else if !bitOf v 31 && on then
    d |> setBit (CAN_TT_CFG c) 31 false |> setBit (CAN_TT_STATUS c) 0 false |> wr CAN_TT_MASTER 0
      |> modCan c (fun k => { k with refDue := none, marked := false, opened := [] })
  else d

/-- The outstanding reference is withdrawn at the next instant, unless it is on the bus: what becomes of that one its
TX_END shows (12 R351). -/
def withdrawReference (c : Nat) (d : Device) : Device :=
  let k := canOf d c
  if k.refDue.isNone || k.attempt.any (fun a => a.source == .reference) then d else countWithdrawn c d

/-- REFERENCE_INSTANT (12 R350, R351, 13 R361): the instant occurs once the counter has reached it. -/
def referenceInstant (c : Nat) (d : Device) : Device :=
  let c := c % 8
  let k := canOf d c
  if !rbit d (CAN_TT_STATUS c) 0 || decide (passedBy (nowNs d) k.refNext < 0) then d else
  let d := withdrawReference c d
  let t := rd d (CAN_TT_CYCLE_NS c)
  let late := passedBy (nowNs d) (k.refNext + t)
  let missed := if late < 0 then 0 else late.toNat / max 1 t + 1
  let d := countBy (CAN_TT_MISS c) missed d
  modCan c (fun x => { x with refDue := if x.running then some k.refK else none, refK := k.refK + 1 + missed,
                              refNext := (k.refNext + t + missed * t) % 2 ^ 32, marked := false, opened := [] }) d

/-! Register writes (12 R356). -/

/-- A write of CAN_TX_CFG: an owner change of a buffer with a pending request is refused (12 R345). -/
def txConfigWrite (c v : Nat) (d : Device) : Device :=
  let off := CAN_TX_CFG c
  if (List.range 3).any (fun b => txPending d c b && bitOf v (4 + b) != rbit d off (4 + b)) then
    d |> storedWrite off (putField v 6 4 (fld d off 6 4)) |> canCfgError c
  else storedWrite off v d

/-- A host write to word `w` of message RAM (12 R339, R345). -/
def canRamWrite (c w v : Nat) (d : Device) : Device :=
  let b := (w - txWord 0) / 20
  if (0x114 ≤ w ∧ w < 0x120) ∨ 0x65C ≤ w then d
  else if txWord 0 ≤ w && (clocheOwns d c b || txPending d c b) then canWriteError c d
  else d |> wr (CAN_RAM c w) v |> modCan c (fun k => { k with badWords := k.badWords.filter (· != w / 2) })

/-- A host write to a CAN register. -/
def canWrite (off v : Nat) (d : Device) : Device :=
  if 0x9480000 ≤ off then storedWrite off v d else
  let c := (off - 0x9400000) / 0x10000
  let o := off % 0x10000
  if 0x8000 ≤ o then if o < 0xA000 && o % 4 == 0 then canRamWrite c ((o - 0x8000) / 4) v d else d
  else match o with
  | 0x000 => canControl c v d
  | 0x00C => if rbit d (CAN_CTRL c) 0 then d else storedWrite off v d
  | 0x010 => if rbit d (CAN_CTRL c) 0 then d else storedWrite off v d
  | 0x020 =>
    if fieldOf v 1 0 == 2 then d |> storedWrite off (putField v 1 0 (fld d off 1 0)) |> canCfgError c else storedWrite off v d
  | 0x028 => rxRelease c 0 v d
  | 0x030 => rxRelease c 1 v d
  | 0x034 => hpRelease c v d
  | 0x038 => txConfigWrite c v d
  | 0x03C => txRequest c v d
  | 0x040 => txCancel c v d
  | 0x100 => ttMasterWrite c v d
  | _ => storedWrite off v d

end Sys2Proof.Machine
end

