-- ==== Sys2Proof/Machine/Eth.lean ====
section
/-! DEFINITION. The Ethernet MACs (13 R371 to R378), and the delivery of the Cloche's frames (10 R312, R313). -/
namespace Sys2Proof.Machine

/-- Port `p`. -/
def ethOf (d : Device) (p : Nat) : EthPort := tabGet {} d.eth p
/-- Change port `p`. -/
def modEth (p : Nat) (f : EthPort → EthPort) (d : Device) : Device := { d with eth := tabPut p (f (ethOf d p)) d.eth }

/-- The IEEE 802.3 frame check sequence of a frame. -/
def frameFcs (bs : List Byte) : Nat := bs.foldl (crcReflByte 0xEDB88320) (2 ^ 32 - 1) ^^^ (2 ^ 32 - 1)

/-- [a, a + n) is DRAM that an engine may write: outside the reserve and the enabled key-value pool (14 R393, 07 R186). -/
def openDram (d : Device) (a n : Nat) : Bool := inDram d a n && !inReserve d a n && !inKv d a n

/-! Rings. -/

/-- Base of a ring whose BASE_LO register is `r`. -/
def ethRing (d : Device) (r : Nat) : Nat := rd d r + fld d (r + 4) 15 0 * 2 ^ 32
/-- Descriptors of that ring. -/
def ethRingSize (d : Device) (r : Nat) : Nat := 2 ^ fld d (r + 8) 3 0
/-- A ring that is enabled and holds a descriptor. -/
def ethRingReady (d : Device) (r : Nat) : Bool :=
  rbit d (r + 8) 31 && rd d (r + 12) % ethRingSize d r != rd d (r + 16) % ethRingSize d r
/-- Address of the descriptor at HEAD. -/
def ethHeadAt (d : Device) (r : Nat) : Nat := ethRing d r + rd d (r + 16) % ethRingSize d r * 32
/-- HEAD advances. -/
def ethAdvance (r : Nat) (d : Device) : Device := wr (r + 16) ((rd d (r + 16) + 1) % ethRingSize d r) d

/-- ETH_TX_TAIL: a write of ETH_TXQ_TAIL; ETH_RX_TAIL is the same for a receive ring. -/
def ethTail (r v : Nat) (d : Device) : Device := wr (r + 12) (fieldOf v 11 0) d

/-! Frame fields (13 R375). -/

/-- Big-endian field of a frame. -/
def beField (bs : List Byte) (o n : Nat) : Nat := beNat (sliceBytes bs o n)
/-- The frame carries an 802.1Q tag. -/
def isTagged (bs : List Byte) : Bool := beField bs 12 2 == 0x8100
/-- Offset of the EtherType after any tag. -/
def typeAt (bs : List Byte) : Nat := if isTagged bs then 16 else 12
/-- The EtherType after any tag. -/
def etherType (bs : List Byte) : Nat := beField bs (typeAt bs) 2
/-- The UDP destination port, of unfragmented IPv4 without options or IPv6 without extension header. -/
def udpPort (bs : List Byte) : Option Nat :=
  let l3 := typeAt bs + 2
  if etherType bs == 0x0800 && beField bs l3 1 == 0x45 && beField bs (l3 + 9) 1 == 17 && beField bs (l3 + 6) 2 % 0x4000 == 0 then
    some (beField bs (l3 + 22) 2)
  else if etherType bs == 0x86DD && beField bs (l3 + 6) 1 == 17 then some (beField bs (l3 + 42) 2)
  else none

/-- Does rule `r` of port `p` match a frame (13 R375)? -/
def ruleMatches (d : Device) (p r : Nat) (bs : List Byte) : Bool :=
  let sel := fun b => rbit d (ETH_RULE0 p r) b
  rbit d (ETH_RULE0 p r) 31 &&
  (!sel 0 || beField bs 0 6 == fld d (ETH_RULE2 p r) 31 16 * 2 ^ 32 + rd d (ETH_RULE1 p r)) &&
  (!sel 1 || etherType bs == fld d (ETH_RULE2 p r) 15 0) &&
  (!sel 2 || (isTagged bs && beField bs 14 2 % 4096 == fld d (ETH_RULE3 p r) 11 0)) &&
  (!sel 3 || (isTagged bs && beField bs 14 2 / 8192 == fld d (ETH_RULE3 p r) 14 12)) &&
  (!sel 4 || udpPort bs == some (fld d (ETH_RULE3 p r) 31 16))

/-! Reception (13 R374). -/

/-- A frame is delivered to receive queue `q`, or dropped there. -/
def ethDeliver (p q rule : Nat) (bs : List Byte) (d : Device) : Device :=
  let r := ETH_RXQ_BASE_LO p q
  if !ethRingReady d r || !openDram d (ethHeadAt d r) 32 then countUp (ETH_RXQ_DROP p q) d else
  let desc := memBytes d (ethHeadAt d r) 32
  let buf := leField desc 0 8
  let room := leField desc 8 4
  if decide (room < bs.length) || buf % 64 != 0 || room % 64 != 0 || decide (room < 128) || decide (16384 < room) ||
      !openDram d buf room then countUp (ETH_RXQ_DROP p q) d else
  let stamp := (nowNs d + 2 ^ 32 - rd d (ETH_RX_LAT p)) % 2 ^ 32
  let flags := (if isTagged bs then 1 else 0) + (if etherType bs == 0x88F7 then 2 else 0)
  let done := leBytes 2 bs.length ++ leBytes 1 rule ++ leBytes 1 flags ++ leBytes 4 stamp ++ leBytes 4 (rd d CT_FRAC) ++
    leBytes 2 (rd d CT_WRAPS % 256) ++ leBytes 2 (if isTagged bs then beField bs 14 2 else 0) ++ leBytes 3 0 ++ leBytes 1 1
  d |> memPut buf bs |> memPut (ethHeadAt d r + 12) done |> ethAdvance r |> countUp (ETH_RX_FRAMES p)
    |> applyIf (if q < 32 then rbit d (ETH_IRQ_MASK_LO p) q else rbit d (ETH_IRQ_MASK_HI p) (q - 32)) (raiseIrq (ETH_IRQ p))

/-- ETH_FRAME_RECEIVED on port `p`, the management port as 4: the frame with its FCS; `bad` is an uncorrectable error of
the frame buffer (13 R374 to R378). -/
def ethReceived (p : Nat) (frame : List Byte) (bad : Bool) (d : Device) : Device :=
  let body := frame.take (frame.length - 4)
  let fcsOk := frameFcs body == leField frame (frame.length - 4) 4
  if 4 ≤ p then
    if !fcsOk || bad || decide (frame.length < 64) then countUp ETH_MGMT_RX_BAD d
    else d |> countUp ETH_MGMT_RX_FRAMES |> modEth 4 (fun e => { e with rxStamp := some (nowNs d, rd d CT_FRAC) })
  else if !rbit d (ETH_CTRL p) 0 || !rbit d (ETH_STATUS p) 0 then d
  else if bad then d |> countUp (ETH_RX_BAD p) |> raiseFault 60 [] [] (1 + p * 2 ^ 8)
  else if !fcsOk || decide (frame.length < 64) || decide (rd d (ETH_MAX_LEN p) < frame.length) then countUp (ETH_RX_BAD p) d
  else match (List.range 32).find? (fun r => ruleMatches d p r body) with
  | some r =>
    if rbit d (ETH_RULE0 p r) 30 then countUp (ETH_RX_RULEDROP p) d
    else ethDeliver p (fld d (ETH_RULE0 p r) 29 24) r body d
  | none => ethDeliver p (fld d (ETH_RX_CFG p) 5 0) 0xFF body d

/-! Transmission (13 R372, R373, R376). -/

/-- A frame leaves port `p` with its FCS. -/
def ethSend (p : Nat) (bs : List Byte) (d : Device) : Device :=
  d |> modEth p (fun e => { e with sent := e.sent ++ [bs ++ leBytes 4 (frameFcs bs)] }) |> countUp (ETH_TX_FRAMES p)

/-- The shape ONE_STEP asks for: a layer-2 PTP Sync at PTP_OFS, which is where the message follows the EtherType,
twoStepFlag clear, wholly in the frame (13 R376). -/
def oneStepOk (bs : List Byte) (ofs : Nat) : Bool :=
  decide (ofs + 44 ≤ bs.length) && ofs == typeAt bs + 2 && etherType bs == 0x88F7 && beField bs ofs 1 % 16 == 0 && !bitOf (beField bs (ofs + 6) 1) 1

/-- ONE_STEP_INSERTION (13 R376): originTimestamp and correctionField at the departure time. -/
def oneStepFrame (d : Device) (p : Nat) (bs : List Byte) (ofs : Nat) : List Byte :=
  let t := ptpTime d (nowNs d) (rd d (ETH_TX_LAT p))
  let corr := (beField bs (ofs + 8) 8 + rd d CT_FRAC / 2 ^ 16) % 2 ^ 64
  overlay (overlay bs (ofs + 34) (beBytes 6 t.1 ++ beBytes 4 t.2)) (ofs + 8) (beBytes 8 corr)

/-- A descriptor may be sent: its buffer, LEN, reserved bytes, and the shape of a ONE_STEP frame (13 R373). -/
def txDescOk (d : Device) (p : Nat) (desc : List Byte) : Bool :=
  let buf := leField desc 0 8
  let len := leField desc 8 2
  buf % 64 == 0 && inDram d buf len && decide (60 ≤ len) && decide (len + 4 ≤ rd d (ETH_MAX_LEN p)) &&
    decide (leField desc 10 1 < 4) &&
    (!bitOf (leField desc 10 1) 0 || oneStepOk (memBytes d buf len) (leField desc 12 2))

/-- The MAC takes the descriptor at HEAD of transmit queue `q` (13 R373). -/
def ethSendDesc (p q : Nat) (bad : Bool) (d : Device) : Device :=
  let r := ETH_TXQ_BASE_LO p q
  let at_ := ethHeadAt d r
  if !openDram d at_ 32 then ethAdvance r d else
  let desc := memBytes d at_ 32
  let ok := txDescOk d p desc && !bad
  let bs := memBytes d (leField desc 0 8) (leField desc 8 2)
  let bs := if bitOf (leField desc 10 1) 0 then oneStepFrame d p bs (leField desc 12 2) else bs
  let stamp := (nowNs d + rd d (ETH_TX_LAT p)) % 2 ^ 32
  let status := if !ok then 1 else if rbit d CT_STATUS 2 then 2 else 0
  let d := applyIf (ok && bitOf (leField desc 10 1) 1) (memPut (at_ + 16) (leBytes 4 stamp ++ leBytes 4 (rd d CT_FRAC))) d
  let d := memPut (at_ + 24) (leBytes 1 (rd d CT_WRAPS % 256) ++ leBytes 1 status ++ leBytes 5 0 ++ leBytes 1 1) d
  d |> applyIf ok (ethSend p bs) |> ethAdvance r |> applyIf (rbit d (ETH_IRQ_TXMASK p) q) (raiseIrq (ETH_IRQ p))

/-- ETH_FRAME_SENT on port `p`: from the highest-numbered queue that holds a frame (13 R372); `bad` is an uncorrectable
error of the frame buffer (13 R378). -/
def ethFrameSent (p : Nat) (bad : Bool) (d : Device) : Device :=
  let p := p % 4
  if !rbit d (ETH_CTRL p) 0 || !rbit d (ETH_STATUS p) 0 then d else
  let fault := applyIf bad (raiseFault 60 [] [] (1 + p * 2 ^ 8))
  match (ethOf d p).cloche with
  | f :: rest => d |> modEth p (fun e => { e with cloche := rest }) |> applyIf (!bad) (ethSend p f) |> fault
  | [] =>
    match (List.range 7).reverse.find? (fun q => ethRingReady d (ETH_TXQ_BASE_LO p q)) with
    | some q => d |> ethSendDesc p q bad |> fault
    | none => d

/-- ETH_LINK_CHANGE of port `p` (13 R378). -/
def ethLinkChange (p : Nat) (up : Bool) (rate : Nat) (d : Device) : Device :=
  let p := p % 4
  let was := rbit d (ETH_STATUS p) 0
  let d := d |> setBit (ETH_STATUS p) 0 up |> setFld (ETH_STATUS p) 2 1 rate
  applyIf (was != up && rbit d (ETH_CTRL p) 1) (raiseFault 60 [] [] (2 + p * 2 ^ 8)) d

/-! The Cloche's frames (10 R312, R313; 13 R372). -/

/-- A Cloche frame joins queue 7: a third frame replaces the newer queued one. -/
def deliverEth (f : ClocheFrame) (d : Device) : Device :=
  match (ethOf d f.dest).cloche with
  | a :: _ :: _ => d |> modEth f.dest (fun e => { e with cloche := [a, f.bytes] }) |> countUp CL_TX_REPLACED
  | q => modEth f.dest (fun e => { e with cloche := q ++ [f.bytes] }) d

/-- FRAME_DELIVERY of the oldest finished frame of number `n`. -/
def frameDelivery (n : Nat) (d : Device) : Device :=
  match d.cloche.frames.find? (fun f => f.frame == n) with
  | none => d
  | some f =>
    let d := { d with cloche := { d.cloche with frames := d.cloche.frames.erase f } }
    if f.ethernet then deliverEth f d else deliverCan f d

/-! Register writes (13 R372, R377, R379). -/

/-- A host write to an Ethernet register; the management port's are refused, queue 7's set CFG_ERR. -/
def ethWrite (off v : Nat) (d : Device) : Device :=
  if 0xA140000 ≤ off then if off < 0xA150000 then badAccess 0 off d else d else
  let p := (off - 0xA100000) / 0x10000
  let o := off % 0x10000
  if o < 0x1000 || 0x3000 ≤ o then storedWrite off v d
  else
    let r := off - o % 0x20
    if 0x20E0 ≤ o then if o < 0x2100 then setBit (ETH_STATUS p) 3 true d else d
    else match o % 0x20 with
    | 0x00 => if rbit d (r + 8) 31 then d else storedWrite off v d
    | 0x04 => if rbit d (r + 8) 31 then d else storedWrite off v d
    | 0x08 => storedWrite off (if rbit d off 31 then putField v 3 0 (fld d off 3 0) else v) d
    | 0x0C => if (regAt d off).isSome then ethTail r v d else d
    | _ => storedWrite off v d

end Sys2Proof.Machine
end

