-- ==== Sys2Proof/Machine/DrapeStage.lean ====
section
/-! DEFINITION. The Drape's stream and view descriptors, colour stage and geometry stage (09 R260 to R273, R290). -/
namespace Sys2Proof.Machine

/-! Stream descriptors (09 Table 9.2). -/

/-- SOURCE: replay. -/
def sdReplay (s : List Byte) : Bool := leField s 0 1 == 1
/-- BITS of the raw data type. -/
def sdBits (s : List Byte) : Nat := [10, 12, 14, 16, 20].getD (leField s 1 1 - 0x2B) 10
/-- VIEWS. -/
def sdViews (s : List Byte) : Nat := leField s 3 1
/-- WIDTH. -/
def sdWidth (s : List Byte) : Nat := leField s 4 2
/-- HEIGHT. -/
def sdHeight (s : List Byte) : Nat := leField s 6 2
/-- COLOUR. -/
def sdColour (s : List Byte) : Nat := leField s 8 8
/-- STORE. -/
def sdStore (s : List Byte) : Nat := leField s 16 8
/-- VIEW_v. -/
def sdView (s : List Byte) (v : Nat) : Nat := leField s (24 + 8 * v) 8
/-- EMBED. -/
def sdEmbed (s : List Byte) : Bool := bitOf (leField s 56 1) 0
/-- REPLAY_WINDOW. -/
def sdWindow (s : List Byte) : Bool := bitOf (leField s 56 1) 1
/-- EMBED_DST. -/
def sdEmbedDst (s : List Byte) : Nat := leField s 64 8
/-- EMBED_BYTES. -/
def sdEmbedBytes (s : List Byte) : Nat := leField s 72 4
/-- REPLAY_RING. -/
def sdRing (s : List Byte) : Nat := leField s 80 8
/-- REPLAY_ENTRIES. -/
def sdEntries (s : List Byte) : Nat := leField s 88 4

/-! View descriptors (09 Table 9.4). -/

/-- The 128 bytes of view `v` of a stream descriptor. -/
def viewDesc (d : Device) (s : List Byte) (v : Nat) : List Byte := memBytes d (sdView s v) 128
/-- log2 FX. -/
def vwFx (w : List Byte) : Nat := fieldOf (leField w 2 1) 1 0
/-- log2 FY. -/
def vwFy (w : List Byte) : Nat := fieldOf (leField w 2 1) 3 2
/-- STRIPE_LINES. -/
def vwLines (w : List Byte) : Nat := leField w 3 1
/-- log2 of the node spacing P. -/
def vwP (w : List Byte) : Nat := if bitOf (leField w 1 1) 3 then 5 else 4
/-- DEST_GH. -/
def vwGlass (w : List Byte) : Bool := bitOf (leField w 1 1) 1
/-- RING. -/
def vwRing (w : List Byte) : Bool := bitOf (leField w 1 1) 2
/-- Element bytes. -/
def vwElem (w : List Byte) : Nat := if leField w 0 1 == 0x21 then 2 else 1
/-- RW. -/
def vwRw (w : List Byte) : Nat := leField w 12 2 / 2 ^ vwFx w
/-- RH. -/
def vwRh (w : List Byte) : Nat := leField w 14 2 / 2 ^ vwFy w
/-- LP. -/
def vwLp (w : List Byte) : Nat := leField w 32 4
/-- PP. -/
def vwPp (w : List Byte) : Nat := leField w 36 4
/-- NSLOT. -/
def vwSlots (w : List Byte) : Nat := leField w 40 2
/-- Stripes of a frame. -/
def vwStripes (w : List Byte) : Nat := vwRh w / max 1 (vwLines w)

/-! The checks at adoption (09 R261). -/

/-- The colour parameter block is well formed (09 R263, Table 9.3). -/
def colourOk (d : Device) (a : Nat) : Bool :=
  let b := memBytes d a 512
  let n := leField b 8 1
  let x := fun k => fieldOf (leField b (16 + 12 * k) 4) 19 0
  a % 64 == 0 && inDram d a 2560 && decide (1 ≤ n) && decide (n ≤ 32) && x 0 == 0 &&
    (List.range (n - 1)).all (fun k => decide (x k < x (k + 1))) && allZero (sliceBytes b 9 7) && allZero (sliceBytes b 424 88)

/-- [a, a + n) is a place that the Drape may write for a view. -/
def viewSpanOk (d : Device) (glass : Bool) (a n : Nat) : Bool := if glass then inGlass d a n else openDram d a n

/-- A view descriptor is well formed and its ranges exist (09 R268, R273). -/
def viewOk (d : Device) (replay : Bool) (a : Nat) : Bool :=
  let w := memBytes d a 128
  let p := 2 ^ vwP w
  let ww := leField w 4 2
  let hw := leField w 6 2
  let lines := if vwRing w && !replay then vwSlots w * vwLines w else vwRh w
  let span := 2 * vwPp w + lines * vwLp w
  let stripes := if vwRing w && !replay then vwSlots w else vwStripes w
  a % 128 == 0 && inDram d a 128 && [0x02, 0x10, 0x11, 0x21].contains (leField w 0 1) && decide (leField w 1 1 < 16) &&
    decide (leField w 2 1 < 16) && decide (vwFx w ≤ 2) && decide (vwFy w ≤ 2) && decide (1 ≤ vwLines w) &&
    decide (vwLines w ≤ 64) && decide (0 < ww) && decide (0 < hw) && ww % p == 0 && hw % p == 0 &&
    decide (0 < leField w 12 2) && decide (0 < leField w 14 2) && leField w 12 2 % 2 ^ vwFx w == 0 &&
    leField w 14 2 % 2 ^ vwFy w == 0 && decide (leField w 8 2 + leField w 12 2 ≤ ww) &&
    decide (leField w 10 2 + leField w 14 2 ≤ hw) && vwRh w % vwLines w == 0 &&
    leField w 16 8 % 8 == 0 && inDram d (leField w 16 8) ((ww / p + 1) * (hw / p + 1) * 8) &&
    leField w 24 8 % 512 == 0 && vwLp w % 512 == 0 && decide (vwRw w * vwElem w ≤ vwLp w) && vwPp w % 512 == 0 &&
    decide (lines * vwLp w ≤ vwPp w) && viewSpanOk d (vwGlass w) (leField w 24 8) span &&
    (!vwGlass w || openDram d (leField w 48 8) span) &&
    (if vwRing w then decide (1 ≤ vwSlots w) else vwSlots w == 0) && leField w 56 8 % 32 == 0 &&
    openDram d (leField w 56 8) (stripes * 32) && allZero (sliceBytes w 44 4) && allZero (sliceBytes w 70 2) &&
    allZero (sliceBytes w 108 20) &&
    (if replay then leField w 96 8 == 0 || openDram d (leField w 96 8) 1 else leField w 96 8 == 0)

/-- A stream descriptor passes the checks at adoption (09 R260, R261, 15 R424). -/
def streamDescOk (d : Device) (a : Nat) : Bool :=
  let s := memBytes d a 128
  let wh := fun (x : Nat) => x % 2 == 0 && decide (64 ≤ x) && decide (x ≤ 8192)
  inDram d a 128 && decide (leField s 0 1 ≤ 1) && (!sdReplay s || bitOf d.hostif.featAccepted 6) &&
    decide (0x2B ≤ leField s 1 1) && decide (leField s 1 1 ≤ 0x2F) && decide (leField s 2 1 < 8) &&
    decide (1 ≤ sdViews s) && decide (sdViews s ≤ 4) && wh (sdWidth s) && wh (sdHeight s) && colourOk d (sdColour s) &&
    sdStore s % 4096 == 0 && openDram d (sdStore s) (2 * sdWidth s * sdHeight s * 8) &&
    (List.range (sdViews s)).all (fun v => viewOk d (sdReplay s) (sdView s v)) && decide (leField s 56 1 < 4) &&
    allZero (sliceBytes s 57 7) && allZero (sliceBytes s 76 4) && allZero (sliceBytes s 92 36) &&
    (!sdEmbed s || openDram d (sdEmbedDst s) (sdEmbedBytes s)) &&
    (!sdReplay s || (sdRing s % 64 == 0 && [16, 32, 64, 128, 256, 512, 1024, 2048, 4096].contains (sdEntries s) &&
      inDram d (sdRing s) (sdEntries s * 96)))

/-! Colour stage (09 R263 to R267). -/

/-- Black level and decompanding of a raw code at a CFA phase (09 R263). -/
def decompand (d : Device) (col ph x : Nat) : Nat :=
  let v := x - memNat d (col + 2 * ph) 2
  let n := memNat d (col + 8) 1
  let knee := fun k o => memNat d (col + 16 + 12 * k + o) 4
  let k := ((List.range n).filter (fun k => decide (fieldOf (knee k 0) 19 0 ≤ v))).getLastD 0
  min (fieldOf (knee k 4) 23 0 + ((v - fieldOf (knee k 0) 19 0) * fieldOf (knee k 8) 19 0 + 128) / 256) (2 ^ 24 - 1)

/-- Replay gain and noise on a value (09 R290); `r` is the replay descriptor, `i` the pixel's index. -/
def gainNoise (s : Nat) (r : List Byte) (i v : Nat) : Nat :=
  let v := min ((v * leField r 20 2 + 2048) / 4096) (2 ^ 24 - 1)
  let a := leField r 22 2
  let w := philoxWord (leField r 24 8) (i / 4) s 0 3 (i % 4)
  (clampInt 0 (2 ^ 24 - 1) ((v : Int) + (w * (2 * a + 1) / 2 ^ 32 : Nat) - a)).toNat

/-- The values of line `y` of a frame after decompanding. -/
def lineValues (d : Device) (s : Nat) (desc : List Byte) (replay : Option (List Byte)) (y : Nat) (codes : List Nat) : List Nat :=
  (List.range (sdWidth desc)).map (fun x =>
    let v := decompand d (sdColour desc) (2 * (y % 2) + x % 2) (codes.getD x 0 % 2 ^ sdBits desc)
    match replay with
    | none => v
    | some r => gainNoise s r (y * sdWidth desc + x) v)

/-- Mirror position of a coordinate beyond the frame edge (09 R264). -/
def mirror (n : Nat) (x : Int) : Nat := if x < 0 then (-x).toNat else if (n : Int) ≤ x then 2 * (n - 1) - x.toNat else x.toNat

/-- A mean (09 R264). -/
def meanOf (xs : List Nat) : Nat := (xs.foldl (· + ·) 0 + xs.length / 2) / max 1 xs.length

/-- Demosaic of pixel (x, y): the three channels (09 R264). -/
def demosaic (cfa width : Nat) (up cur down : List Nat) (x y : Nat) : Nat × Nat × Nat :=
  let at_ := fun (l : List Nat) (i : Int) => l.getD (mirror width i) 0
  let v := at_ cur x
  let h := [at_ cur (x - 1), at_ cur (x + 1)]
  let w := [at_ up x, at_ down x]
  let diag := [at_ up (x - 1), at_ up (x + 1), at_ down (x - 1), at_ down (x + 1)]
  match fieldOf cfa 1 0 ^^^ (x % 2 + 2 * (y % 2)) with
  | 0 => (v, meanOf (h ++ w), meanOf diag)
  | 1 => (meanOf h, v, meanOf w)
  | 2 => (meanOf w, v, meanOf h)
  | _ => (meanOf diag, meanOf (h ++ w), v)

/-- White balance and colour correction (09 R265). -/
def colourCorrect (d : Device) (col : Nat) (c : Nat × Nat × Nat) : List Nat :=
  let wb := fun i v => min ((v * memNat d (col + 400 + 2 * i) 2 + 2048) / 4096) (2 ^ 24 - 1)
  let c := [wb 0 c.1, wb 1 c.2.1, wb 2 c.2.2]
  (List.range 3).map (fun i =>
    let sum := (List.range 3).foldl (fun (a : Int) j => a + signedOf 16 (memNat d (col + 406 + 2 * (3 * i + j)) 2) * (c.getD j 0 : Nat)) 0
    (clampInt 0 (2 ^ 24 - 1) ((sum + 2048) / 4096)).toNat)

/-- The tone LUT (09 R266). -/
def toneMap (d : Device) (col v : Nat) : Nat :=
  let s := if v < 512 then 0 else Nat.log2 v - 8
  let base := if v < 512 then 0 else 2 ^ (8 + s)
  let k := if v < 512 then 3 else 2 + s
  let i := 64 * s + (v - base) / 2 ^ k
  let f := (v - base) % 2 ^ k
  let tone := fun i => memNat d (col + 512 + 2 * i) 2
  let a := tone i
  let b := tone (min (i + 1) 1023)
  ((a : Int) + (((b : Int) - a) * f + (2 ^ (k - 1) : Nat)) / (2 ^ k : Nat)).toNat

/-- Base of the frame-store buffer of a frame (09 R267). -/
def storeBase (desc : List Byte) (count : Nat) : Nat := sdStore desc + count % 2 * (sdWidth desc * sdHeight desc * 8)

/-- Line `y` passes through the rest of the colour stage into the frame store (09 R264 to R267). -/
def storeLine (desc : List Byte) (count y : Nat) (up cur down : List Nat) (d : Device) : Device :=
  let col := sdColour desc
  let bytes := (List.range (sdWidth desc)).flatMap (fun x =>
    (colourCorrect d col (demosaic (leField desc 2 1) (sdWidth desc) up cur down x y)).flatMap (fun v =>
      leBytes 2 (toneMap d col v)) ++ leBytes 2 0)
  memPut (storeBase desc count + y * sdWidth desc * 8) bytes d

/-! Geometry stage (09 R268 to R272). -/

/-- A mesh node: source X and Y; none where it is invalid (09 R269). -/
def meshNode (d : Device) (w : List Byte) (cx cy : Nat) : Option (Int × Int) :=
  let a := leField w 16 8 + (cy * (leField w 4 2 / 2 ^ vwP w + 1) + cx) * 8
  if memNat d a 4 == 0x80000000 then none else some (signedOf 32 (memNat d a 4), signedOf 32 (memNat d (a + 4) 4))

/-- The source position of warp pixel (u, v) in units of 1/256 pixel (09 R269). -/
def meshAt (d : Device) (w : List Byte) (u v : Nat) : Option (Int × Int) :=
  let p := vwP w
  let cx := u / 2 ^ p
  let cy := v / 2 ^ p
  let fx := u % 2 ^ p
  let fy := v % 2 ^ p
  match meshNode d w cx cy, meshNode d w (cx + 1) cy, meshNode d w cx (cy + 1), meshNode d w (cx + 1) (cy + 1) with
  | some a, some b, some c, some e =>
    let mix := fun (w00 w10 w01 w11 : Int) =>
      ((2 ^ p - fx) * (2 ^ p - fy) : Nat) * w00 + (fx * (2 ^ p - fy) : Nat) * w10 +
        ((2 ^ p - fx) * fy : Nat) * w01 + (fx * fy : Nat) * w11
    some (divRne (mix a.1 b.1 c.1 e.1) (2 * p + 8), divRne (mix a.2 b.2 c.2 e.2) (2 * p + 8))
  | _, _, _, _ => none

/-- RNE32 of an exact value. -/
def rne32 (v : FVal) : FVal := decodeF fp32 (encodeRne fp32 v)

/-- The homography of a replay descriptor on a mesh result (09 R290). -/
def homography (r : List Byte) (s : Int × Int) : Option (Int × Int) :=
  let h := fun i => decodeF fp32 (leField r (40 + 4 * i) 4)
  let u := scaleF (ofIntF s.1) (-8)
  let v := scaleF (ofIntF s.2) (-8)
  let row := fun i => encodeRne fp32 (addF (rne32 (addF (rne32 (mulF (h (3 * i)) u)) (rne32 (mulF (h (3 * i + 1)) v)))) (h (3 * i + 2)))
  let den := row 2
  let pos := fun n => toIntF .rne (scaleF (decodeF fp32 (fpDiv fp32 .rne n den).1) 8)
  if ltF (ofIntF 0) (decodeF fp32 den) then
    match pos (row 0), pos (row 1) with
    | some x, some y => some (x, y)
    | _, _ => none
  else none

/-- Channel `c` of frame-store pixel (x, y), the nearest edge pixel where it lies beyond (09 R270). -/
def storePixel (d : Device) (desc : List Byte) (count : Nat) (x y : Int) (c : Nat) : Nat :=
  let x := (clampInt 0 ((sdWidth desc : Int) - 1) x).toNat
  let y := (clampInt 0 ((sdHeight desc : Int) - 1) y).toNat
  memNat d (storeBase desc count + (y * sdWidth desc + x) * 8 + 2 * c) 2

/-- The weights of the cubic kernel at phase a / 256, scaled by 2^25 (09 R270). -/
def cubicWeights (a : Int) : List Int :=
  [-(a ^ 3) + 512 * a ^ 2 - 65536 * a, 3 * a ^ 3 - 1280 * a ^ 2 + 2 ^ 25, -3 * a ^ 3 + 1024 * a ^ 2 + 65536 * a,
   a ^ 3 - 256 * a ^ 2]

/-- One channel of the sample at a source position (09 R270). -/
def sampleChannel (d : Device) (desc : List Byte) (count : Nat) (cubic : Bool) (sx sy : Int) (c : Nat) : Nat :=
  let px := fun x y => (storePixel d desc count x y c : Int)
  let x := sx / 256
  let y := sy / 256
  let a := sx % 256
  let b := sy % 256
  if cubic then
    let wa := cubicWeights a
    let wb := cubicWeights b
    let sum := (List.range 16).foldl (fun (t : Int) i =>
      t + wa.getD (i % 4) 0 * wb.getD (i / 4) 0 * px (x - 1 + (i % 4 : Nat)) (y - 1 + (i / 4 : Nat))) 0
    (clampInt 0 65535 (divRne sum 50)).toNat
  else
    (divRne ((256 - a) * (256 - b) * px x y + a * (256 - b) * px (x + 1) y + (256 - a) * b * px x (y + 1) +
      a * b * px (x + 1) (y + 1)) 16).toNat

/-- Channel `c` of warp pixel (u, v): mesh, homography, sample; the fill value outside (09 R269 to R271, R290). -/
def warpPixel (d : Device) (f : DrapeFrame) (w : List Byte) (u v : Int) (c : Nat) : Nat :=
  let fill := leField w (64 + 2 * c) 2
  let inside := decide (0 ≤ u) && decide (u < (leField w 4 2 : Nat)) && decide (0 ≤ v) && decide (v < (leField w 6 2 : Nat))
  let pos := if inside then meshAt d w u.toNat v.toNat else none
  let pos := match f.replay with
    | some r => if bitOf (leField r 18 1) 0 then pos.bind (homography r) else pos
    | none => pos
  match pos with
  | none => fill
  | some s =>
    if s.1 < 0 ∨ s.2 < 0 ∨ (256 * (sdWidth f.desc - 1) : Nat) < s.1 ∨ (256 * (sdHeight f.desc - 1) : Nat) < s.2 then fill
    else sampleChannel d f.desc f.count (bitOf (leField w 1 1) 0) s.1 s.2 c

/-- Crop and box reduction: channel `c` of output pixel (x, y) in the tone domain (09 R271). -/
def boxPixel (d : Device) (f : DrapeFrame) (w : List Byte) (x y c : Nat) : Nat :=
  let dx := (f.replay.map (fun r => signedOf 16 (leField r 32 2))).getD 0
  let dy := (f.replay.map (fun r => signedOf 16 (leField r 34 2))).getD 0
  let fx := 2 ^ vwFx w
  let sum := (List.range (fx * 2 ^ vwFy w)).foldl (fun (t : Int) i =>
    t + (warpPixel d f w ((leField w 8 2 + x * fx + i % fx : Nat) + dx) ((leField w 10 2 + y * 2 ^ vwFy w + i / fx : Nat) + dy) c : Nat)) 0
  (divRne sum (vwFx w + vwFy w)).toNat

/-- Conversion of a tone-domain value of channel `c` to the view's format (09 R272): the element's code. -/
def viewCode (w : List Byte) (c t : Nat) : Nat :=
  let scale := decodeF fp32 (leField w (72 + 4 * c) 4)
  let bias := decodeF fp32 (leField w (84 + 4 * c) 4)
  let y := rne32 (addF (rne32 (mulF (scaleF (ofIntF t) (-16)) scale)) bias)
  match leField w 0 1 with
  | 0x02 => patternOf 8 (convertInt 8 .rne y).1
  | 0x10 => (convertFloat e4m3 true .rne y).1
  | 0x11 => (convertFloat e5m2 true .rne y).1
  | _ => (convertFloat fp16 true .rne y).1

/-- Bytes 0 to RW * eb - 1 of output line `y` of plane `c` (09 R273). -/
def viewLine (d : Device) (f : DrapeFrame) (w : List Byte) (c y : Nat) : List Byte :=
  if f.corrupt then List.replicate (vwRw w * vwElem w) 0
  else (List.range (vwRw w)).flatMap (fun x => leBytes (vwElem w) (viewCode w c (boxPixel d f w x y c)))

/-- MAXLINE of stripe `k`, none where every cell it touches is invalid (09 R273). -/
def maxLine (d : Device) (desc w : List Byte) (k : Nat) : Option Int :=
  let rows := vwLines w * 2 ^ vwFy w
  let first := leField w 10 2 + k * rows
  let lo := first / 2 ^ vwP w
  let hi := (first + rows - 1) / 2 ^ vwP w
  let cells := (List.range (hi + 1 - lo)).flatMap (fun i => (List.range (leField w 4 2 / 2 ^ vwP w)).map (fun cx => (cx, lo + i)))
  let ys := cells.flatMap (fun c =>
    match meshNode d w c.1 c.2, meshNode d w (c.1 + 1) c.2, meshNode d w c.1 (c.2 + 1), meshNode d w (c.1 + 1) (c.2 + 1) with
    | some a, some b, some e, some g => [a.2, b.2, e.2, g.2]
    | _, _, _, _ => [])
  ys.foldl (fun (m : Option Int) y =>
    let l := min (-((-y) / 65536) + 2) ((sdHeight desc : Int) - 1)
    some (match m with
      | none => l
      | some x => max x l)) none

end Sys2Proof.Machine
end

