-- ==== Sys2Proof/Machine/Drape.lean ====
section
/-! DEFINITION. The Drape: receivers, frames, stripes and tags, frame sets, replay (09 R257 to R278, R286 to R293). -/
namespace Sys2Proof.Machine

/-- Stream `s`. -/
def camStream (d : Device) (s : Nat) : DrapeStream := tabGet {} d.drape.streams s
/-- Change stream `s`. -/
def modCam (s : Nat) (f : DrapeStream → DrapeStream) (d : Device) : Device :=
  { d with drape := { d.drape with streams := tabPut s (f (camStream d s)) d.drape.streams } }
/-- The sensor head of stream `s`. -/
def headOf (d : Device) (s : Nat) : SensorHead := tabGet {} d.drape.heads s
/-- Change the sensor head of stream `s`. -/
def modHead (s : Nat) (f : SensorHead → SensorHead) (d : Device) : Device :=
  { d with drape := { d.drape with heads := tabPut s (f (headOf d s)) d.drape.heads } }
/-- HEAD_STATE of stream `s` (09 Table 9.11). -/
def headState (d : Device) (s : Nat) : Nat := fld d (DR_STREAM_STATUS s) 3 2
/-- The open frame of stream `s`. -/
def openFrame (d : Device) (s : Nat) : Option DrapeFrame := (camStream d s).frames.find? (fun f => !f.closed)
/-- Change the open frame of stream `s`. -/
def modOpen (s : Nat) (f : DrapeFrame → DrapeFrame) (d : Device) : Device :=
  modCam s (fun t => { t with frames := t.frames.map (fun x => if x.closed then x else f x) }) d
/-- The engine of stream `s` (09 R258). -/
def engineOf (s : Nat) : Nat := s / 16

/-! Errors (09 R259, R267). -/

/-- Address of the tag of stripe `k` (09 R276). -/
def tagAddr (f : DrapeFrame) (w : List Byte) (k : Nat) : Nat :=
  leField w 56 8 + 32 * (match f.replay with
    | some r => leField r 16 2 * vwStripes w + k
    | none => if vwRing w then k % max 1 (vwSlots w) else k)

/-- Frame sets apply to stream `s` (09 R277). -/
def inSets (d : Device) (s : Nat) : Bool := rbit d DR_SET_CFG 31 && rbit d DR_SET_MASK s

/-- Change the open set of a slot. -/
def modSet (slot : Nat) (f : FrameSet → FrameSet) (d : Device) : Device :=
  { d with drape := { d.drape with sets := d.drape.sets.map (fun x => if x.slot == slot then f x else x) } }

/-- LINE_ERR is set in every tag of the open frame of stream `s`: in those to come and in those already written, and the
stream counts as flagged in its set (09 R259). -/
def markLineErr (s : Nat) (d : Device) : Device :=
  match openFrame d s with
  | none => d
  | some f =>
    if f.lineErr then d else
    let d := modOpen s (fun f => { f with lineErr := true }) d
    forEach (List.range (sdViews f.desc)) (fun v d =>
      let w := viewDesc d f.desc v
      let written := List.range (f.next.getD v 0)
      let d := forEach written (fun k d =>
        let a := tagAddr f w k + 24
        applyIf (openDram d a 2) (memPutNat a 2 (putBit (memNat d a 2) 3 true)) d) d
      applyIf (!written.isEmpty && inSets d s && !f.dup) (modSet f.slot (fun x => { x with flagged := x.flagged ||| 2 ^ s })) d) d

/-- Source 50 + r is raised for virtual channel `vc` (14 Table 14.12); LINE_ERR of the open frame. -/
def csiFault (r vc cause : Nat) (d : Device) : Device :=
  d |> markLineErr (4 * r + vc) |> raiseFault (50 + r) [] [] (cause + vc * 2 ^ 8)

/-- The packet header: none where the packet is discarded. -/
def csiHeader (r vc : Nat) (hdr : EccEvent) (d : Device) : Device :=
  match hdr with
  | .clean => d
  | .corrected => countUp (CSI_ECC_CORR r) d
  | .bad _ => d |> countUp (CSI_HDR_ERR r) |> csiFault r vc 1

/-- A packet whose header is uncorrectable is discarded. -/
def headerBad (hdr : EccEvent) : Bool :=
  match hdr with
  | .bad _ => true
  | _ => false

/-- Receiver `r` and virtual channel `vc` receive. -/
def csiEnabled (d : Device) (r vc : Nat) : Bool := rbit d (CSI_CTRL r) 0 && rbit d (CSI_CTRL r) (4 + vc)

/-- A packet of stream `s` arrived now (CSI_STATUS). -/
def csiActive (s : Nat) (d : Device) : Device :=
  { d with drape := { d.drape with vcBeat := tabPut s d.clock.beat d.drape.vcBeat } }

/-! Frames (09 R261 to R267). -/

/-- The pending descriptor of stream `s` is one of a replay stream: its frame start is the start of a sample (09 R261). -/
def pendingReplay (d : Device) (s : Nat) : Bool :=
  match (camStream d s).wanted with
  | some a => sdReplay (memBytes d a 128)
  | none => false

/-- DESCRIPTOR_ADOPTION (09 R261, R285): a pending descriptor is checked and adopted, or refused with DESC_ERR. -/
def adopt (s : Nat) (d : Device) : Device :=
  match (camStream d s).wanted with
  | none => d
  | some a =>
    let d := d |> modCam s (fun t => { t with wanted := none }) |> setBit (DR_STREAM_STATUS s) 1 false
    if streamDescOk d a then
      d |> modCam s (fun t => { t with desc := some (memBytes d a 128) })
        |> applyIf (headOf d s).meshed (setBit (DR_STREAM_STATUS s) 5 false)
    else setBit (DR_STREAM_STATUS s) 7 true d

/-- Every stripe of every view of a frame is written; a discarded frame has none. -/
def stripesDone (d : Device) (f : DrapeFrame) : Bool :=
  f.discarded || (List.range (sdViews f.desc)).all (fun v => decide (vwStripes (viewDesc d f.desc v) ≤ f.next.getD v 0))

/-- Is the buffer that a frame of this count writes still being read (09 R267)? -/
def storeBusy (d : Device) (s count : Nat) : Bool :=
  (camStream d s).frames.any (fun f => f.count % 2 == count % 2 && !stripesDone d f)

/-- A closed frame leaves once its stripes are all written. -/
def dropDone (s : Nat) (d : Device) : Device :=
  modCam s (fun t => { t with frames := t.frames.filter (fun f => !(f.closed && stripesDone d f)) }) d

/-- A frame opens on stream `s`; one that R281 or R267 discards is received, and written nowhere. -/
def beginFrame (s : Nat) (desc : List Byte) (replay : Option (List Byte)) (header : List Byte) (corrupt : Bool) (d : Device) :
    Device :=
  let count := rd d (DR_FRAME_COUNT s)
  let slot := rd d DR_SLOT
  let unauth := headState d s != 2
  let dup := replay.isNone && inSets d s && (camStream d s).lastSlot == some slot
  let dropped := unauth && rbit d (DR_STREAM_CTRL s) 1
  let busy := storeBusy d s count
  let f : DrapeFrame := { order := d.drape.nextOrder, count := count, desc := desc, ns := nowNs d, frac := rd d CT_FRAC,
                          slot := slot, unauth := unauth, dup := dup, next := List.replicate (sdViews desc) 0,
                          replay := replay, header := header, corrupt := corrupt, discarded := dropped || busy,
                          setClosed := d.drape.slotClosed }
  let d := modCam s (fun t => { t with lastSlot := some slot, frames := t.frames ++ [f] }) d
  let d := { d with drape := { d.drape with nextOrder := d.drape.nextOrder + 1 } }
  if dropped then countUp (DR_DROP s) d
  else if busy then d |> countUp (DR_OVERRUN (engineOf s)) |> raiseFault (48 + engineOf s) [] [] (1 + s * 2 ^ 8)
  else setBit (DR_STREAM_STATUS s) 0 true d

/-! Stripes (09 R273, R274, R276). -/

/-- Base of the output of view `w` of a frame: DEST or FALLBACK, and the batch slot of a replay (09 R274, R289). -/
def viewBase (f : DrapeFrame) (v : Nat) (w : List Byte) : Nat :=
  (if f.redirected.contains v then leField w 48 8 else leField w 24 8) +
    ((f.replay.map (fun r => leField r 16 2 * leField w 104 4)).getD 0)

/-- Line slot of output line `y` (09 R273). -/
def viewSlot (f : DrapeFrame) (w : List Byte) (y : Nat) : Nat :=
  if vwRing w && f.replay.isNone then y % max 1 (vwSlots w * vwLines w) else y

/-- The view writes into a Glasshouse. -/
def intoGlass (f : DrapeFrame) (v : Nat) (w : List Byte) : Bool := vwGlass w && !f.redirected.contains v

/-- The Glasshouse of a view. -/
def viewGlass (w : List Byte) : Nat := (rowOf (leField w 24 8)).1

/-- A Strict command owns the view's Glasshouse (09 R274, 03 R86). -/
def glassStrict (d : Device) (g : Nat) : Bool :=
  match ownerOf d g with
  | some q => ((stepOf d q).map (·.strict)).getD false
  | none => false

/-- The engine of stream `s` has, or may take, the credit of one row of Glasshouse `g` (09 R274). -/
def rowCredit (d : Device) (s g : Nat) : Bool :=
  if glassStrict d g then canDraw d g (8 + engineOf s) 1 else canAcquire d g (8 + engineOf s) 1

/-- The engine of stream `s` draws or takes that credit. -/
def takeRowCredit (s g : Nat) (d : Device) : Device :=
  if glassStrict d g then drawRows g (8 + engineOf s) 1 d else acquireRows g (8 + engineOf s) 1 d

/-- Is the next stripe of view `v` of a frame ready in the frame store (09 R273)? -/
def stripeReady (d : Device) (f : DrapeFrame) (v : Nat) : Bool :=
  let w := viewDesc d f.desc v
  let k := f.next.getD v 0
  !f.discarded && decide (k < vwStripes w) && (f.closed ||
    (match maxLine d f.desc w k with
     | none => true
     | some m => decide (m < (f.stored : Int))))

/-- Is a ready stripe held up because its next row has no credit? -/
def stripeBlocked (d : Device) (s : Nat) (f : DrapeFrame) (v : Nat) : Bool :=
  let w := viewDesc d f.desc v
  intoGlass f v w && !rowCredit d s (viewGlass w)

/-- The views of the frames of stream `s` whose next row waits for a credit are noted with the beat since which they do
(09 R274). -/
def noteWaits (s : Nat) (d : Device) : Device :=
  let waiting := fun (f : DrapeFrame) => (List.range (sdViews f.desc)).filter (fun v => stripeReady d f v && stripeBlocked d s f v)
  modCam s (fun t => { t with frames := t.frames.map (fun f =>
    { f with waits := (waiting f).map (fun v => (v, tabGet d.clock.beat f.waits v)) }) }) d

/-- The next line of the open frame of stream `s`, as raw codes (09 R263 to R267): line y - 1 is complete once line y is. -/
def pushLine (s : Nat) (codes : List Nat) (d : Device) : Device :=
  match openFrame d s with
  | none => d
  | some f =>
    let y := f.lines
    let h := sdHeight f.desc
    if f.discarded then modOpen s (fun f => { f with lines := y + 1 }) d else
    let vals := lineValues d s f.desc f.replay y codes
    let recent := ((y, vals) :: f.recent).take 3
    let line := fun k => ((recent.find? (fun e => e.1 == k)).map (·.2)).getD []
    let d := if 1 ≤ y then storeLine f.desc f.count (y - 1) (line (mirror h ((y : Int) - 2))) (line (y - 1)) vals d else d
    let last := decide (y + 1 = h)
    let d := if last then storeLine f.desc f.count y (line (y - 1)) vals (line (y - 1)) d else d
    d |> modOpen s (fun f => { f with lines := y + 1, recent := recent, stored := if last then h else y }) |> noteWaits s

/-- The open frame of stream `s` ends: its missing lines take zero codes (09 R259). -/
def closeFrame (s : Nat) (d : Device) : Device :=
  match openFrame d s with
  | none => d
  | some f =>
    let missing := sdHeight f.desc - f.lines
    let d := if missing == 0 then d else csiFault (s / 4) (s % 4) 4 d
    let d := iterN missing (pushLine s []) d
    d |> modOpen s (fun f => { f with closed := true, recent := [] }) |> setBit (DR_STREAM_STATUS s) 0 false |> dropDone s

/-- FRAME_START on receiver `r`, virtual channel `vc` (09 R262). -/
def frameStart (r vc : Nat) (hdr : EccEvent) (d : Device) : Device :=
  let s := 4 * r + vc
  if !csiEnabled d r vc then d else
  let d := d |> csiActive s |> csiHeader r vc hdr
  if headerBad hdr || !rbit d (DR_STREAM_CTRL s) 0 then d else
  let d := closeFrame s d
  let d := d |> applyIf (!pendingReplay d s) (adopt s) |> addWrap (DR_FRAME_COUNT s) 1
  match (camStream d s).desc with
  | none => d
  | some desc => if sdReplay desc then d else beginFrame s desc none [] false d

/-- The raw data type that the adopted descriptor of stream `s` names (09 R258). -/
def streamType (d : Device) (s : Nat) : Option Nat := ((camStream d s).desc).map (fun b => leField b 1 1)

/-- LINE_PACKET: a long packet of raw codes (09 R258, R259). -/
def linePacket (r vc dt : Nat) (hdr : EccEvent) (crcErr : Bool) (codes : List Nat) (d : Device) : Device :=
  let s := 4 * r + vc
  if !csiEnabled d r vc then d else
  let d := d |> csiActive s |> csiHeader r vc hdr
  if headerBad hdr || !rbit d (DR_STREAM_CTRL s) 0 then d else
  match openFrame d s with
  | none =>
    if streamType d s != some dt then countUp (CSI_DT_DROP r) d
    else applyIf crcErr (fun d => d |> countUp (CSI_CRC_ERR r) |> csiFault r vc 2) d
  | some f =>
    if dt != leField f.desc 1 1 then countUp (CSI_DT_DROP r) d
    else if sdHeight f.desc ≤ f.lines then
      let d := applyIf crcErr (fun d => d |> countUp (CSI_CRC_ERR r) |> csiFault r vc 2) d
      if sdHeight f.desc == f.lines then d |> csiFault r vc 4 |> modOpen s (fun f => { f with lines := f.lines + 1 }) else d
    else if crcErr then d |> countUp (CSI_CRC_ERR r) |> csiFault r vc 2 |> pushLine s []
    else d |> applyIf (codes.length != sdWidth f.desc) (csiFault r vc 3) |> pushLine s codes

/-- EMBEDDED_DATA_PACKET (09 R258): written to EMBED_DST up to EMBED_BYTES a frame when EMBED is 1. -/
def embeddedPacket (r vc : Nat) (hdr : EccEvent) (crcErr : Bool) (bs : List Byte) (d : Device) : Device :=
  let s := 4 * r + vc
  if !csiEnabled d r vc then d else
  let d := d |> csiActive s |> csiHeader r vc hdr
  if headerBad hdr || !rbit d (DR_STREAM_CTRL s) 0 then d else
  match openFrame d s with
  | none => d
  | some f =>
    let d := if crcErr then d |> countUp (CSI_CRC_ERR r) |> csiFault r vc 2 else d
    if !sdEmbed f.desc || f.discarded then d else
    let bs := bs.take (sdEmbedBytes f.desc - f.embedded)
    d |> memPut (sdEmbedDst f.desc + f.embedded) bs |> modOpen s (fun f => { f with embedded := f.embedded + bs.length })

/-- SHORT_PACKET: a Line Start, Line End or generic short packet is accepted and ignored; its header counts (09 R257). -/
def shortPacket (r vc : Nat) (hdr : EccEvent) (d : Device) : Device :=
  if !csiEnabled d r vc then d else d |> csiActive (4 * r + vc) |> csiHeader r vc hdr

/-- FRAME_END (09 R259). -/
def frameEnd (r vc : Nat) (hdr : EccEvent) (d : Device) : Device :=
  if !csiEnabled d r vc then d else
  let d := d |> csiActive (4 * r + vc) |> csiHeader r vc hdr
  if headerBad hdr then d else closeFrame (4 * r + vc) d

/-- HS_EXIT: the lanes of receiver `r` leave high-speed mode, which ends a frame in progress (09 R259). -/
def hsExit (r : Nat) (d : Device) : Device := forEach (List.range 4) (fun vc d => closeFrame (4 * (r % 8) + vc) d) d

/-! Frame sets (09 R277). -/

/-- The open set of a slot. -/
def frameSetOf (d : Device) (slot : Nat) : Option FrameSet := d.drape.sets.find? (fun x => x.slot == slot)

/-- SET_CLOSE: the set record is written and the semaphore goes up by one; frames of the slot that complete later are
late (09 R277). -/
def closeSet (slot : Nat) (d : Device) : Device :=
  match frameSetOf d slot with
  | none => d
  | some x =>
    let k := rd d DR_SET_HEAD
    let a := rd d DR_SET_RING_LO + fld d DR_SET_RING_HI 15 0 * 2 ^ 32 + k * 16
    let bytes := leBytes 4 x.slot ++ leBytes 4 x.present ++ leBytes 4 x.flagged ++ leBytes 4 x.ns
    let d := applyIf (openDram d a 16) (memPut a bytes) d
    let d := d |> wr DR_SET_HEAD ((k + 1) % max 1 (rd d DR_SET_RING_LEN)) |> addWrap (CK_SEM (fld d DR_SET_CFG 27 16)) 1
    let late := fun (t : DrapeStream) => { t with frames := t.frames.map (fun f =>
      if f.slot == slot then { f with setClosed := true } else f) }
    { d with drape := { d.drape with
        sets := d.drape.sets.filter (fun x => x.slot != slot)
        streams := d.drape.streams.map (fun e => (e.1, late e.2))
        slotClosed := d.drape.slotClosed || rd d DR_SLOT == slot } }

/-- A pulse of TT_OUT `n`: DR_SLOT counts those of the selected pin, and a set opens (09 R262, R277). -/
def drapePulse (n : Nat) (d : Device) : Device :=
  if fld d DR_SET_CFG 29 28 != n then d else
  let d := addWrap DR_SLOT 1 { d with drape := { d.drape with slotClosed := false } }
  if rbit d DR_SET_CFG 31 then
    { d with drape := { d.drape with sets := d.drape.sets ++ [{ slot := rd d DR_SLOT, ns := nowNs d }] } }
  else d

/-- SET_TIMEOUT of a slot, TIMEOUT_US after its pulse. -/
def setTimeout (slot : Nat) (d : Device) : Device :=
  match frameSetOf d slot with
  | none => d
  | some x =>
    if decide (passedBy (nowNs d) x.ns < (fld d DR_SET_CFG 15 0 * 1000 : Nat)) then d else closeSet slot d

/-- A frame's stripes are all written: it counts in its set (09 R277). -/
def frameDone (s : Nat) (f : DrapeFrame) (d : Device) : Device :=
  if f.replay.isSome || !inSets d s || f.dup || (frameSetOf d f.slot).isNone then d
  else
    let d := modSet f.slot (fun x => { x with present := x.present ||| 2 ^ s }) d
    match frameSetOf d f.slot with
    | some x => if rd d DR_SET_MASK &&& x.present == rd d DR_SET_MASK then closeSet f.slot d else d
    | none => d

/-! The writing of stripes (09 R273, R274, R276). -/

/-- One row of a stripe reaches its Glasshouse, where it may meet another access (03 R75), or is refused there (03 R84). -/
def stripeRow (s : Nat) (meets : List Nat) (a : Nat) (bs : List Byte) (d : Device) : Device :=
  let g := (rowOf a).1
  let n := (rowOf a).2
  let src := 8 + engineOf s
  if !(regionOf d a matches .glass _ _) then d
  else if fenced d g || !holdsCredit d g src n then creditViolation g src g n 0 [] d
  else d |> rowPut g n bs |> rowMeeting (meets.contains n) g n

/-- Rows are written in order while the engine gets a credit for each (09 R274): how many, and the device. -/
def stripeRows (s g : Nat) (meets : List Nat) : List (Nat × List Byte) → Nat → Device → Nat × Device
  | [], n, d => (n, d)
  | r :: rs, n, d =>
    if rowCredit d s g then stripeRows s g meets rs (n + 1) (d |> takeRowCredit s g |> stripeRow s meets r.1 r.2) else (n, d)

/-- What stripe `k` of view `v` writes, in order: address and bytes of each line, LP bytes long (09 R273). The first stripe
of a corrupt sample writes its slot whole as zero (09 R291). -/
def stripeLines (d : Device) (f : DrapeFrame) (v k : Nat) (w : List Byte) : List (Nat × List Byte) :=
  let base := viewBase f v w
  let size := leField w 104 4
  let lines := (List.range (3 * vwLines w)).map (fun i =>
    let y := k * vwLines w + i % vwLines w
    (base + i / vwLines w * vwPp w + viewSlot f w y * vwLp w, sliceBytes (viewLine d f w (i / vwLines w) y) 0 (vwLp w)))
  if f.corrupt then
    (if k == 0 then [(base, List.replicate size 0)] else []) ++
      lines.filter (fun l => decide (base + size < l.1 + vwLp w))
  else lines

/-- The rows of lines that lie in a Glasshouse. -/
def linesRows (lines : List (Nat × List Byte)) : List (Nat × List Byte) :=
  lines.flatMap (fun l => (List.range (l.2.length / 512)).map (fun i => (l.1 + 512 * i, sliceBytes l.2 (512 * i) 512)))

/-- Tag flags of a stripe (09 Table 9.5). -/
def tagFlags (d : Device) (s v : Nat) (f : DrapeFrame) : Nat :=
  let st := DR_STREAM_STATUS s
  let late := f.replay.isNone && inSets d s && f.setClosed
  (if f.unauth then 1 else 0) + (if rbit d st 5 then 2 else 0) + (if rbit d st 4 then 4 else 0) +
  (if f.lineErr then 8 else 0) + (if f.redirected.contains v then 16 else 0) + (if f.replay.isSome then 32 else 0) +
  (if f.corrupt then 64 else 0) + (if late then 128 else 0) + (if f.dup then 256 else 0)

/-- The 32-byte tag of stripe `k` (09 R276). -/
def tagBytes (d : Device) (s v k flags crc : Nat) (f : DrapeFrame) : List Byte :=
  let logged := f.replay.isSome
  (if logged then sliceBytes f.header 24 8 else sliceBytes (headOf d s).record 8 8) ++ leBytes 1 s ++ leBytes 1 v ++ leBytes 2 k ++
  (if logged then sliceBytes f.header 32 12
   else leBytes 4 f.count ++ leBytes 4 f.ns ++ leBytes 4 f.frac) ++
  leBytes 2 flags ++ (if logged then sliceBytes f.header 44 2 else leBytes 2 f.slot) ++ leBytes 4 crc

/-- Replace the frame of stream `s` that has the order of `f`. -/
def putFrame (s : Nat) (f : DrapeFrame) (d : Device) : Device :=
  modCam s (fun t => { t with frames := t.frames.map (fun x => if x.order == f.order then f else x) }) d

/-- Every line of the next stripe of view `v`, with descriptor `w`, is at its destination: its tag is written (09 R276,
R277). -/
def endStripe (s v : Nat) (f : DrapeFrame) (w : List Byte) (d : Device) : Device :=
  let k := f.next.getD v 0
  let crc := crc32c ((List.range (3 * vwLines w)).flatMap (fun i => viewLine d f w (i / vwLines w) (k * vwLines w + i % vwLines w)))
  let flags := tagFlags d s v f
  let d := applyIf (openDram d (tagAddr f w k) 32) (memPut (tagAddr f w k) (tagBytes d s v k flags crc f)) d
  let d := if flags != 0 && f.replay.isNone && inSets d s && !f.dup then
      modSet f.slot (fun x => { x with flagged := x.flagged ||| 2 ^ s }) d
    else d
  let views := List.range (sdViews f.desc)
  let f := { f with next := views.map (fun i => f.next.getD i 0 + (if i == v then 1 else 0)), flags := f.flags ||| flags, rows := views.map (fun i => if i == v then 0 else f.rows.getD i 0) }
  let d := putFrame s f d
  let d := applyIf (stripesDone d f) (frameDone s f) d
  d |> dropDone s |> noteWaits s

/-- The next stripe of view `v` of a frame of stream `s` is written: into DRAM whole, into a Glasshouse row by row while
credits last (09 R273, R274). -/
def writeStripe (s v : Nat) (f : DrapeFrame) (meets : List Nat) (d : Device) : Device :=
  let w := viewDesc d f.desc v
  let lines := stripeLines d f v (f.next.getD v 0) w
  if intoGlass f v w then
    let had := f.rows.getD v 0
    let rows := linesRows lines
    let r := stripeRows s (viewGlass w) meets (rows.drop had) had d
    if rows.length ≤ r.1 then endStripe s v f w r.2
    else
      let f := { f with rows := (List.range (sdViews f.desc)).map (fun i => if i == v then r.1 else f.rows.getD i 0) }
      r.2 |> putFrame s f |> modCam s (fun t => { t with frames := t.frames.map (fun x =>
        if x.order == f.order then { x with waits := x.waits.filter (fun e => e.1 != v) } else x) }) |> noteWaits s
  else endStripe s v f w (forEach lines (fun l d => applyIf (openDram d l.1 l.2.length) (memPut l.1 l.2) d) d)

/-- STRIPE_WRITE by engine `e`: ready stripes are written oldest frame first, then in ascending view (09 R273); a view
that waits for credits holds up only itself (09 R274). -/
def stripeWrite (e : Nat) (meets : List Nat) (d : Device) : Device :=
  let frames := (d.drape.streams.filter (fun t => engineOf t.1 == e % 2)).flatMap (fun t => t.2.frames.map (fun f => (t.1, f)))
  let frames := sortBy (fun (a b : Nat × DrapeFrame) => decide (a.2.order ≤ b.2.order)) frames
  let blockedBefore := fun (s v : Nat) (f : DrapeFrame) =>
    (camStream d s).frames.any (fun x => !x.discarded && decide (x.order < f.order) && decide (x.next.getD v 0 < vwStripes (viewDesc d x.desc v)))
  match (frames.flatMap (fun t => (List.range (sdViews t.2.desc)).map (fun v => (t.1, v, t.2)))).find? (fun c =>
      stripeReady d c.2.2 c.2.1 && !stripeBlocked d c.1 c.2.2 c.2.1 && !blockedBefore c.1 c.2.1 c.2.2) with
  | some c => writeStripe c.1 c.2.1 c.2.2 meets d
  | none => forEach ((d.drape.streams.filter (fun t => engineOf t.1 == e % 2)).map (·.1)) noteWaits d

/-- Has the next row of view `v` of a frame waited HOLD_US, 25 beats a microsecond, for its credit (09 R274)? -/
def holdOver (d : Device) (f : DrapeFrame) (v : Nat) : Bool :=
  match tabFind v f.waits with
  | some b => decide (b + leField (viewDesc d f.desc v) 42 2 * 25 ≤ d.clock.beat)
  | none => false

/-- HOLD_TIMEOUT of view `v` of stream `s`: the stripe and every later one of that view in that frame go to FALLBACK. -/
def holdTimeout (s v : Nat) (d : Device) : Device :=
  match (camStream d s).frames.find? (fun f => stripeReady d f v && stripeBlocked d s f v && holdOver d f v) with
  | none => d
  | some f =>
    modCam s (fun t => { t with frames := t.frames.map (fun x =>
      if x.order == f.order then { x with redirected := x.redirected ++ [v] } else x) }) d

/-! Stream registers (09 R261, R262). -/

/-- STREAM_DESC_WRITE: a write of DR_STREAM_DESC_HI requests adoption. -/
def streamDescWrite (s v : Nat) (d : Device) : Device :=
  d |> modCam s (fun t => { t with wanted := some (rd d (DR_STREAM_DESC_LO s) + fieldOf v 15 0 * 2 ^ 32) })
    |> setBit (DR_STREAM_STATUS s) 1 true

/-- Operating time of the head of stream `s` is brought up to now (09 R283). -/
def countOperating (s : Nat) (d : Device) : Device :=
  modHead s (fun h => match h.opSince with
    | some b => { h with opBeats := h.opBeats + (d.clock.beat - b), opSince := some d.clock.beat }
    | none => h) d

/-- STREAM_ENABLE: a write of DR_STREAM_CTRL; a rise of EN zeroes the frame count and starts the operating time. -/
def streamControl (s v : Nat) (d : Device) : Device :=
  let on := rbit d (DR_STREAM_CTRL s) 0
  let d := storedWrite (DR_STREAM_CTRL s) v d
  if bitOf v 0 && !on then d |> wr (DR_FRAME_COUNT s) 0 |> modHead s (fun h => { h with opSince := some d.clock.beat })
  else if !bitOf v 0 && on then d |> countOperating s |> modHead s (fun h => { h with opSince := none })
  else d

/-! Replay (09 R286 to R292). -/

/-- REPLAY_TAIL_WRITE. -/
def replayTail (s v : Nat) (d : Device) : Device := wr (DR_REPLAY_TAIL s) (fieldOf v 11 0) d

/-- CRC-32C over the lines of a decoded sample (09 Table 9.7). -/
def pixelCrc (d : Device) (a : Nat) (h : List Byte) : Nat :=
  crc32c ((List.range (leField h 10 2)).flatMap (fun y =>
    memBytes d (a + 512 + y * leField h 16 4) (leField h 8 2 * leField h 14 1)))

/-- Ring entry `i` is taken; DR_REPLAY_HEAD is the oldest entry not yet taken. -/
def takeEntry (s i n : Nat) (d : Device) : Device :=
  let taken := i :: (camStream d s).taken
  let k := ((List.range n).find? (fun k => !taken.contains ((rd d (DR_REPLAY_HEAD s) + k) % n))).getD 0
  let passed := (List.range k).map (fun j => (rd d (DR_REPLAY_HEAD s) + j) % n)
  d |> wr (DR_REPLAY_HEAD s) ((rd d (DR_REPLAY_HEAD s) + k) % n)
    |> modCam s (fun t => { t with taken := taken.filter (fun j => !passed.contains j) })

/-- A decoded sample runs as a frame through the colour stage (09 R289 to R291). -/
def runSample (s : Nat) (desc r h : List Byte) (d : Device) : Device :=
  let a := leField r 0 8
  let crcBad := !bitOf (leField h 0 8) 63 && pixelCrc d a h != leField h 20 4
  let corrupt := bitOf (leField h 0 8) 63 || crcBad
  let d := d |> addWrap (DR_FRAME_COUNT s) 1 |> applyIf crcBad (countUp (DR_REPLAY_CRC_ERR s))
  let d := if !corrupt then d
    else forEach (List.range (sdViews desc)) (fun v d =>
      let m := leField (viewDesc d desc v) 96 8 + leField r 16 2 / 8
      applyIf (openDram d m 1)
        (memPut m (leBytes 1 (putBit (memNat d m 1) (leField r 16 2 % 8) true))) d) d
  let d := beginFrame s desc (some r) h corrupt d
  let gone := ((openFrame d s).map (·.discarded)).getD true
  let line := fun y => (List.range (sdWidth desc)).map (fun x =>
    memNat d (a + 512 + y * leField h 16 4 + x * leField h 14 1) (leField h 14 1))
  let d := if corrupt || gone then modOpen s (fun f => { f with lines := sdHeight desc }) d
    else forEach (List.range (sdHeight desc)) (fun y d => pushLine s (line y) d) d
  d |> modOpen s (fun f => { f with closed := true, recent := [] }) |> setBit (DR_STREAM_STATUS s) 0 false
    |> applyIf gone (dropDone s) |> noteWaits s

/-- The descriptor under which the next sample of stream `s` starts: a pending one of a replay stream that passes its
checks, otherwise the adopted one (09 R261). -/
def sampleDesc (d : Device) (s : Nat) : Option (List Byte) :=
  match (camStream d s).wanted with
  | some a => if pendingReplay d s && streamDescOk d a then some (memBytes d a 128) else (camStream d s).desc
  | none => (camStream d s).desc

/-- REPLAY_READY_POLL of stream `s` for the ring entry `i` places after the head (09 R289, R292); a pending descriptor of a
replay stream is adopted, or refused, as the sample starts (09 R261). -/
def replayPoll (s i : Nat) (d : Device) : Device :=
  if !rbit d (DR_STREAM_CTRL s) 0 || (openFrame d s).isSome then d else
  match sampleDesc d s with
  | none => applyIf (pendingReplay d s) (adopt s) d
  | some desc =>
    let n := sdEntries desc
    let index := (rd d (DR_REPLAY_HEAD s) + i) % max 1 n
    let waiting := (rd d (DR_REPLAY_TAIL s) % max 1 n + max 1 n - rd d (DR_REPLAY_HEAD s) % max 1 n) % max 1 n
    if !sdReplay desc || !(decide (i = 0) || (sdWindow desc && decide (i < 64))) || decide (waiting ≤ i) ||
        (camStream d s).taken.contains index || storeBusy d s (rd d (DR_FRAME_COUNT s) + 1) then d
    else
      let r := memBytes d (sdRing desc + index * 96) 96
      let h := memBytes d (leField r 0 8) 64
      if fieldOf (leField h 0 8) 62 0 == leField r 8 8 then
        d |> applyIf (pendingReplay d s) (adopt s) |> takeEntry s index n |> runSample s desc r h
      else d

/-! Register writes (09 R293). -/

/-- A host write to a camera or Drape register; a receiver whose EN is 0 is not locked. -/
def drapeWrite (off v : Nat) (d : Device) : Device :=
  if 0x7020000 ≤ off && off < 0x7020800 then
    let s := (off - 0x7020000) / 0x40
    match off % 0x40 with
    | 0x00 => streamControl s v d
    | 0x0C => streamDescWrite s v d
    | 0x18 => replayTail s v d
    | _ => storedWrite off v d
  else if off < 0x7000800 && off % 0x100 == 0 && !bitOf v 0 then d |> storedWrite off v |> setBit (off + 4) 0 false
  else storedWrite off v d

/-- CSI_STATUS as the host reads it: LOCKED, and the channels active in the last 100 ms, 2,500,000 beats (09 R293). -/
def csiStatus (d : Device) (r : Nat) : Nat :=
  let active := fun vc => match tabFind (4 * r + vc) d.drape.vcBeat with
    | some b => decide (d.clock.beat - b ≤ 2500000)
    | none => false
  (rd d (CSI_STATUS r) &&& 1) + ((List.range 4).filter active).foldl (fun t vc => t + 2 ^ (4 + vc)) 0

end Sys2Proof.Machine
end

