-- ==== Sys2Proof/Machine/Lodge.lean ====
section
/-! DEFINITION. The Lodge: events and telemetry, the service ring, overload, restarts, and the services on sensor heads
(16 R435 to R438, 09 R282 to R284). -/
namespace Sys2Proof.Machine

/-- The Lodge serves: the device is Ready and the Lodge is not down (16 R436). -/
def lodgeUp (d : Device) : Bool := isReady d && !rbit d DEV_STATUS 4

/-- Change the Lodge. -/
def modLodge (f : Lodge → Lodge) (d : Device) : Device := { d with lodge := f d.lodge }

/-- The bytes of an ASCII string. -/
def ascii (s : String) : List Byte := s.toList.map (fun c => BitVec.ofNat 8 c.toNat)

/-- An LD_EVENT bit is set and LD_IRQ raised (16 Table 16.12). -/
def ldEvent (b : Nat) (d : Device) : Device := d |> setBit LD_EVENT b true |> raiseIrq LD_IRQ

/-! Telemetry (16 R438). -/

/-- WRITE + 1 equals READ modulo the count. -/
def telemFull (d : Device) (t : Telemetry) : Bool :=
  (memNat d t.base 4 + 1) % t.records == memNat d (t.base + 4) 4 % t.records

/-- The Lodge takes the number of a record that it writes or drops. -/
def nextSeq (d : Device) : Device := modLodge (fun l => { l with seq := (l.seq + 1) % 2 ^ 32 }) d

/-- A record that is not written counts in LD_TELEM_DROP. -/
def dropRecord (d : Device) : Device := d |> countUp LD_TELEM_DROP |> nextSeq

/-- A record is written into the telemetry ring. -/
def putRecord (t : Telemetry) (type code beat : Nat) (payload : List Byte) (d : Device) : Device :=
  let w := memNat d t.base 4 % t.records
  let bytes := leBytes 1 type ++ leBytes 1 code ++ leBytes 2 0 ++ leBytes 4 d.lodge.seq ++ leBytes 8 beat ++
    sliceBytes payload 0 16
  d |> memPut (t.base + 64 + 32 * w) bytes |> memPutNat t.base 4 ((w + 1) % t.records) |> nextSeq |> ldEvent 1

/-- The oldest waiting event goes out, where the Lodge is up and the ring has room. -/
def drainOne (d : Device) : Device :=
  match d.lodge.telemetry, d.lodge.events with
  | some t, e :: rest =>
    if telemFull d t || !lodgeUp d then d
    else d |> modLodge (fun l => { l with events := rest }) |> putRecord t 2 e.code e.beat e.payload
  | _, _ => d

/-- Waiting events go out ahead of samples. -/
def drainEvents (d : Device) : Device := iterN 256 drainOne d

/-- An event is recorded; beyond 256 waiting ones it is dropped. -/
def lodgeEvent (code : Nat) (payload : List Byte) (d : Device) : Device :=
  if 256 ≤ d.lodge.events.length then dropRecord d
  else
    let e : LodgeEvent := { code := code, beat := d.clock.beat, payload := payload }
    d |> modLodge (fun l => { l with events := l.events ++ [e] }) |> drainEvents

/-! Overload (16 R435). -/

/-- The backlog of tiers 2 to 4 is estimated, in microseconds. -/
def noteBacklog (us : Nat) (d : Device) : Device :=
  d |> applyIf (decide (5000 < us)) (setBit LD_STATUS 7 true) |> applyIf (decide (50000 < us)) (setBit LD_STATUS 8 true)
    |> applyIf (decide (2000 ≤ us)) (modLodge (fun l => { l with backlogBeat := d.clock.beat }))

/-- The Lodge answers tier 2 requests BUSY. -/
def overloaded (d : Device) : Bool := rbit d LD_STATUS 8

/-- LODGE_OVERLOAD_END: the backlog has stayed below 2 ms for 10 ms, 250,000 beats. -/
def overloadEnd (d : Device) : Device :=
  if lodgeUp d && decide (d.lodge.backlogBeat + 250000 ≤ d.clock.beat) then d |> setBit LD_STATUS 8 false |> setBit LD_STATUS 7 false else d

/-- TELEMETRY_SAMPLE, once a sample period (25,000 beats a millisecond) has passed: `load` is the Lodge load in 1/1,000,
`backlog` the estimated backlog. -/
def telemetrySample (load backlog : Nat) (d : Device) : Device :=
  match d.lodge.telemetry with
  | none => d
  | some t =>
    if !(lodgeUp d && decide (t.since + t.period * 25000 ≤ d.clock.beat)) then d else
    let d := d |> modLodge (fun l => { l with telemetry := some { t with since := d.clock.beat } })
      |> noteBacklog backlog |> drainEvents
    if rbit d LD_STATUS 7 || telemFull d t || !d.lodge.events.isEmpty then dropRecord d
    else putRecord t 1 0 d.clock.beat
      (leBytes 2 (fld d GT_HOT 15 0) ++ leBytes 2 (fld d GT_PKG_POWER 10 0) ++ leBytes 2 load) d

/-! The service ring (16 R437). -/

/-- Entries of the ring. -/
def ldRingSize (d : Device) : Nat := 2 ^ fld d LD_RING_CFG 3 0
/-- Base of the ring. -/
def ldRingBase (d : Device) : Nat := fld d LD_RING_BASE_LO 31 12 * 2 ^ 12 + fld d LD_RING_BASE_HI 15 0 * 2 ^ 32
/-- Address of the entry at LD_RING_HEAD. -/
def ringHeadAddr (d : Device) : Nat := ldRingBase d + rd d LD_RING_HEAD % ldRingSize d * 128

/-- The request half of the oldest entry that the Lodge has not taken. -/
def ringRequest (d : Device) : Option (List Byte) :=
  if rbit d LD_RING_CFG 31 && lodgeUp d && rd d LD_RING_HEAD % ldRingSize d != rd d LD_RING_TAIL % ldRingSize d then
    some (memBytes d (ringHeadAddr d) 64)
  else none

/-- A request names a service of Table 16.7 and is zero where the entry is zero. -/
def requestKnown (q : List Byte) : Bool :=
  decide (1 ≤ leField q 0 1) && decide (leField q 0 1 ≤ 6) && leField q 1 3 == 0 && allZero (sliceBytes q 32 32)

/-- STATUS codes of a response. -/
abbrev ldOk : Nat := 0
abbrev ldBusy : Nat := 1
abbrev ldInvalid : Nat := 2
abbrev ldRefused : Nat := 3
abbrev ldDeferred : Nat := 4
abbrev ldFailed : Nat := 5
abbrev ldRestart : Nat := 6

/-- The response half of the oldest entry is written, DONE last; LD_RING_HEAD advances and RESP is set. -/
def ringAnswer (status result : Nat) (d : Device) : Device :=
  let a := ringHeadAddr d
  let half := leBytes 4 status ++ memBytes d (a + 4) 4 ++ leBytes 8 result ++ List.replicate 47 0 ++ leBytes 1 1
  d |> memPut (a + 64) half |> wr LD_RING_HEAD ((rd d LD_RING_HEAD + 1) % ldRingSize d) |> ldEvent 0

/-- The oldest entry is answered at once: BUSY in overload, INVALID for what is no service. -/
def drainRequest (d : Device) : Device :=
  match ringRequest d with
  | some q =>
    if overloaded d then d |> countUp LD_BUSY_COUNT |> ringAnswer ldBusy 0
    else if !requestKnown q then ringAnswer ldInvalid 0 d
    else d
  | none => d

/-- Entries that are answered at once, from the oldest on. -/
def drainRing (d : Device) : Device := iterN 256 drainRequest d

/-- SERVICE_RING_TAIL: the host writes LD_RING_TAIL; `backlog` is the estimated backlog then. -/
def ringTail (v backlog : Nat) (d : Device) : Device :=
  let d := wr LD_RING_TAIL (fieldOf v 7 0) d
  if lodgeUp d then d |> noteBacklog backlog |> drainRing else d

/-- The Lodge serves the oldest request, if it asks for service `code`: `f` gets ARG0 to ARG2 and answers STATUS, RESULT
and the device. -/
def serveRequest (code : Nat) (f : Nat → Nat → Nat → Device → (Nat × Nat) × Device) (d : Device) : Device :=
  match ringRequest d with
  | some q =>
    if overloaded d || !requestKnown q then drainRing d
    else if leField q 0 1 != code then d
    else
      let r := f (leField q 8 8) (leField q 16 8) (leField q 24 8) d
      r.2 |> ringAnswer r.1.1 r.1.2 |> drainRing
  | none => d

/-- TELEMETRY (16 R438): start the ring at ARG0 with ARG1 records and period ARG2 ms, or stop at ARG0 = 0. -/
def telemetryService (ring records period : Nat) (d : Device) : (Nat × Nat) × Device :=
  if ring == 0 then ((ldOk, 0), modLodge (fun l => { l with telemetry := none }) d)
  else if decide (16 ≤ records) && decide (records ≤ 4096) && records == 2 ^ Nat.log2 records && decide (10 ≤ period) &&
      decide (period ≤ 10000) && openDram d ring (64 + 32 * records) then
    ((ldOk, 0), d |> modLodge (fun l => { l with telemetry := some {
        base := ring, records := records, period := period, since := d.clock.beat } })
      |> memPutNat ring 4 0 |> drainEvents)
  else ((ldInvalid, 0), d)

/-! Life counters (09 R283, R284). -/

/-- A counter that saturates at 2^32 - 1. -/
def addCount (c n : Nat) : Nat := min (c + n) (2 ^ 32 - 1)

/-- MAINT is set, with its event (09 R284). -/
def setMaint (s : Nat) (d : Device) : Device :=
  if rbit d (DR_STREAM_STATUS s) 4 then d
  else d |> setBit (DR_STREAM_STATUS s) 4 true |> lodgeEvent 1 (leBytes 1 s)

/-- MAINT is set when a counter has reached its threshold (09 R284). -/
def checkMaint (s : Nat) (d : Device) : Device :=
  let h := headOf d s
  applyIf (!h.record.isEmpty && (decide (leField h.record 0x1C0 4 ≤ h.quarters) ||
    decide (leField h.record 0x1C4 4 ≤ h.thermal) || decide (leField h.record 0x1C8 4 ≤ h.clean))) (setMaint s) d

/-- Whole quarter hours of operating time, 22,500,000,000 beats each, go into OP_QUARTERS (09 R283). -/
def settleQuarters (s : Nat) (d : Device) : Device :=
  d |> countOperating s
    |> modHead s (fun h => { h with quarters := addCount h.quarters (h.opBeats / 22500000000),
                                    opBeats := h.opBeats % 22500000000 })
    |> checkMaint s

/-- CLEAN (16 Table 16.7): `n` lens-cleaning cycles of the head of stream `s`. -/
def cleanService (s n : Nat) (d : Device) : (Nat × Nat) × Device :=
  if decide (s < 32) && decide (1 ≤ n) && decide (n ≤ 255) then
    ((ldOk, 0), d |> modHead s (fun h => { h with clean := addCount h.clean n }) |> checkMaint s)
  else ((ldInvalid, 0), d)

/-! The mesh service (09 R282): binary64, each operation rounded to nearest even, left to right. -/

/-- Binary64 sum. -/
def add64 (a b : Nat) : Nat := encodeRne fp64 (addSigned .rne (decodeF fp64 a) (decodeF fp64 b))
/-- Binary64 product. -/
def mul64 (a b : Nat) : Nat := encodeRne fp64 (mulF (decodeF fp64 a) (decodeF fp64 b))
/-- Binary64 quotient. -/
def div64 (a b : Nat) : Nat := (fpDiv fp64 .rne a b).1
/-- Binary64 difference. -/
def sub64 (a b : Nat) : Nat := encodeRne fp64 (addSigned .rne (decodeF fp64 a) (negF (decodeF fp64 b)))
/-- 1 in binary64. -/
abbrev one64 : Nat := 0x3FF0000000000000
/-- The polynomial c0 + c1 x + c2 y + ... over paired coefficients and powers, left to right. -/
def poly64 (c0 : Nat) (terms : List (Nat × Nat)) : Nat := terms.foldl (fun acc t => add64 acc (mul64 t.1 t.2)) c0

/-- The distortion of the head's model at (a, b): (ad, bd). `rec` is the head record. -/
def distort64 (hr : List Byte) (a b : Nat) : Nat × Nat :=
  let k := fun i => leField hr (0x48 + 8 * i) 8
  let r2 := add64 (mul64 a a) (mul64 b b)
  let r4 := mul64 r2 r2
  let two := 0x4000000000000000
  if leField hr 0x24 1 == 0 then
    let r6 := mul64 r4 r2
    let g := div64 (poly64 one64 [(k 1, r2), (k 2, r4), (k 3, r6)]) (poly64 one64 [(k 4, r2), (k 5, r4), (k 6, r6)])
    let p1 := k 7
    let p2 := k 8
    let ad := add64 (add64 (mul64 a g) (mul64 (mul64 (mul64 two p1) a) b)) (mul64 p2 (add64 r2 (mul64 (mul64 two a) a)))
    let bd := add64 (add64 (mul64 b g) (mul64 p1 (add64 r2 (mul64 (mul64 two b) b)))) (mul64 (mul64 (mul64 two p2) a) b)
    (ad, bd)
  else if isZeroF (decodeF fp64 r2) then (a, b)
  else
    let r := (fpSqrt fp64 .rne r2).1
    let t := Config.atan64 r % 2 ^ 64
    let t2 := mul64 t t
    let t4 := mul64 t2 t2
    let t6 := mul64 t4 t2
    let t8 := mul64 t4 t4
    let td := mul64 t (poly64 one64 [(k 1, t2), (k 2, t4), (k 3, t6), (k 4, t8)])
    (div64 (mul64 a td) r, div64 (mul64 b td) r)

/-- A coordinate in 16 fractional bits; none beyond ±32,767 pixels or where it is no number. -/
def meshCoord (c : Nat) : Option Int :=
  match toIntF .rne (scaleF (decodeF fp64 c) 16) with
  | some v => if -(32767 * 65536 : Int) ≤ v ∧ v ≤ 32767 * 65536 then some v else none
  | none => none

/-- Node (u, v) of the mesh that request block `q` asks of the head record `hr`; none where it is invalid. -/
def meshValue (hr q : List Byte) (u v : Nat) : Option (Int × Int) :=
  let f := fun i => leField q (8 * i) 8
  let qm := fun row col => leField q (32 + 8 * (3 * row + col)) 8
  let n := fun (x : Nat) => encodeRne fp64 (ofIntF (x : Int))
  let x := div64 (sub64 (n u) (f 2)) (f 0)
  let y := div64 (sub64 (n v) (f 3)) (f 1)
  let comp := fun i => add64 (add64 (mul64 (qm 0 i) x) (mul64 (qm 1 i) y)) (mul64 (qm 2 i) one64)
  let z := decodeF fp64 (comp 2)
  if !isNanF z && (isZeroF z || ltF z (ofIntF 0)) then none else
  let p := distort64 hr (div64 (comp 0) (comp 2)) (div64 (comp 1) (comp 2))
  let c := fun i => leField hr (0x28 + 8 * i) 8
  match meshCoord (add64 (add64 (mul64 (c 0) p.1) (mul64 (c 4) p.2)) (c 2)), meshCoord (add64 (mul64 (c 1) p.2) (c 3)) with
  | some x, some y => some (x, y)
  | _, _ => none

/-- The 8 bytes of a node (09 R269). -/
def meshNodeBytes (n : Option (Int × Int)) : List Byte :=
  match n with
  | some p => leBytes 4 (patternOf 32 p.1) ++ leBytes 4 (patternOf 32 p.2)
  | none => leBytes 4 0x80000000 ++ leBytes 4 0

/-- MESH (09 R282, 16 Table 16.8): the mesh of the request block at `a` is written, and its SHA-512 into the block. -/
def meshService (a : Nat) (d : Device) : (Nat × Nat) × Device :=
  let q := memBytes d a 192
  let ww := leField q 104 2
  let hw := leField q 106 2
  let p := leField q 108 1
  let s := leField q 109 1
  let dest := leField q 112 8
  let cols := ww / p + 1
  let nodes := cols * (hw / p + 1)
  if !(openDram d a 192 && (p == 16 || p == 32) && ww % p == 0 && hw % p == 0 && decide (s < 32) &&
      leField q 110 2 == 0 && leField q 120 8 == 0 && dest % 8 == 0 && openDram d dest (8 * nodes)) then
    ((ldInvalid, 0), d)
  else if headState d s != 2 then ((ldRefused, 0), d)
  else
    let hr := (headOf d s).record
    let bytes := (List.range nodes).flatMap (fun i => meshNodeBytes (meshValue hr q (i % cols * p) (i / cols * p)))
    ((ldOk, nodes), d |> memPut dest bytes |> memPut (a + 128) (sha512 bytes)
      |> modHead s (fun h => { h with meshed := true }))

end Sys2Proof.Machine
end

