-- ==== Sys2Proof/Machine/Sign.lean ====
section
/-! DEFINITION. The two signatures that a signed object carries (16 R428) and the device keys that make them (16 R446):
Ed25519 (RFC 8032), ML-DSA-65 (FIPS 204) with SHAKE (FIPS 202), HKDF (RFC 5869). PRESUMED (Assumption 8): the bodies follow those publications, which the spec names and
does not print. -/
namespace Sys2Proof.Machine

/-- `b ^ e` modulo `m`, over the low `bits` bits of `e`. -/
def powMod (bits b e m : Nat) : Nat :=
  (List.range bits).reverse.foldl (fun a i => if bitOf e i then a * a % m * b % m else a * a % m) 1

/-! Ed25519. -/

/-- The prime of the field. -/
abbrev edPrime : Nat := 2 ^ 255 - 19

/-- The order of the base point. -/
abbrev edOrder : Nat := 2 ^ 252 + 27742317777372353535851937790883648493

/-- The inverse of `x` in the field. -/
def edInv (x : Nat) : Nat := powMod 255 x (edPrime - 2) edPrime

/-- The constant of the curve equation -x² + y² = 1 + d x² y². -/
def edD : Nat := (edPrime - 121665) * edInv 121666 % edPrime

/-- A point of the curve: (x/z, y/z), with t = x y / z. -/
structure EdPoint where
  x : Nat
  y : Nat
  z : Nat
  t : Nat
  deriving DecidableEq, Repr

/-- The sum of two points. -/
def EdPoint.add (a b : EdPoint) : EdPoint :=
  let m := edPrime
  let minus := (a.y + m - a.x) * (b.y + m - b.x) % m
  let plus := (a.y + a.x) * (b.y + b.x) % m
  let cross := 2 * edD * a.t % m * b.t % m
  let scale := 2 * a.z * b.z % m
  let e := plus + m - minus
  let f := scale + m - cross
  let g := scale + cross
  let h := plus + minus
  { x := e * f % m, y := g * h % m, z := f * g % m, t := e * h % m }

/-- `k` times a point, `k` below 2^256. -/
def EdPoint.mul (k : Nat) (a : EdPoint) : EdPoint :=
  (List.range 256).reverse.foldl (fun s i => let s2 := s.add s; if bitOf k i then s2.add a else s2) ⟨0, 1, 1, 0⟩

/-- Do two representations stand for one point? -/
def EdPoint.same (a b : EdPoint) : Bool :=
  a.x * b.z % edPrime == b.x * a.z % edPrime && a.y * b.z % edPrime == b.y * a.z % edPrime

/-- The point with ordinate `y` whose abscissa has the parity `odd`, if there is one. -/
def edPoint (y : Nat) (odd : Bool) : Option EdPoint :=
  let m := edPrime
  let u := (y * y + m - 1) % m
  let v := (edD * (y * y % m) + 1) % m
  let v3 := v * v % m * v % m
  let root := u * v3 % m * powMod 255 (u * v3 % m * (v3 * v % m) % m) ((m - 5) / 8) m % m
  let root := if v * (root * root % m) % m == u then root else root * powMod 255 2 ((m - 1) / 4) m % m
  if m ≤ y || v * (root * root % m) % m != u || (root == 0 && odd) then none
  else
    let x := if (root % 2 == 1) == odd then root else m - root
    some { x := x, y := y, z := 1, t := x * y % m }

/-- A point from its 32 bytes. -/
def edDecode (bs : List Byte) : Option EdPoint :=
  let v := leNat bs
  edPoint (v % 2 ^ 255) (bitOf v 255)

/-- Ed25519 verification of a 64-byte signature over a message with a public key, by the equation with the cofactor. -/
def edVerify (pub msg sig : List Byte) : Bool :=
  let s := leField sig 32 32
  let k := leNat (sha512 (sliceBytes sig 0 32 ++ sliceBytes pub 0 32 ++ msg)) % edOrder
  match edDecode (sliceBytes pub 0 32), edDecode (sliceBytes sig 0 32), edPoint (4 * edInv 5 % edPrime) false with
  | some a, some r, some b =>
    decide (s < edOrder) && (EdPoint.mul 8 (b.mul s)).same (EdPoint.mul 8 (r.add (a.mul k)))
  | _, _, _ => false

/-- The 32 bytes of a point. -/
def EdPoint.bytes (a : EdPoint) : List Byte :=
  let inv := edInv a.z
  leBytes 32 (a.y * inv % edPrime + a.x * inv % edPrime % 2 * 2 ^ 255)

/-- `k` times the base point, as bytes. -/
def edBase (k : Nat) : List Byte := ((edPoint (4 * edInv 5 % edPrime) false).map (fun b => (b.mul k).bytes)).getD []

/-- The secret scalar of a 32-byte seed, with the second half of its digest. -/
def edSecret (seed : List Byte) : Nat × List Byte :=
  let h := sha512 seed
  (2 ^ 254 + leField h 0 32 % 2 ^ 254 / 8 * 8, sliceBytes h 32 32)

/-- The Ed25519 public key of a seed. -/
def edPublic (seed : List Byte) : List Byte := edBase (edSecret seed).1

/-- The Ed25519 signature over a message by the key of a seed. -/
def edSign (seed msg : List Byte) : List Byte :=
  let a := edSecret seed
  let r := leNat (sha512 (a.2 ++ msg)) % edOrder
  let point := edBase r
  let k := leNat (sha512 (point ++ edBase a.1 ++ msg)) % edOrder
  point ++ leBytes 32 ((r + k * a.1) % edOrder)

/-! SHAKE. -/

/-- The 25 rotation counts of Keccak, lane (x, y) at x + 5 y. -/
def keccakTurns : List Nat :=
  let walk := (List.range 24).foldl (fun (s : (Nat × Nat) × List (Nat × Nat)) t =>
    ((s.1.2, (2 * s.1.1 + 3 * s.1.2) % 5), s.2 ++ [(s.1.1 + 5 * s.1.2, (t + 1) * (t + 2) / 2 % 64)])) ((1, 0), [])
  (List.range 25).map (tabGet 0 walk.2)

/-- The constants of Keccak's 24 rounds. -/
def keccakConsts : List Nat :=
  let bit := fun t => iterN t (fun r => if 128 ≤ r then (r * 2 - 256) ^^^ 0x71 else r * 2) 1 % 2
  (List.range 24).map (fun n => (List.range 7).foldl (fun c j => c + bit (7 * n + j) * 2 ^ (2 ^ j - 1)) 0)

/-- One round of Keccak-f[1600] with its constant. -/
def keccakRound (turns s : List Nat) (c : Nat) : List Nat :=
  let at_ := fun (v : List Nat) (x y : Nat) => v.getD (x % 5 + 5 * (y % 5)) 0
  let sums := (List.range 5).map (fun x => (List.range 5).foldl (fun a y => a ^^^ at_ s x y) 0)
  let mixed := s.zipIdx.map (fun v => v.1 ^^^ sums.getD ((v.2 + 4) % 5) 0 ^^^ rotl64 (sums.getD ((v.2 + 1) % 5) 0) 1)
  let moved := (List.range 25).map (fun i =>
    let x := i % 5 + 3 * (i / 5)
    rotl64 (at_ mixed x (i % 5)) (at_ turns x (i % 5)))
  let out := (List.range 25).map (fun i =>
    at_ moved i (i / 5) ^^^ ((2 ^ 64 - 1 - at_ moved (i + 1) (i / 5)) &&& at_ moved (i + 2) (i / 5)))
  match out with
  | [] => []
  | first :: rest => (first ^^^ c) :: rest

/-- Keccak-f[1600]. -/
def keccak (s : List Nat) : List Nat := keccakConsts.foldl (keccakRound keccakTurns) s

/-- The first `blocks` blocks of `rate` bytes of SHAKE output for an input: SHAKE128 has rate 168, SHAKE256 rate 136. -/
def shake (rate blocks : Nat) (bs : List Byte) : List Byte :=
  let pad := rate - bs.length % rate
  let msg := bs ++ (if pad = 1 then [0x9F] else 0x1F :: List.replicate (pad - 2) 0 ++ [0x80])
  let s := (List.range (msg.length / rate)).foldl (fun s k =>
    keccak (s.zipIdx.map (fun v => if 8 * v.2 < rate then v.1 ^^^ leField msg (rate * k + 8 * v.2) 8 else v.1)))
    (List.replicate 25 0)
  ((List.range blocks).foldl (fun (o : List Nat × List Byte) _ =>
    (keccak o.1, o.2 ++ (o.1.take (rate / 8)).flatMap (leBytes 8))) (s, [])).2

/-- The first `n` bytes of SHAKE256. -/
def shake256 (n : Nat) (bs : List Byte) : List Byte := (shake 136 (n / 136 + 1) bs).take n

/-! ML-DSA-65. -/

/-- The modulus. -/
abbrev dsaQ : Nat := 8380417

/-- A polynomial: 256 coefficients below the modulus. -/
abbrev Poly := List Nat

/-- The power of the root of unity at node `k` of the transform's tree. -/
def dsaRoot (k : Nat) : Nat :=
  let flipped := (List.range 8).foldl (fun a i => if bitOf k i then a + 2 ^ (7 - i) else a) 0
  powMod 8 1753 flipped dsaQ

/-- The number-theoretic transform of the 2^n coefficients at node `k`. -/
def dsaNtt : (n k : Nat) → Poly → Poly
  | 0, _, w => w
  | n + 1, k, w =>
    let turned := (w.drop (2 ^ n)).map (fun c => dsaRoot k * c % dsaQ)
    dsaNtt n (2 * k) ((w.take (2 ^ n)).zipWith (fun a b => (a + b) % dsaQ) turned) ++
      dsaNtt n (2 * k + 1) ((w.take (2 ^ n)).zipWith (fun a b => (a + dsaQ - b) % dsaQ) turned)

/-- The inverse transform. -/
def dsaInvNtt : (n k : Nat) → Poly → Poly
  | 0, _, w => w
  | n + 1, k, w =>
    let lo := dsaInvNtt n (2 * k) (w.take (2 ^ n))
    let hi := dsaInvNtt n (2 * k + 1) (w.drop (2 ^ n))
    let half := (dsaQ + 1) / 2
    let back := powMod 23 (dsaRoot k) (dsaQ - 2) dsaQ * half % dsaQ
    lo.zipWith (fun a b => (a + b) * half % dsaQ) hi ++ lo.zipWith (fun a b => (a + dsaQ - b) * back % dsaQ) hi

/-- Coefficients of `width` bits, packed from the low bits of the first byte on. -/
def unpackCoeffs (width : Nat) (bs : List Byte) : List Nat :=
  let v := leNat bs
  (List.range 256).map (fun i => fieldOf v (width * i + width - 1) (width * i))

/-- An entry of the public matrix in the transform's domain, from its seed, column and row. -/
def dsaEntry (rho : List Byte) (col row : Nat) : Poly :=
  let bs := shake 168 8 (rho ++ leBytes 1 col ++ leBytes 1 row)
  (((List.range 448).map (fun i => leField bs (3 * i) 3 % 2 ^ 23)).filter (fun c => decide (c < dsaQ))).take 256

/-- The challenge with 49 coefficients of 1 or -1, from its seed. -/
def dsaChallenge (seed : List Byte) : Poly :=
  let bs := shake 136 8 seed
  let signs := leField bs 0 8
  ((List.range 49).foldl (fun (s : Poly × List Byte) n =>
    let left := s.2.dropWhile (fun b => decide (207 + n < b.toNat))
    let j := (left.headD 0).toNat
    ((s.1.set (207 + n) (s.1.getD j 0)).set j (if bitOf signs n then dsaQ - 1 else 1), left.drop 1))
    (List.replicate 256 0, bs.drop 8)).1

/-- The hint bits of the six polynomials: none where the encoding is malformed. -/
def dsaHints (bs : List Byte) : Option (List (List Nat)) :=
  let ends := (List.range 6).map (fun i => leField bs (55 + i) 1)
  let starts := 0 :: ends
  let sets := (List.range 6).map (fun i => (List.range (ends.getD i 0)).drop (starts.getD i 0) |>.map (fun k => leField bs k 1))
  let rising := fun (xs : List Nat) => (xs.zip (xs.drop 1)).all (fun p => decide (p.1 < p.2))
  if (starts.zip ends).all (fun p => decide (p.1 ≤ p.2)) && ends.all (fun e => decide (e ≤ 55)) && sets.all rising &&
      ((List.range 55).drop (ends.getD 5 0)).all (fun k => leField bs k 1 == 0) then some sets else none

/-- A coefficient in two parts: the high one of 16, and the low one around 0. -/
def dsaSplit (r : Nat) : Nat × Int :=
  let step := (dsaQ - 1) / 16
  let low : Int := if step < 2 * (r % step) then ((r % step : Nat) : Int) - step else ((r % step : Nat) : Int)
  if (r : Int) - low == ((dsaQ - 1 : Nat) : Int) then (0, low - 1) else ((((r : Int) - low) / step).toNat, low)

/-- The high part of a coefficient, moved by one where the hint says so. -/
def dsaHigh (hint : Bool) (r : Nat) : Nat :=
  let p := dsaSplit r
  if !hint then p.1 else if 0 < p.2 then (p.1 + 1) % 16 else (p.1 + 15) % 16

/-- Sum, difference and product of polynomials, coefficient by coefficient. -/
def dsaAdd (a b : Poly) : Poly := a.zipWith (fun x y => (x + y) % dsaQ) b
/-- The difference. -/
def dsaSub (a b : Poly) : Poly := a.zipWith (fun x y => (x + dsaQ - y) % dsaQ) b
/-- The product in the transform's domain. -/
def dsaMul (a b : Poly) : Poly := a.zipWith (fun x y => x * y % dsaQ) b

/-- Every coefficient lies within `bound` of 0, itself excluded. -/
def dsaWithin (bound : Nat) (w : Poly) : Bool := w.all (fun v => decide (v < bound) || decide (dsaQ < v + bound))

/-- The public matrix: six rows of five entries. -/
def dsaMatrix (rho : List Byte) : List (List Poly) :=
  (List.range 6).map (fun row => (List.range 5).map (fun col => dsaEntry rho col row))

/-- A row of the matrix times five polynomials, in the transform's domain. -/
def dsaDot (row vs : List Poly) : Poly :=
  (row.zip vs).foldl (fun a p => dsaAdd a (dsaMul p.1 p.2)) (List.replicate 256 0)

/-- Values of `width` bits packed from the low bits of the first byte on. -/
def packCoeffs (width : Nat) (w : List Nat) : List Byte :=
  leBytes (width * w.length / 8) ((w.zipIdx.map (fun v => v.1 * 2 ^ (width * v.2))).foldl (· + ·) 0)

/-- ML-DSA-65 verification with an empty context string: of a 3,309-byte signature over a message with a 1,952-byte key. -/
def mldsaVerify (pub msg sig : List Byte) : Bool :=
  let c := dsaNtt 8 1 (dsaChallenge (sliceBytes sig 0 48))
  let z := (List.range 5).map (fun i => (unpackCoeffs 20 (sliceBytes sig (48 + 640 * i) 640)).map (fun v =>
    (2 ^ 19 + dsaQ - v) % dsaQ))
  let zs := z.map (dsaNtt 8 1)
  let mu := shake256 64 (shake256 64 (sliceBytes pub 0 1952) ++ [0, 0] ++ msg)
  match dsaHints (sliceBytes sig 3248 61) with
  | none => false
  | some hints =>
    let rows := (dsaMatrix (sliceBytes pub 0 32)).zipIdx.map (fun row =>
      let t := dsaNtt 8 1 ((unpackCoeffs 10 (sliceBytes pub (32 + 320 * row.2) 320)).map (fun v => v * 2 ^ 13 % dsaQ))
      let w := dsaInvNtt 8 1 (dsaSub (dsaDot row.1 zs) (dsaMul c t))
      w.zipIdx.map (fun r => dsaHigh ((hints.getD row.2 []).contains r.2) r.1))
    z.all (dsaWithin (2 ^ 19 - 196)) && shake256 48 (mu ++ rows.flatMap (packCoeffs 4)) == sliceBytes sig 0 48

/-- A secret polynomial with coefficients from -4 to 4, from its seed and its number. -/
def dsaShort (seed : List Byte) (i : Nat) : Poly :=
  let halves := (shake 136 8 (seed ++ leBytes 2 i)).flatMap (fun b => [b.toNat % 16, b.toNat / 16])
  ((halves.filter (fun h => decide (h < 9))).map (fun h => (dsaQ + 4 - h) % dsaQ)).take 256

/-- A key pair of ML-DSA-65 as its seed gives it; polynomials of the secret part in the transform's domain. -/
structure DsaKey where
  /-- The public key, 1,952 bytes -/
  pub : List Byte
  /-- What the mask is drawn from -/
  key : List Byte
  /-- The public matrix -/
  matrix : List (List Poly)
  /-- The two secret vectors -/
  s1 : List Poly
  s2 : List Poly
  /-- The low parts of the public vector -/
  t0 : List Poly

/-- The key pair of a 32-byte seed. -/
def dsaKey (seed : List Byte) : DsaKey :=
  let h := shake256 128 (seed ++ [6, 5])
  let rho := sliceBytes h 0 32
  let short := (List.range 11).map (dsaShort (sliceBytes h 32 64))
  let m := dsaMatrix rho
  let s1 := (short.take 5).map (dsaNtt 8 1)
  let t := m.zipWith (fun row e => dsaAdd (dsaInvNtt 8 1 (dsaDot row s1)) e) (short.drop 5)
  { pub := rho ++ t.flatMap (fun w => packCoeffs 10 (w.map (fun c => (c + 4095) / 8192)))
    key := sliceBytes h 96 32
    matrix := m
    s1 := s1
    s2 := (short.drop 5).map (dsaNtt 8 1)
    t0 := t.map (fun w => dsaNtt 8 1 (w.map (fun c => (c + dsaQ - (c + 4095) / 8192 * 8192) % dsaQ))) }

/-- The 61 bytes of the hints: positions in order, then the count after each polynomial. -/
def dsaHintBytes (hints : List (List Nat)) : List Byte :=
  let flat := hints.flatten
  flat.flatMap (leBytes 1) ++ List.replicate (55 - flat.length) 0 ++
    (List.range hints.length).flatMap (fun i => leBytes 1 (hints.take (i + 1)).flatten.length)

/-- One attempt to sign with the masks numbered from `n` on; none where the signature would show the secret. -/
def dsaAttempt (k : DsaKey) (mu mask : List Byte) (n : Nat) : Option (List Byte) :=
  let ys := (List.range 5).map (fun i =>
    (unpackCoeffs 20 (shake256 640 (mask ++ leBytes 2 (n + i)))).map (fun v => (2 ^ 19 + dsaQ - v) % dsaQ))
  let yh := ys.map (dsaNtt 8 1)
  let w := k.matrix.map (fun row => dsaInvNtt 8 1 (dsaDot row yh))
  let seed := shake256 48 (mu ++ w.flatMap (fun v => packCoeffs 4 (v.map (dsaHigh false))))
  let c := dsaNtt 8 1 (dsaChallenge seed)
  let times := fun (v : Poly) => dsaInvNtt 8 1 (dsaMul c v)
  let z := ys.zipWith (fun y s => dsaAdd y (times s)) k.s1
  let r := w.zipWith (fun v s => dsaSub v (times s)) k.s2
  let e := k.t0.map times
  let hints := (r.zip e).map (fun p => ((p.1.zip p.2).zipIdx.filter (fun v =>
    dsaHigh false v.1.1 != dsaHigh false ((v.1.1 + v.1.2) % dsaQ))).map (·.2))
  if z.all (dsaWithin (2 ^ 19 - 196)) && r.all (fun v => v.all (fun x => decide ((dsaSplit x).2.natAbs < (dsaQ - 1) / 32 - 196))) &&
      e.all (dsaWithin ((dsaQ - 1) / 32)) && decide (hints.flatten.length ≤ 55) then
    some (seed ++ z.flatMap (fun v => packCoeffs 20 (v.map (fun x => (2 ^ 19 + dsaQ - x) % dsaQ))) ++ dsaHintBytes hints)
  else none

/-- The first of at most `fuel` attempts that gives a signature. -/
def dsaFirst (k : DsaKey) (mu mask : List Byte) : (fuel n : Nat) → Option (List Byte)
  | 0, _ => none
  | fuel + 1, n =>
    match dsaAttempt k mu mask n with
    | some sig => some sig
    | none => dsaFirst k mu mask fuel (n + 5)

/-- The ML-DSA-65 signature over a message with an empty context string, by the key of a seed; `rnd` is the 32 random bytes
of the hedged variant. None after the 814 attempts that FIPS 204 lets an implementation stop at. -/
def mldsaSign (seed rnd msg : List Byte) : Option (List Byte) :=
  let k := dsaKey seed
  let mu := shake256 64 (shake256 64 k.pub ++ [0, 0] ++ msg)
  dsaFirst k mu (shake256 64 (k.key ++ rnd ++ mu)) 814 0

/-! The device keys (16 R446). -/

/-- HMAC-SHA-512 with a key of at most 128 bytes. -/
def mac512 (key msg : List Byte) : List Byte :=
  let under := fun (c : Byte) => (sliceBytes (key ++ List.replicate 128 0) 0 128).map (fun b => b ^^^ c)
  sha512 (under 0x5C ++ sha512 (under 0x36 ++ msg))

/-- A 32-byte seed that the device secret gives for an info string. DESIGN CHOICE (Assumption 8): no salt, and the secret's
first byte is its least significant. -/
def deviceSeed (secret : Nat) (info : List Byte) : List Byte :=
  sliceBytes (mac512 (mac512 (List.replicate 64 0) (leBytes 32 secret)) (info ++ [1])) 0 32

end Sys2Proof.Machine
end

