-- ==== Sys2Proof/Machine/Slot.lean ====
section
/-! DEFINITION. Fuses, signed objects, the attached flash, the selector, the Boot Configuration Block and the checks of
a slot (16 R426 to R431, R434). -/
namespace Sys2Proof.Machine

/-! Fuses (16 R426). -/

/-- Key slot `j` is programmed: any of its bits is 1. -/
def keyProgrammed (f : Fuses) (j : Nat) : Bool := !allZero (tabGet [] f.keys j)
/-- Key slot `j` is usable: programmed and not revoked. -/
def keyUsable (f : Fuses) (j : Nat) : Bool := keyProgrammed f j && !bitOf f.revoked j
/-- The thermometer count t. -/
def fuseCount (f : Fuses) : Nat := onesBelow f.therm 64
/-- Factory test mode (14 R403, 16 Table 16.1). -/
def factoryMode (f : Fuses) : Bool := f.factory && !f.testLock
/-- The member of the SKU option word. -/
def fuseMember (f : Fuses) : Nat := fieldOf f.sku 21 20
/-- Programmed slots, one bit each. -/
def programmedSlots (f : Fuses) : Nat :=
  (List.range 4).foldl (fun m j => if keyProgrammed f j then m + 2 ^ j else m) 0
/-- LD_FUSE_STATE (16 Table 16.14). -/
def fuseState (f : Fuses) : Nat :=
  fuseCount f + programmedSlots f * 2 ^ 8 + f.revoked % 16 * 2 ^ 12 + (if factoryMode f then 2 ^ 16 else 0)

/-! Signed objects (16 R427, R428). -/

/-- Bytes of a signature block. -/
abbrev sigBytes : Nat := 5376

/-- The domain-tagged message that an object's signatures cover. -/
def signedMessage (tag : String) (body : List Byte) : List Byte := ascii tag ++ sha512 body

/-- A signed object is valid (16 R428). -/
def signedValid (f : Fuses) (tag : String) (body blk : List Byte) : Bool :=
  let m := signedMessage tag body
  let slot := leField blk 6 1
  sliceBytes blk 0 4 == ascii "WSIG" && leField blk 4 2 == 1 &&
    edVerify (sliceBytes blk 16 32) m (sliceBytes blk 2000 64) &&
    mldsaVerify (sliceBytes blk 48 1952) m (sliceBytes blk 2064 3309) &&
    decide (slot < 4) && keyUsable f slot && tabGet [] f.keys slot == sha512 (sliceBytes blk 16 1984)

/-! The attached flash (16 R429). PRESUMED: programming a NOR flash only clears bits. -/

/-- Bytes of the flash. -/
def flashBytes (d : Device) (a n : Nat) : List Byte := memReadN 0xFF d.mems.flash a n
/-- The sectors that hold [a, a + n) are erased. -/
def flashErase (a n : Nat) (d : Device) : Device :=
  { d with mems := { d.mems with flash := memClear d.mems.flash (a / 65536 * 65536) ((a + n + 65535) / 65536 * 65536) } }
/-- Bytes are programmed from address `a`. -/
def flashProgram (a : Nat) (bs : List Byte) (d : Device) : Device :=
  let new := (bs.zip (flashBytes d a bs.length)).map (fun p => p.1 &&& p.2)
  { d with mems := { d.mems with flash := memWriteN 0xFF d.mems.flash a new } }

/-- Base of slot A or B. -/
def slotBase (slot : Nat) : Nat := slot * 0x1000000
/-- Base of selector copy `c`. -/
def selBase (c : Nat) : Nat := 0x2000000 + c * 0x10000
/-- Selector record `c`. -/
def selRecord (d : Device) (c : Nat) : List Byte := flashBytes d (selBase c) 64
/-- A selector record is valid. -/
def selValid (r : List Byte) : Bool :=
  sliceBytes r 0 4 == ascii "WSEL" && leField r 60 4 == crc32c (sliceBytes r 0 60) && decide (leField r 8 1 < 2)
/-- Sequence number `a` is greater than `b`, compared modulo 2^32. -/
def seqGreater (a b : Nat) : Bool :=
  let k := (a + 2 ^ 32 - b) % 2 ^ 32
  decide (0 < k) && decide (k < 2 ^ 31)
/-- The copy of the selector in force, if any is valid. -/
def selInForce (d : Device) : Option Nat :=
  let a := selRecord d 0
  let b := selRecord d 1
  if selValid a && selValid b then some (if seqGreater (leField b 4 4) (leField a 4 4) then 1 else 0)
  else if selValid a then some 0
  else if selValid b then some 1
  else none
/-- The slot that the selector names: slot A when neither copy is valid. -/
def selSlot (d : Device) : Nat :=
  match selInForce d with
  | some c => leField (selRecord d c) 8 1
  | none => 0
/-- The older selector copy, which the next write takes. -/
def selOlder (d : Device) : Nat :=
  match selInForce d with
  | some c => 1 - c
  | none => 0
/-- The selector is written to name a slot, with SEQ + 1 (16 R442). -/
def selWrite (slot : Nat) (d : Device) : Device :=
  let seq := match selInForce d with
    | some c => (leField (selRecord d c) 4 4 + 1) % 2 ^ 32
    | none => 1
  let body := ascii "WSEL" ++ leBytes 4 seq ++ leBytes 1 slot ++ List.replicate 51 0
  let c := selOlder d
  d |> flashErase (selBase c) 64 |> flashProgram (selBase c) (body ++ leBytes 4 (crc32c body))

/-! The Boot Configuration Block (16 R430). A slot is read through a reader: offset and length to bytes. -/

/-- The slot in the flash. -/
def flashSlot (d : Device) (slot : Nat) : Nat → Nat → List Byte := fun off n => flashBytes d (slotBase slot + off) n
/-- Address of retained copy `c` (16 R434). -/
def copyBase (d : Device) (c : Nat) : Nat := reserveBase d + (if c = 0 then 0x100000 else 0x2000000)
/-- The slot image in retained copy `c`. -/
def copySlot (d : Device) (c : Nat) : Nat → Nat → List Byte := fun off n => memBytes d (copyBase d c + off) n

/-- BCB_BYTES of a block. -/
def bcbBytes (b : List Byte) : Nat := leField b 12 4
/-- The BCB of a slot with its signature block, at most 60,160 + 5,376 bytes. -/
def slotBcb (rd : Nat → Nat → List Byte) : List Byte :=
  let n := leNat (rd 12 4)
  if n ≤ 60160 then rd 0 (n + sigBytes) else rd 0 832
/-- SVN. -/
def bcbSvn (b : List Byte) : Nat := leField b 6 1
/-- GENERATION. -/
def bcbGeneration (b : List Byte) : Nat := leField b 8 4
/-- FW_VERSION. -/
def bcbVersion (b : List Byte) : Nat := leField b 16 4
/-- IMAGE_COUNT. -/
def bcbImages (b : List Byte) : Nat := leField b 26 1
/-- KEY_SLOT of the block's signature. -/
def bcbKeySlot (b : List Byte) : Nat := leField b (bcbBytes b + 6) 1
/-- Image entry `k`. -/
def bcbEntry (b : List Byte) (k : Nat) : List Byte := sliceBytes b (64 + 80 * k) 80
/-- The image entries. -/
def bcbEntries (b : List Byte) : List (List Byte) := (List.range (bcbImages b)).map (bcbEntry b)
/-- The entry of an image type. -/
def bcbImage (b : List Byte) (ty : Nat) : Option (List Byte) := (bcbEntries b).find? (fun e => leField e 0 1 == ty)
/-- OFFSET of an entry. -/
def entryOffset (e : List Byte) : Nat := leField e 4 4
/-- LENGTH of an entry. -/
def entryLength (e : List Byte) : Nat := leField e 8 4
/-- DIGEST of an entry. -/
def entryDigest (e : List Byte) : List Byte := sliceBytes e 16 64

/-- Greatest LENGTH of an image type. -/
def imageLimit (ty : Nat) : Nat :=
  match ty with
  | 1 => 0x180000
  | 2 => 0x40000
  | 3 => 0x400000
  | 4 => 0x40000
  | 5 => 0x10000
  | 6 => 0x100000
  | _ => 0

/-- Check 1 of R431: MAGIC, FORMAT and BCB_BYTES, and every byte or bit that the table says is zero. -/
def bcbFormatOk (b : List Byte) : Bool :=
  let n := bcbBytes b
  sliceBytes b 0 4 == ascii "WBCB" && leField b 4 2 == 1 && n % 64 == 0 && decide (832 ≤ n) && decide (n ≤ 60160) &&
    fieldOf (leField b 7 1) 7 3 == 0 && fieldOf (leField b 24 1) 7 3 == 0 && fieldOf (leField b 25 1) 7 4 == 0 &&
    leField b 27 1 == 0 && leField b 45 1 == 0 && allZero (sliceBytes b 52 12) && allZero (sliceBytes b 705 63) &&
    allZero (sliceBytes b 832 (n - 832))

/-- One image entry meets R430. -/
def entryOk (e : List Byte) : Bool :=
  let ty := leField e 0 1
  let off := entryOffset e
  decide (1 ≤ ty) && decide (ty ≤ 6) && decide (leField e 1 1 < 2) &&
    (leField e 1 1 == 0 || ty == 1 || ty == 5 || ty == 6) && leField e 2 2 == 0 && leField e 12 4 == 0 &&
    off % 4096 == 0 && decide (0x10000 ≤ off) && decide (entryLength e ≤ imageLimit ty) &&
    decide (off + entryLength e ≤ 0x800000)

/-- Check 5 of R431: the image entries meet R430. -/
def bcbEntriesOk (b : List Byte) : Bool :=
  let es := bcbEntries b
  let count := fun ty => (es.filter (fun e => leField e 0 1 == ty)).length
  (bcbImages b == 5 || bcbImages b == 6) && es.all entryOk && [1, 2, 3, 4, 5].all (fun ty => count ty == 1) &&
    decide (count 6 ≤ 1) &&
    (List.range es.length).all (fun i => (List.range i).all (fun j =>
      let x := es.getD i []
      let y := es.getD j []
      !overlaps (entryOffset x) (entryLength x) (entryOffset y) (entryLength y)))

/-- Bytes of an image's body, padded. -/
def imageBody (img : List Byte) : Nat := (leField img 8 4 + 63) / 64 * 64

/-- Check 6 of R431 for one image: its digest, its header and its signature. -/
def imageOk (f : Fuses) (rd : Nat → Nat → List Byte) (e : List Byte) : Bool :=
  let img := rd (entryOffset e) (entryLength e)
  let n := 64 + imageBody img
  sha512 img == entryDigest e && sliceBytes img 0 4 == ascii "WIMG" && leField img 4 1 == leField e 0 1 &&
    allZero (sliceBytes img 5 3) && allZero (sliceBytes img 16 48) && entryLength e == n + sigBytes &&
    signedValid f "EF-IMG01" (sliceBytes img 0 n) (sliceBytes img n sigBytes)

/-- The first check of R431 that a slot fails; none: it is bootable. -/
def slotCheck (f : Fuses) (rd : Nat → Nat → List Byte) : Option Nat :=
  let b := slotBcb rd
  if !bcbFormatOk b then some 1
  else if !signedValid f "EF-BCB01" (sliceBytes b 0 (bcbBytes b)) (sliceBytes b (bcbBytes b) sigBytes) then some 2
  else if decide (bcbSvn b < fuseCount f) then some 3
  else if !bitOf (leField b 24 1) (fuseMember f) then some 4
  else if !bcbEntriesOk b then some 5
  else if !(bcbEntries b).all (imageOk f rd) then some 6
  else none

/-! The retained image (16 R434). -/

/-- The retained header. -/
def retainedHeader (d : Device) : List Byte := memBytes d (reserveBase d) 64
/-- The retained header is good. -/
def retainedValid (r : List Byte) : Bool :=
  sliceBytes r 0 4 == ascii "WRTN" && leField r 60 4 == crc32c (sliceBytes r 0 60) && decide (leField r 8 1 < 2)
/-- The retained header names a copy, with a sequence number; LD_STATUS.RUN_COPY follows. -/
def retainedWrite (copy seq : Nat) (d : Device) : Device :=
  let body := ascii "WRTN" ++ leBytes 4 seq ++ leBytes 1 copy ++ List.replicate 51 0
  d |> memPut (reserveBase d) (body ++ leBytes 4 (crc32c body)) |> setFld LD_STATUS 2 2 copy
/-- A slot of the flash is copied into a retained copy. -/
def retainedCopy (slot copy : Nat) (d : Device) : Device :=
  let d := memPut (copyBase d copy) (flashBytes d (slotBase slot) 0x1000000) d
  modLodge (fun l => { l with copies := if copy = 0 then (slot, l.copies.2) else (l.copies.1, slot) }) d

/-! The running set. -/

/-- The running slot. -/
def runSlot (d : Device) : Nat := fld d LD_STATUS 3 3
/-- The inactive slot: the one not running; in recovery the one that the selector does not name (16 R433, R440). -/
def idleSlot (d : Device) : Nat := if d.lodge.stage == .recovery then 1 - selSlot d else 1 - runSlot d
/-- The running BCB is honoured with a flag. -/
def bcbFlag (d : Device) (i : Nat) : Bool := bitOf (leField d.lodge.bcb 7 1) i

end Sys2Proof.Machine
end

