-- ==== Sys2Proof/Machine/Head.lean ====
section
/-! DEFINITION. Sensor heads: authentication, life counters, serial rechecks (09 R279 to R285). -/
namespace Sys2Proof.Machine

/-- HEAD_STATE of stream `s` takes a value; a change is an event (09 Table 9.11, 16 R438). -/
def setHeadState (s v : Nat) (d : Device) : Device :=
  if headState d s == v then d
  else d |> setFld (DR_STREAM_STATUS s) 3 2 v |> lodgeEvent 2 (leBytes 1 s ++ leBytes 1 v)

/-- Authentication fails with a cause of Table 9.8; source 67. -/
def headFail (s cause : Nat) (d : Device) : Device :=
  d |> modHead s (fun h => { h with challenge := none }) |> setFld (DR_STREAM_STATUS s) 11 8 cause |> setHeadState s 3
    |> raiseFault 67 [] [] (s + cause * 2 ^ 8)

/-- The issuer key that the running Lodge firmware set names by identifier (09 R280, 16 Table of image types, type 5). -/
def issuerOf (d : Device) (id : Nat) : Option (List Byte) :=
  match bcbImage d.lodge.bcb 5 with
  | some e => Config.issuerKey (entryDigest e) id
  | none => none

/-- The certificate of a head record verifies with its issuer's key. -/
def certValid (d : Device) (r : List Byte) : Bool :=
  match issuerOf d (leField r 0x128 4) with
  | some k => edVerify k (sliceBytes r 0x100 64) (sliceBytes r 0x140 64)
  | none => false

/-- HEAD_AUTHENTICATION (09 R280 steps 1 to 3): the record as read, addresses 0x0000 to 0x027F, or none where the head
does not acknowledge. The challenge is a free value. -/
def headAuthentication (s : Nat) (r : Option (List Byte)) (d : Device) : Device :=
  if !(lodgeUp d && decide (s < 32)) then d else
  match r with
  | none => d |> modHead s (fun h => { h with challenge := none }) |> setHeadState s 0
  | some r =>
    let r := sliceBytes r 0 0x280
    let d := modHead s (fun h => { h with record := r, challenge := none, recheck := false }) d
    let d := applyIf (headState d s != 2) (setHeadState s 1) d
    if !(sliceBytes r 0 4 == ascii "WHRD" && leField r 4 2 == 1 && leField r 0x10 4 == crc32c (sliceBytes r 0x20 0x90)) then
      headFail s 1 d
    else if !certValid d r then headFail s 2 d
    else if leField r 0x120 8 != leField r 8 8 then headFail s 3 d
    else d |> modHead s (fun h => { h with challenge := some (leBytes 32 (Config.free d.freeCtr)) }) |> nextFree

/-- A life copy has a valid CRC (09 Table 9.6). -/
def lifeValid (c : List Byte) : Bool := leField c 60 4 == crc32c (sliceBytes c 0 60)

/-- The life copy that counts: valid, with the greater SEQ (09 R283). -/
def lifeCopy (a b : List Byte) : Option (List Byte) :=
  if lifeValid a && lifeValid b then some (if seqGreater (leField b 0 4) (leField a 0 4) then b else a)
  else if lifeValid a then some a
  else if lifeValid b then some b
  else none

/-- The head becomes AUTHENTIC: its life counters are read; MAINT, LIFE_ERR and the running time of another head are
cleared (09 R283, R284). -/
def headAccept (s : Nat) (d : Device) : Device :=
  let h := headOf d s
  let serial := leField h.record 8 8
  let a := sliceBytes h.record 0x200 64
  let b := sliceBytes h.record 0x240 64
  let fresh := fun (h : SensorHead) => { h with opBeats := 0, opSince := h.opSince.map (fun _ => d.clock.beat), cold := false }
  let d := applyIf (h.serial != some serial)
    (fun d => d |> setBit (DR_STREAM_STATUS s) 4 false |> setBit (DR_STREAM_STATUS s) 6 false |> modHead s fresh) d
  let c := (lifeCopy a b).getD []
  let d := modHead s (fun h => { h with challenge := none, serial := some serial, lifeA := a, lifeB := b,
                                        quarters := leField c 4 4, thermal := leField c 8 4, clean := leField c 12 4 }) d
  let d := applyIf (lifeCopy a b).isNone (fun d => d |> setBit (DR_STREAM_STATUS s) 6 true |> setMaint s) d
  d |> setFld (DR_STREAM_STATUS s) 11 8 0 |> setHeadState s 2 |> checkMaint s

/-- HEAD_RESPONSE (09 R280 steps 4 and 5): the signature read after RESP_READY. -/
def headResponse (s : Nat) (sig : List Byte) (d : Device) : Device :=
  if !lodgeUp d then d else
  let h := headOf d s
  match h.challenge with
  | none => d
  | some c =>
    if edVerify (sliceBytes h.record 0x100 32) (ascii "WHCH" ++ c ++ sliceBytes h.record 8 8) (sliceBytes sig 0 64)
    then headAccept s d
    else headFail s 4 d

/-- HEAD_RESPONSE_TIMEOUT: no response within 50 ms. -/
def headTimeout (s : Nat) (d : Device) : Device :=
  if lodgeUp d && (headOf d s).challenge.isSome then headFail s 5 d else d

/-- The serial read from the head of stream `s` is compared (09 R285); none: no acknowledgement, which the rule does not
judge. -/
def checkSerial (s : Nat) (serial : Option Nat) (d : Device) : Device :=
  let h := headOf d s
  match serial, h.serial with
  | some x, some y =>
    if x == y then d
    else d |> modHead s (fun h => { h with challenge := none, meshed := false })
      |> setBit (DR_STREAM_STATUS s) 5 true |> setHeadState s 1
  | _, _ => d

/-- A life copy: SEQ, the three counts, zeros, CRC (09 Table 9.6). -/
def lifeBytes (seq : Nat) (h : SensorHead) : List Byte :=
  let body := leBytes 4 seq ++ leBytes 4 h.quarters ++ leBytes 4 h.thermal ++ leBytes 4 h.clean ++ List.replicate 44 0
  body ++ leBytes 4 (crc32c body)

/-- The copy with the older SEQ is written with SEQ + 1 and the counts (09 R283); an invalid copy is the older. -/
def lifeWrite (h : SensorHead) : SensorHead :=
  let newer := lifeCopy h.lifeA h.lifeB
  let bytes := lifeBytes ((leField (newer.getD []) 0 4 + 1) % 2 ^ 32) h
  if lifeValid h.lifeA && newer == some h.lifeA then { h with lifeB := bytes } else { h with lifeA := bytes }

/-- LIFE_UPDATE (09 R283, R285): every 15 minutes; `serial` is the SERIAL read. -/
def lifeUpdate (s : Nat) (serial : Option Nat) (d : Device) : Device :=
  if !(lodgeUp d && headState d s == 2) then d else
  let d := checkSerial s serial d
  if headState d s != 2 then d
  else
    let d := settleQuarters s d
    if rbit d (DR_STREAM_STATUS s) 6 then d else modHead s lifeWrite d

/-- TEMPERATURE_POLL (09 R283): the signed temperature at TEMP_REG in degrees. -/
def temperaturePoll (s : Nat) (temp : Int) (d : Device) : Device :=
  if !(lodgeUp d && headState d s == 2) then d else
  let h := headOf d s
  let hi := signedOf 16 (leField h.record 0x1CC 2)
  let lo := signedOf 16 (leField h.record 0x1CE 2)
  if decide (hi ≤ temp) && h.cold then
    d |> modHead s (fun h => { h with thermal := addCount h.thermal 1, cold := false }) |> checkMaint s
  else if decide (temp ≤ lo) then modHead s (fun h => { h with cold := true }) d
  else d

/-- LOCKED_RISE (09 R285): the receiver locks; the serials of the four streams of receiver `r` are to be rechecked. -/
def lockedRise (r : Nat) (d : Device) : Device :=
  if !(isReady d && decide (r < 8) && rbit d (CSI_CTRL r) 0 && !rbit d (CSI_STATUS r) 0) then d else
  d |> setBit (CSI_STATUS r) 0 true
    |> forEach (List.range 4) (fun v => modHead (4 * r + v) (fun h => { h with recheck := true }))

/-- SERIAL_RECHECK (09 R285): within 100 ms of a rise of LOCKED. -/
def serialRecheck (s : Nat) (serial : Option Nat) (d : Device) : Device :=
  if lodgeUp d && (headOf d s).recheck then d |> modHead s (fun h => { h with recheck := false }) |> checkSerial s serial
  else d

end Sys2Proof.Machine
end

