-- ==== Sys2Proof/Machine/Boot.lean ====
section
/-! DEFINITION. Reset, cold boot, recovery and safe-state restart (16 R432 to R434, 14 R389 to R392, R402; 08 R253). -/
namespace Sys2Proof.Machine

/-! Reset. -/

/-- A cold reset of the whole device: fuses, flash, host memory and what stands outside the device stay (17 R448,
18 R482, 15 R408). -/
def coldReset (d : Device) : Device :=
  { mems := { host := d.mems.host, flash := d.mems.flash }
    fuses := d.fuses
    pins := d.pins
    belv := { sysclkLost := d.belv.sysclkLost }
    gate := { millivolts := d.gate.millivolts }
    freeCtr := d.freeCtr }

/-- LINK_DEGRADED follows PCI_LINK: below x4 or below 64 GT/s (15 Table 15.9, 15.15). -/
def linkDegraded (d : Device) : Device :=
  setBit DEV_STATUS 6 (rbit d PCI_LINK 17 && !(fld d PCI_LINK 3 0 == 6 && fld d PCI_LINK 8 4 == 4)) d

/-- The commands in flight, by queue: those that a restart ends (08 R253). -/
def inFlight (d : Device) : List (Nat × Command) :=
  d.cloak.interrupted ++ d.cloak.queues.filterMap (fun e => e.2.cmd.map (fun c => (e.1, c)))

/-- The internal reset of a safe-state restart (14 R389 stage 3, R390): every register that is not retained resets,
scratchpads, local memories and code memories are zeroed, the beat counter starts anew (05 R133), DRAM, the retained
registers, the link and the redundancy counts stay. -/
def safeReset (d : Device) : Device :=
  let dram := dramBytes d
  let arm := rbit d BV_WDIGEST_STATUS 0
  let d := resetRegs true d
  let d : Device := { d with
    mems := { host := d.mems.host, flash := d.mems.flash, dev := memClear d.mems.dev dram (2 ^ 48) }
    hostif := { answer := d.hostif.answer }
    clock := { before := d.clock.before + d.clock.beat }
    cloak := { interrupted := inFlight d
               stoppedBeat := if d.cloak.interrupted.isEmpty then d.clock.beat else d.cloak.stoppedBeat }
    serve := {}
    comp := {}
    belv := { episode := d.belv.episode, programs := d.belv.programs, nextOrder := d.belv.nextOrder,
              began := d.belv.began, safe := d.belv.safe, transients := d.belv.transients,
              sysclkLost := d.belv.sysclkLost }
    gate := { millivolts := d.gate.millivolts, emergency := d.gate.emergency, quietSince := d.gate.quietSince }
    cloche := {}
    drape := {}
    sense := {}
    can := []
    tower := {}
    eth := []
    lodge := { stage := d.lodge.stage, checked := d.lodge.checked, bcb := d.lodge.bcb, copies := d.lodge.copies } }
  d |> wr BV_WDIGEST_STATUS (if arm then 1 else 0) |> setBit DEV_STATUS 5 true |> linkDegraded

/-- SAFE_STATE_ENTRY (14 R389 stages 1 to 3, R391): a Critical episode is open; CAN_TX recessive, ALIVE low, everything
stopped, the restart counted. -/
def safeEntry (d : Device) : Device :=
  if rbit d BV_EPISODE 31 && fld d BV_EPISODE 30 29 == 3 && d.belv.safe == .none then d |> countRestart |> safeReset else d

/-- The start fails before Ready: the sequence restarts from stage 3 and counts (14 R391, 16 R436). -/
def startFails (d : Device) : Device := d |> countRestart |> safeReset

/-! What a start takes from the fuses and the BCB. -/

/-- Fuses in shadows: the configuration, the identity registers, the placement (16 Table 16.5, 15 Tables 15.6, 15.7,
00 R3, R4). -/
def loadFuses (d : Device) : Device :=
  let sku := d.fuses.sku
  let d := { d with
    chip := { loaded := true, pavMask := fieldOf sku 7 0, ihMask := fieldOf sku 19 8, factory := factoryMode d.fuses }
    lodge := { d.lodge with checked := d.fuses } }
  let pavs := bitsSet d.chip.pavMask 8
  let ices := bitsSet d.chip.ihMask 12
  let nibbles := fun (units : List Nat) (lo n : Nat) =>
    (List.range n).foldl (fun m i => m + units.getD (lo + i) 15 * 16 ^ i) 0
  d |> wr DEV_CONFIG (ices.length * 16 * 2 ^ 24 + (60 - 3 * (8 - pavs.length) - (12 - ices.length)) * 2 ^ 18 +
        ices.length * 2 ^ 14 + pavs.length * 2 ^ 10 + fuseMember d.fuses * 2 ^ 8 + (if d.chip.factory then 1 else 0))
    |> wr DEV_PLACE_PAV (nibbles pavs 0 8) |> wr DEV_PLACE_IH0 (nibbles ices 0 8) |> wr DEV_PLACE_IH1 (nibbles ices 8 4)
    |> wr LD_FUSE_STATE (fuseState d.fuses)

/-- The package limit of a BCB (17 R451, 16 Table 16.4): 880 units where POWER_LIMIT is 0 or no limit. -/
def bcbPower (b : List Byte) : Nat :=
  let v := leField b 28 4
  if decide (320 ≤ v) && decide (v ≤ 1040) then v else 880

/-- The management port as a BCB settles it (16 Table 16.4). -/
def bcbPort (b : List Byte) : ManagementPort :=
  { mac := sliceBytes b 32 6, udp := leField b 38 2, ipv4 := sliceBytes b 40 4, prefixLen := leField b 44 1,
    vlan := leField b 46 2, gateway := sliceBytes b 48 4 }

/-- The management port in recovery (16 R433). DESIGN CHOICE (Assumption 106): the identifier's low byte comes last. -/
def recoveryPort (dieId : Nat) : ManagementPort :=
  { mac := leBytes 1 2 ++ (leBytes 5 dieId).reverse, udp := 4872, ipv4 := List.replicate 4 0, gateway := List.replicate 4 0 }

/-- The values of the running BCB take effect (16 R432): FW_VERSION, subsystem IDs, the management port, POWER_LIMIT, the
running slot. -/
def adoptBcb (slot : Nat) (b : List Byte) (d : Device) : Device :=
  let p := bcbPower b
  let d := { d with
    link := { d.link with subsystem := leField b 20 4 }
    lodge := { d.lodge with bcb := b, port := bcbPort b }
    gate := { d.gate with limit := p, pEff := p } }
  d |> wr DEV_FW_VERSION (bcbVersion b) |> wr GT_LIMIT p |> wr GT_EFF_LIMIT p |> setFld LD_STATUS 3 3 slot

/-- The slot that boots from the flash, and whether it is the other one than the selector names (16 R432). -/
def bootSlot (d : Device) : Option (Nat × Bool) :=
  let s := selSlot d
  if (slotCheck d.lodge.checked (flashSlot d s)).isNone then some (s, false)
  else if (slotCheck d.lodge.checked (flashSlot d (1 - s))).isNone then some (1 - s, true)
  else none

/-- The pin-controlling instructions of the TAP (18 R491). -/
def scanHolds (ir : Nat) : Bool := [0x00, 0x04, 0x05, 0x06, 0x07].contains ir

/-- The device is held by no reset pin and no scan instruction (18 R482, R491; 17 R463). -/
def resetReleased (d : Device) : Bool :=
  d.pins.pwrGood && d.pins.sysResetN && d.pins.perstN && !d.pins.thermTrip && !d.belv.sysclkLost &&
    !scanHolds d.pins.tap.ir

/-- PWR_GOOD rises once every bank is in tolerance; CLKREQ_N is low from then on (18 R481, Table 18.4). -/
def powerGood (d : Device) : Device :=
  if [0, 1, 2].all d.pins.banks.contains then { d with pins := { d.pins with pwrGood := true, clkreqLow := true } } else d

/-- Neither slot is bootable: recovery (16 R433). -/
def enterRecovery (d : Device) : Device := modLodge (fun l => { l with stage := .recovery, port := recoveryPort d.fuses.dieId }) d

/-- COLD_BOOT (16 R432, R433): from the start to release, or to recovery. The beat counter and the Clocktower counter start
from zero at release (05 R133, 13 R370). -/
def coldBoot (d : Device) : Device :=
  let d := powerGood d
  if !(resetReleased d && d.lodge.stage == .reset) then d else
  let d := loadFuses d
  match bootSlot d with
  | none => enterRecovery d
  | some (s, alt) =>
    let d := d |> adoptBcb s (slotBcb (flashSlot d s)) |> setBit LD_STATUS 4 alt
      |> modLodge (fun l => { l with stage := .released })
    { d with link := { d.link with configReady := true }, clock := {}, tower := {} }
      |> wr CT_NS 0 |> wr CT_FRAC 0 |> wr CT_WRAPS 0 |> wr CT_STATUS 0

/-! The rest of a start. -/

/-- Golden library entries of an image body, each at a multiple of 64 bytes: position and bytes (14 R398, Table 14.5). -/
def libraryEntries : Nat → List Byte → List (Nat × List Byte)
  | 0, _ => []
  | n + 1, body =>
    let size := 64 + leField body 8 4 * 512 + leField body 16 4 * 16
    if sliceBytes body 0 4 == ascii "WGLD" then
      (leField body 4 2, sliceBytes body 0 size) :: libraryEntries n (body.drop ((size + 63) / 64 * 64))
    else []

/-- The golden library of the running set is installed in the device reserve (14 R398). -/
def installLibrary (rd : Nat → Nat → List Byte) (b : List Byte) (d : Device) : Device :=
  let d := memZero (reserveBase d + 0x4000000) 0x4000000 d
  match bcbImage b 3 with
  | none => d
  | some e =>
    let img := rd (entryOffset e) (entryLength e)
    forEach (libraryEntries 64 (sliceBytes img 64 (imageBody img))) (fun x d =>
      applyIf (decide (x.1 < 64)) (memPut (goldenAddr d x.1) (x.2.take 0x100000)) d) d

/-- Golden entry 0 passes on every present pavilion (14 R399, R402). -/
def goldenPasses (d : Device) : Bool :=
  goldenInstalled d 0 && (List.range (pavCount d)).all (fun p =>
    goldenSignature (d |> goldenStart p 0 none |> goldenMicrocode p 0) p 0 == goldenExpect d 0)

/-- The start-up self-test (14 R402): `failed` is the source whose checker failed, if any. Its result is recorded. -/
def selfTest (failed : Option Nat) (d : Device) : Option Nat :=
  match failed with
  | some src => some (src % 256)
  | none => if goldenPasses d then none else some 76

/-- The result is recorded in BV_SELFTEST. -/
def recordSelfTest (r : Option Nat) (d : Device) : Device :=
  match r with
  | some src => d |> setBit BV_SELFTEST 31 false |> setFld BV_SELFTEST 7 0 src
  | none => d |> setBit BV_SELFTEST 31 true |> setFld BV_SELFTEST 7 0 0xFF

/-- Address of the pending-activation record (16 Table 16.3). Its layout is the model's: slot, kind, two zero bytes,
GENERATION, then one byte for each phase, zero once the phase is recorded. -/
abbrev recordAddr : Nat := 0x2020000

/-- After Ready the Lodge reads the pending-activation record (16 R442): it is kept, to resume at phase 2, where the
staged slot still holds its GENERATION and another set runs; else it is cleared. -/
def readActivation (d : Device) : Device :=
  let r := flashBytes d recordAddr 16
  if !(leField r 9 1 == 0 && leField r 12 1 == 0xFF && decide (leField r 0 1 < 2)) then d
  else
    let slot := leField r 0 1
    let gen := leField r 4 4
    if bcbGeneration d.lodge.bcb == gen || bcbGeneration (slotBcb (flashSlot d slot)) != gen then flashErase recordAddr 16 d
    else
      let live := leField r 1 1 == 1
      d |> modLodge (fun l => { l with activation := some { slot := slot, live := live, generation := gen } })
        |> setFld LD_STATUS 11 10 (if live then 2 else 1) |> setFld LD_STATUS 13 12 2

/-- Ready (15 R413, 14 R388, R401): READY rises, ALIVE starts, the CAN gate opens, the golden intervals begin. -/
def becomeReady (d : Device) : Device :=
  let d := modLodge (fun l => { l with stage := .running }) d
  let d := { d with belv := { d.belv with safe := .none, aliveOn := true, canGate := false } }
  let d := forEach (List.range (pavCount d)) (fun p => modPav p (fun v => { v with goldenSince := d.clock.beat })) d
  d |> setBit DEV_STATUS 5 false |> setBit DEV_STATUS 0 true |> devEvent 0 |> readActivation

/-- COLD_BOOT_READY (16 R432, Table 16.5, R434): DRAM trained and its contents lost, the booted slot in retained copy 0, the golden
library installed, self-test, scrub, Ready. `failed` is a source whose checker failed. -/
def coldReady (failed : Option Nat) (d : Device) : Device :=
  if !(d.lodge.stage == .released && d.belv.safe == .none) then d else
  let slot := runSlot d
  let d := { d with mems := { d.mems with dev := [], code := [], resv := [] } }
  let d := d |> retainedCopy slot 0 |> retainedWrite 0 0 |> installLibrary (flashSlot d slot) d.lodge.bcb
  let r := selfTest failed d
  let d := recordSelfTest r d
  if r.isSome then startFails d else becomeReady d

/-- Stage 5 (14 R391, 16 R434): the active retained copy where it passes, else the flash as at cold boot; none: neither. -/
def restartSet (d : Device) : Option (Device → Device) :=
  let h := retainedHeader d
  let c := leField h 8 1
  if retainedValid h && (slotCheck d.lodge.checked (copySlot d c)).isNone then
    let b := slotBcb (copySlot d c)
    let slot := if c = 0 then d.lodge.copies.1 else d.lodge.copies.2
    some (fun d => d |> adoptBcb slot b |> setFld LD_STATUS 2 2 c |> installLibrary (copySlot d c) b)
  else
    match bootSlot d with
    | none => none
    | some (s, alt) =>
      some (fun d => d |> adoptBcb s (slotBcb (flashSlot d s)) |> setBit LD_STATUS 4 alt |> retainedCopy s 0
        |> retainedWrite 0 0 |> installLibrary (flashSlot d s) d.lodge.bcb |> setBit BV_SELFTEST 30 true)

/-- Stage 8 (14 R392): RESULT of an armed check; `ecc` says that an uncorrectable error was met. -/
def weightDigest (ecc : Bool) (d : Device) : Device :=
  if !rbit d BV_WDIGEST_STATUS 0 then d else
  let w := weightRegion d
  let good := !ecc && crc64 (memBytes d w.1 w.2) == rd d BV_WDIGEST_LO + rd d BV_WDIGEST_HI * 2 ^ 32
  setFld BV_WDIGEST_STATUS 2 1 (if good then 1 else 2) d

/-- Stage 9 (08 R253): DEVICE_RESTART completions, then every enabled queue from 16 up halts. -/
def restartCompletions (d : Device) : Device :=
  let cs := d.cloak.interrupted
  let d := { d with cloak := { d.cloak with interrupted := [] } }
  let d := forEach cs (fun e d =>
    if e.2.byBelvedere then d else writeCompletion e.1 e.2 0x50 0 0 d.cloak.stoppedBeat d) d
  forEach ((List.range 8192).filter (fun q => decide (16 ≤ q) && queueEnabled d q)) (fun q => haltQueue q 0x50) d

/-- SAFE_STATE_READY (14 R389 stages 4 to 9, R391): `failed` a source whose checker failed, `ecc` an uncorrectable error
met by the weight digest. -/
def safeReady (failed : Option Nat) (ecc : Bool) (d : Device) : Device :=
  if !(d.belv.safe == .restarting && resetReleased d) then d else
  let d := d |> safeReset |> loadFuses
  match restartSet d with
  | none => enterRecovery (coldReset d |> loadFuses)
  | some f =>
    let d := f d
    let r := selfTest failed d
    let d := recordSelfTest r d
    if r.isSome then startFails d
    else d |> weightDigest ecc |> restartCompletions |> becomeReady

end Sys2Proof.Machine
end

