-- ==== Sys2Proof/Machine/Satchel.lean ====
section
/-! DEFINITION. Lodge restarts, activation, fuse commit, attestation and Satchel delivery (16 R436, R439 to R446). -/
namespace Sys2Proof.Machine

/-! Lodge restarts (16 R436). -/

/-- The Lodge goes down: its session is abandoned, authentications in progress will run again; a fourth restart that
begins within 60 s (1,500,000,000 beats) leaves it down, with source 46 once more. -/
def beginLodgeRestart (src : Nat) (d : Device) : Device :=
  let recent := (d.lodge.began.filter (fun b => decide (d.clock.beat - b ≤ 1500000000))).length
  let dead := decide (3 ≤ recent)
  let d := modLodge (fun l => { l with restarting := !dead, dead := dead, restartSource := src, session := none,
                                       began := d.clock.beat :: l.began }) d
  let d := d |> setBit LD_STATUS 1 false |> setLodgeDown true
    |> applyIf (fld d LD_STATUS 13 12 == 1) (setFld LD_STATUS 13 12 0)
    |> forEach (List.range 32) (fun s => applyIf ((headOf d s).challenge.isSome) (modHead s (fun h => { h with challenge := none })))
  applyIf dead (raiseFault 46 [] [] 0) d

/-- The request that the Lodge had taken and not answered is answered LODGE_RESTART (16 R436). -/
def answerTaken (d : Device) : Device :=
  let due := d.lodge.taken && (ringRequest d).isSome
  d |> modLodge (fun l => { l with taken := false }) |> applyIf due (ringAnswer ldRestart 0)

/-- A Lodge fault: source 45 or 46. DESIGN CHOICE (Assumption 105): the oldest request of the ring counts as taken. Before Ready it makes the start fail as a Critical assertion does (16 R436). -/
def lodgeFails (src detail : Nat) (d : Device) : Device :=
  if isReady d then
    if rbit d DEV_STATUS 4 then d
    else
      let taken := (ringRequest d).isSome
      d |> raiseFault src [] [] detail |> beginLodgeRestart src |> modLodge (fun l => { l with taken := taken })
  else if d.lodge.stage == .released || d.belv.safe == .restarting then
    d |> raiseFault src [] [] detail |> startFails
  else d

/-- LODGE_FAULT: an exception or lockup at program counter `pc`. -/
def lodgeFault (pc : Nat) : Device → Device := lodgeFails 46 (pc % 2 ^ 32)
/-- LODGE_WATCHDOG_TIMEOUT. -/
def lodgeTimeout : Device → Device := lodgeFails 45 0

/-- ACT_DONE with the GENERATION; the activation is no longer pending (16 R442 phase 4). -/
def activationDone (a : Activation) (d : Device) : Device :=
  d |> flashProgram (recordAddr + 12) (leBytes 1 0) |> modLodge (fun l => { l with activation := none })
    |> setFld LD_STATUS 11 10 0 |> lodgeEvent 3 (leBytes 4 a.generation) |> ldEvent 2

/-- The end of a LIVE activation: the staged set is the running one (16 R441). -/
def liveTakesOver (d : Device) : Device :=
  match d.lodge.activation with
  | some a =>
    let b := slotBcb (copySlot d (fld d LD_STATUS 2 2))
    d |> modLodge (fun l => { l with bcb := b, live := true, liveDue := false }) |> wr DEV_FW_VERSION (bcbVersion b)
      |> setFld LD_STATUS 3 3 a.slot |> setFld LD_STATUS 13 12 0 |> activationDone a
  | none => modLodge (fun l => { l with liveDue := false }) d

/-- LODGE_RESTART_COMPLETE: the type 1 image of the active retained copy is checked against that copy's BCB and runs
(16 R436). -/
def lodgeRestartComplete (d : Device) : Device :=
  if !(isReady d && d.lodge.restarting) then d else
  let src := d.lodge.restartSource
  let rd := copySlot d (fld d LD_STATUS 2 2)
  let good := match bcbImage (slotBcb rd) 1 with
    | some e => sha512 (rd (entryOffset e) (entryLength e)) == entryDigest e
    | none => false
  if !good then d |> modLodge (fun l => { l with restarting := false, dead := true }) |> raiseFault 46 [] [] 0
  else
    let d := d |> modLodge (fun l => { l with restarting := false }) |> setLodgeDown false
    let d := d |> setFld LD_RESTARTS 7 0 (fld d LD_RESTARTS 7 0 + 1) |> lodgeEvent 7 (leBytes 1 src)
    (if d.lodge.liveDue then liveTakesOver d else d) |> answerTaken |> drainRing

/-! Activation (16 R441, R442, R444). -/

/-- The BCB staged in the inactive slot. -/
def stagedBcb (d : Device) : List Byte := slotBcb (flashSlot d (idleSlot d))

/-- A BCB body without what a LIVE activation may change: GENERATION, FW_VERSION and the entries of LIVE images. -/
def liveFrame (b other : List Byte) : List Byte :=
  let body := sliceBytes b 0 (bcbBytes b)
  let body := overlay (overlay body 8 (leBytes 4 0)) 16 (leBytes 4 0)
  (List.range (min (bcbImages b) 8)).foldl (fun acc k =>
    if bitOf (leField (bcbEntry b k) 1 1) 0 && bitOf (leField (bcbEntry other k) 1 1) 0 then
      overlay acc (64 + 80 * k) (List.replicate 80 0)
    else acc) body

/-- A LIVE activation of the staged set is permitted (16 R441). -/
def livePermitted (d : Device) : Bool :=
  let a := stagedBcb d
  let b := d.lodge.bcb
  liveFrame a b == liveFrame b a

/-- The next phase of the pending activation (16 R442); none: its check failed. -/
def activationPhase (a : Activation) (d : Device) : Option Device :=
  let copy := 1 - fld d LD_STATUS 2 2
  let mark := fun p d => d |> flashProgram (recordAddr + 8 + p) (leBytes 1 0)
    |> modLodge (fun l => { l with activation := some { a with phase := p } })
  if a.phase == 1 then
    let d := retainedCopy a.slot copy d
    if (slotCheck d.lodge.checked (copySlot d copy)).isNone then some (mark 2 d) else none
  else if a.phase == 2 then some (d |> selWrite a.slot |> mark 3)
  else
    let d := retainedWrite copy ((leField (retainedHeader d) 4 4 + 1) % 2 ^ 32) d
    some (if a.live then d |> modLodge (fun l => { l with liveDue := true }) |> beginLodgeRestart 0 else activationDone a d)

/-- The pending activation runs `n` phases at most. The second part says that its check failed: the activation is given
up. -/
def runActivation : Nat → Device → Device × Bool
  | 0, d => (d, false)
  | n + 1, d =>
    match d.lodge.activation with
    | none => (d, false)
    | some a =>
      if d.lodge.liveDue then (d, false) else
      match activationPhase a d with
      | some d => runActivation n d
      | none =>
        (d |> flashErase recordAddr 16 |> modLodge (fun l => { l with activation := none }) |> setFld LD_STATUS 11 10 0,
         true)

/-- An activation is requested (16 R441, R442, R444); of the phases after the first, `n` run now. Answers STATUS. -/
def requestActivation (live : Bool) (n : Nat) (d : Device) : Nat × Device :=
  let b := stagedBcb d
  if fld d LD_STATUS 13 12 != 2 || decide (bcbSvn b < fuseCount d.fuses) || (live && !livePermitted d) then (ldRefused, d)
  else
    let a : Activation := { slot := idleSlot d, live := live, generation := bcbGeneration b }
    let r := leBytes 1 a.slot ++ leBytes 1 (if live then 1 else 0) ++ leBytes 2 0 ++ leBytes 4 a.generation ++
      leBytes 1 0xFF ++ leBytes 1 0
    let d := d |> flashErase recordAddr 16 |> flashProgram recordAddr r
      |> modLodge (fun l => { l with activation := some a }) |> setFld LD_STATUS 11 10 (if live then 2 else 1)
    if d.gate.emergency then (ldDeferred, d |> setBit LD_STATUS 9 true |> lodgeEvent 4 [])
    else
      let x := runActivation n d
      (if x.2 then ldFailed else ldOk, x.1)

/-- ACTIVATE_BOOT and ACTIVATE_LIVE: the ACTIVATE service with ARG0 as the row says; another kind leaves the request. -/
def activateService (live : Bool) (n : Nat) (d : Device) : Device :=
  match ringRequest d with
  | some q =>
    let kind := leField q 8 8
    if leField q 0 1 == 4 && requestKnown q && !overloaded d && decide (kind < 2) && (kind == 1) != live then d
    else serveRequest 4 (fun kind _ _ d =>
      if decide (kind < 2) then
        let r := requestActivation live n d
        ((r.1, 0), r.2)
      else ((ldInvalid, 0), d)) d
  | none => d

/-- ACTIVATION_RESUME (16 R442, R444): the pending activation goes on by `n` phases at most. -/
def activationResume (n : Nat) (d : Device) : Device :=
  if lodgeUp d && !d.gate.emergency then (runActivation n d).1 else d

/-! Fuse commit (16 R443). -/

/-- A fuse bit to blow. -/
inductive FuseBit where
  /-- A thermometer bit. -/
  | therm (i : Nat)
  /-- The revocation bit of a key slot. -/
  | revoke (j : Nat)
  /-- Bit `i` of key slot `j`. -/
  | key (j i : Nat)
  deriving DecidableEq, Repr

/-- One fuse bit is blown. -/
def blow (b : FuseBit) (f : Fuses) : Fuses :=
  match b with
  | .therm i => { f with therm := f.therm ||| 2 ^ i }
  | .revoke j => { f with revoked := f.revoked ||| 2 ^ j }
  | .key j i =>
    let v := sliceBytes (tabGet [] f.keys j) 0 64
    { f with keys := tabPut j (overlay v (i / 8) (leBytes 1 (leField v (i / 8) 1 ||| 2 ^ (i % 8)))) f.keys }

/-- The bits that a commit of BCB `b` blows, in order: thermometer, revocations, key hash (16 R443). -/
def commitBits (f : Fuses) (b : List Byte) : List FuseBit :=
  let need := bcbSvn b - fuseCount f
  let slot := leField b 704 1
  let hash := leField b 768 64
  (((List.range 64).filter (fun i => !bitOf f.therm i)).take need).map .therm ++
    ((List.range 4).filter (fun j => bitOf (leField b 25 1) j && !bitOf f.revoked j)).map .revoke ++
    (if slot < 4 then ((List.range 512).filter (bitOf hash)).map (.key slot) else [])

/-- A commit is refused (16 R443). -/
def commitRefused (d : Device) : Bool :=
  let b := d.lodge.bcb
  rbit d LD_STATUS 4 || bitOf (leField b 25 1) (bcbKeySlot b) ||
    (decide (leField b 704 1 < 4) && keyProgrammed d.fuses (leField b 704 1))

/-- The fuses are blown; `failAt` is the number of bits that read back before a read-back failure. Answers STATUS. -/
def fuseCommit (failAt : Option Nat) (d : Device) : Nat × Device :=
  if commitRefused d then (ldRefused, d)
  else
    let bits := commitBits d.fuses d.lodge.bcb
    let fails := match failAt with
      | some n => decide (n < bits.length)
      | none => false
    let f := (if fails then bits.take (failAt.getD 0) else bits).foldl (fun f b => blow b f) d.fuses
    let d := wr LD_FUSE_STATE (fuseState f) { d with fuses := f }
    let d := applyIf (fld d LD_STATUS 13 12 == 2 && decide (bcbSvn (stagedBcb d) < fuseCount f)) (setFld LD_STATUS 13 12 0) d
    if fails then (ldFailed, d) else (ldOk, lodgeEvent 6 [] d)

/-- FUSE_COMMIT: the service; in an emergency it is deferred (16 R444). -/
def fuseService (failAt : Option Nat) (d : Device) : (Nat × Nat) × Device :=
  if d.gate.emergency then
    ((ldDeferred, 0), d |> modLodge (fun l => { l with fuseDeferred := true }) |> setBit LD_STATUS 9 true)
  else
    let r := fuseCommit failAt d
    ((r.1, 0), r.2)

/-- The emergency is over: neither condition was present for 100 ms, 2,500,000 beats (16 R444). -/
def emergencyOver (d : Device) : Device :=
  match d.gate.quietSince with
  | some b =>
    if d.gate.emergency && decide (2500000 ≤ totalBeats d - b) then
      { d with gate := { d.gate with emergency := false, quietSince := none } }
    else d
  | none => d

/-- EMERGENCY_CLEAR (16 R444): the emergency ends, and the deferred requests are performed as soon as the Lodge is up: `n`
phases of the activation at most, the fuse commit with `failAt`. -/
def emergencyClear (n : Nat) (failAt : Option Nat) (d : Device) : Device :=
  let waiting := d.gate.emergency || rbit d LD_STATUS 9
  let d := emergencyOver d
  if d.gate.emergency || !waiting || !lodgeUp d then d
  else
    let d := (d |> setBit LD_STATUS 9 false |> runActivation n).1
    if d.lodge.fuseDeferred then (fuseCommit failAt (modLodge (fun l => { l with fuseDeferred := false }) d)).2 else d

/-! Attestation (16 R446). -/

/-- The device's public keys, Ed25519 then ML-DSA-65, as its secret gives them (16 R446). -/
def deviceKeys (secret : Nat) : List Byte :=
  edPublic (deviceSeed secret (ascii "EF-DEVKEY-ED")) ++ (dsaKey (deviceSeed secret (ascii "EF-DEVKEY-ML"))).pub

/-- The 768-byte body of an attestation report over a nonce. -/
def attestBody (d : Device) (nonce : List Byte) : List Byte :=
  let b := d.lodge.bcb
  let flags := (if factoryMode d.fuses then 1 else 0) + (if rbit d LD_STATUS 4 then 2 else 0) +
    (if rbit d BV_SELFTEST 30 then 4 else 0)
  ascii "WATR" ++ leBytes 2 1 ++ leBytes 2 0 ++ leBytes 8 d.fuses.dieId ++ sliceBytes nonce 0 32 ++
    leBytes 4 d.fuses.sku ++ leBytes 1 (fuseCount d.fuses) ++
    leBytes 1 (programmedSlots d.fuses + d.fuses.revoked % 16 * 16) ++ leBytes 1 flags ++ leBytes 1 (runSlot d) ++
    leBytes 4 (bcbGeneration b) ++ leBytes 1 (bcbSvn b) ++ leBytes 3 0 ++ leBytes 4 (bcbVersion b) ++
    leBytes 4 (rd d LD_RESTARTS) ++ leBytes 4 (rd d BV_RESTARTS) ++ leBytes 8 d.clock.beat ++ List.replicate 44 0 ++
    sha512 b ++ (List.range 6).flatMap (fun k => if k < bcbImages b then entryDigest (bcbEntry b k) else List.replicate 64 0) ++
    leBytes 32 d.hostif.featAccepted ++ List.replicate 160 0

/-- A signature block by the device keys (16 R427, R446), with the random bytes of the ML-DSA signature; none where the
attempts to sign ran out. -/
def deviceBlock (d : Device) (rnd : List Byte) (tag : String) (body : List Byte) : Option (List Byte) :=
  let m := signedMessage tag body
  (mldsaSign (deviceSeed d.fuses.secret (ascii "EF-DEVKEY-ML")) rnd m).map (fun sig =>
    ascii "WSIG" ++ leBytes 2 1 ++ leBytes 1 0xFF ++ List.replicate 9 0 ++ sliceBytes (deviceKeys d.fuses.secret) 0 1984 ++
      sliceBytes (edSign (deviceSeed d.fuses.secret (ascii "EF-DEVKEY-ED")) m ++ sig) 0 3373 ++ List.replicate 3 0)

/-- ATTEST (16 R446): the report over the nonce at ARG0 is written at ARG1. The random bytes are a free value. -/
def attestService (nonce dest : Nat) (d : Device) : (Nat × Nat) × Device :=
  if inDram d nonce 32 && dest % 64 == 0 && openDram d dest 6144 then
    let body := attestBody d (memBytes d nonce 32)
    match deviceBlock d (leBytes 32 (Config.free d.freeCtr)) "EF-ATT01" body with
    | some block => ((ldOk, 0), d |> nextFree |> memPut dest (body ++ block))
    | none => ((ldFailed, 0), nextFree d)
  else ((ldInvalid, 0), d)

/-! Satchel (16 R439, R440). -/

/-- Satchel runs: the running BCB has SATCHEL = 1, or the device is in recovery. -/
def satchelOn (d : Device) : Bool := d.lodge.stage == .recovery || (lodgeUp d && bcbFlag d 0)

/-- A packet: its header with the CRC in place. -/
def satchelPacket (ty session seq : Nat) (payload : List Byte) : List Byte :=
  let head := fun crc => ascii "WSAT" ++ leBytes 1 1 ++ leBytes 1 ty ++ leBytes 2 payload.length ++ leBytes 4 session ++
    leBytes 4 seq ++ leBytes 4 crc ++ leBytes 4 0
  head (crc32c (head 0 ++ payload)) ++ payload

/-- A packet leaves by the management port, in a frame that its MAC counts (13 R377). -/
def satchelSend (ty session seq : Nat) (payload : List Byte) (d : Device) : Device :=
  d |> modLodge (fun l => { l with satchelOut := l.satchelOut ++ [satchelPacket ty session seq payload] })
    |> countUp ETH_MGMT_TX_FRAMES |> modEth 4 (fun e => { e with txStamp := some (nowNs d, rd d CT_FRAC) })

/-- A received packet is whole: identity, version, length, CRC, a known TYPE (16 R439). -/
def satchelGood (pkt : List Byte) : Bool :=
  decide (24 ≤ pkt.length) && sliceBytes pkt 0 4 == ascii "WSAT" && leField pkt 4 1 == 1 &&
    leField pkt 6 2 + 24 == pkt.length &&
    leField pkt 16 4 == crc32c (overlay pkt 16 (leBytes 4 0)) &&
    decide (1 ≤ leField pkt 5 1) && decide (leField pkt 5 1 ≤ 0x0A)

/-- A packet of TYPE `ty` is handled by `f`, given SESSION, SEQ and payload; what is not whole is dropped and counted. -/
def satchelIn (ty : Nat) (pkt : List Byte) (f : Nat → Nat → List Byte → Device → Device) (d : Device) : Device :=
  if !satchelOn d then d
  else if !satchelGood pkt then countUp LD_SATCHEL_ERR d
  else if leField pkt 5 1 != ty then d
  else f (leField pkt 8 4) (leField pkt 12 4) (pkt.drop 24) d

/-- The payload of INFO. -/
def infoPayload (d : Device) : List Byte :=
  let b := d.lodge.bcb
  leBytes 8 d.fuses.dieId ++ leBytes 1 (fuseMember d.fuses) ++ leBytes 1 (runSlot d) ++ leBytes 4 (fuseState d.fuses) ++
    leBytes 4 (bcbGeneration b) ++ leBytes 1 (bcbSvn b) ++ leBytes 4 (bcbVersion b) ++
    leBytes 4 (if fld d LD_STATUS 13 12 == 2 then bcbGeneration (stagedBcb d) else 0xFFFFFFFF)

/-- SATCHEL_HELLO. -/
def satchelHello (pkt : List Byte) : Device → Device :=
  satchelIn 0x01 pkt (fun id seq _ d => satchelSend 0x02 id seq (infoPayload d) d)

/-- SATCHEL_BEGIN (16 R440): a session opens and the inactive slot is erased, or BUSY while another session has not been
silent for 10 s (250,000,000 beats); a TOTAL that is none is answered 7. -/
def satchelBegin (peer : Nat) (pkt : List Byte) : Device → Device :=
  satchelIn 0x03 pkt (fun id seq payload d =>
    let total := leField payload 0 4
    let busy := match d.lodge.session with
      | some s => decide (d.clock.beat - s.last < 250000000)
      | none => false
    if busy then satchelSend 0x04 id seq (leBytes 4 id ++ leBytes 1 6) d
    else if payload.length != 4 || total % 4096 != 0 || decide (0x800000 < total) then
      satchelSend 0x04 id seq (leBytes 4 id ++ leBytes 1 7) d
    else
      let new := Config.free d.freeCtr % 2 ^ 32
      let slot := idleSlot d
      let drop := match d.lodge.activation with
        | some a => a.slot == slot
        | none => false
      let d := applyIf drop (fun d => d |> flashErase recordAddr 16 |> modLodge (fun l => { l with activation := none })
        |> setFld LD_STATUS 11 10 0) d
      d |> nextFree |> applyIf (decide (0 < total)) (flashErase (slotBase slot) total)
        |> modLodge (fun l => { l with session := some { id := new, peer := peer, total := total, last := d.clock.beat } })
        |> setFld LD_STATUS 13 12 1 |> setBit LD_STATUS 1 true |> satchelSend 0x04 new seq (leBytes 4 new ++ leBytes 1 0))

/-- The received ranges with [lo, hi) added, ascending and disjoint. -/
def addRange (lo hi : Nat) (rs : List (Nat × Nat)) : List (Nat × Nat) :=
  let touch := rs.filter (fun r => decide (r.1 ≤ hi) && decide (lo ≤ r.2))
  let rest := rs.filter (fun r => !(decide (r.1 ≤ hi) && decide (lo ≤ r.2)))
  sortBy (fun a b => decide (a.1 ≤ b.1))
    ((touch.foldl (fun (m : Nat × Nat) r => (min m.1 r.1, max m.2 r.2)) (lo, hi)) :: rest)

/-- Does [lo, hi) lie in the received ranges? -/
def covered (rs : List (Nat × Nat)) (lo hi : Nat) : Bool := rs.any (fun r => decide (r.1 ≤ lo) && decide (hi ≤ r.2))

/-- NEXT: the lowest offset not yet received. -/
def nextOffset (rs : List (Nat × Nat)) : Nat :=
  match rs.find? (fun r => r.1 == 0) with
  | some r => r.2
  | none => 0

/-- An ACK of the session is sent: NEXT, and the 64 chunks of 1,024 bytes after the one that holds NEXT. -/
def sendAck (s : Satchel) (seq : Nat) (d : Device) : Device :=
  let next := nextOffset s.got
  let map := (List.range 64).foldl (fun m j =>
    let lo := (next / 1024 + 1 + j) * 1024
    if covered s.got lo (lo + 1024) then m + 2 ^ j else m) 0
  satchelSend 0x06 s.id seq (leBytes 4 next ++ leBytes 8 map) d

/-- The open session answers to a peer and an identifier. -/
def sessionFor (d : Device) (peer id : Nat) : Option Satchel :=
  match d.lodge.session with
  | some s => if s.peer == peer && s.id == id then some s else none
  | none => none

/-- SATCHEL_DATA (16 R440, R435): the bytes that are new and lie below TOTAL are programmed; an ACK at every 64th. -/
def satchelData (peer backlog : Nat) (pkt : List Byte) (d : Device) : Device :=
  satchelIn 0x05 pkt (fun id seq payload d =>
    let d := noteBacklog backlog d
    match sessionFor d peer id with
    | none => d
    | some s =>
      if overloaded d || decide (payload.length < 5) || decide (1028 < payload.length) then d else
      let off := leField payload 0 4
      let bs := payload.drop 4
      let fresh := (List.range bs.length).filter (fun i => decide (off + i < s.total) && !covered s.got (off + i) (off + i + 1))
      let base := slotBase (idleSlot d)
      let d := forEach fresh (fun i => flashProgram (base + off + i) ((bs.drop i).take 1)) d
      let hi := min (off + bs.length) s.total
      let s := { s with got := if off < hi then addRange off hi s.got else s.got, unacked := s.unacked + 1,
                        last := d.clock.beat, acked := false }
      let full := decide (64 ≤ s.unacked)
      let s := if full then { s with unacked := 0 } else s
      d |> modLodge (fun l => { l with session := some s }) |> applyIf full (sendAck s seq)) d

/-- SATCHEL_ACK_TIMER: 5 ms of silence (125,000 beats) in a session. -/
def satchelAckTimer (d : Device) : Device :=
  match d.lodge.session with
  | some s =>
    if satchelOn d && !s.acked && decide (125000 ≤ d.clock.beat - s.last) then
      d |> modLodge (fun l => { l with session := some { s with acked := true, unacked := 0 } }) |> sendAck s 0
    else d
  | none => d

/-- The result of the checks of R431 as RESULT gives them (16 Table 16.9). -/
def resultOf (check : Option Nat) : Nat :=
  match check with
  | none => 0
  | some 3 => 3
  | some 4 => 4
  | some _ => 2

/-- SATCHEL_END (16 R440, R433): the slot is read back and checked; RESULT; on success it is STAGED, or in recovery
named by the selector and started. `flashFail`: the flash failed. -/
def satchelEnd (peer : Nat) (flashFail : Bool) (pkt : List Byte) : Device → Device :=
  satchelIn 0x07 pkt (fun id seq payload d =>
    match sessionFor d peer id with
    | none => if d.lodge.session.isSome then satchelSend 0x08 id seq (leBytes 1 6) d else d
    | some s =>
      let slot := idleSlot d
      let st :=
        if flashFail then 5
        else if sha512 (flashBytes d (slotBase slot) s.total) != sliceBytes payload 0 64 then 1
        else resultOf (slotCheck d.lodge.checked (flashSlot d slot))
      let d := d |> modLodge (fun l => { l with session := none }) |> setBit LD_STATUS 1 false
      let reply := satchelSend 0x08 id seq (leBytes 1 st)
      if st != 0 then d |> setFld LD_STATUS 13 12 0 |> reply
      else if d.lodge.stage == .recovery then d |> selWrite slot |> coldReset |> reply
      else d |> reply |> setFld LD_STATUS 13 12 2 |> flashErase (selBase (selOlder d)) 64
        |> lodgeEvent 5 (leBytes 1 slot ++ leBytes 4 (bcbGeneration (slotBcb (flashSlot d slot)))))

/-- SATCHEL_ACTIVATE (16 R440): honoured only with NET_ACTIVATE = 1, never in recovery. -/
def satchelActivate (n : Nat) (pkt : List Byte) : Device → Device :=
  satchelIn 0x09 pkt (fun id seq payload d =>
    let kind := leField payload 0 1
    let r := if d.lodge.stage == .recovery || !bcbFlag d 1 || decide (2 ≤ kind) then (ldRefused, d)
      else requestActivation (kind == 1) n d
    satchelSend 0x0A id seq (leBytes 1 r.1) r.2)

end Sys2Proof.Machine
end

