-- ==== Sys2Proof/Machine/Belv.lean ====
section
/-! DEFINITION. Belvedere: assertions, episodes, ALIVE, the weight digest, golden windows (14 R380 to R401). -/
namespace Sys2Proof.Machine

/-- The bits of DETAIL that Table 14.12 names for a source, given its cause in bits [7:0] (14 R493). -/
def detailMask (src cause : Nat) : Nat :=
  let bits := fun (hi lo : Nat) => 2 ^ (hi + 1) - 2 ^ lo
  if src < 8 then bits 7 0
  else if src < 24 then bits 9 0 + (if cause == 1 then bits 29 16 else if cause == 2 then bits 13 10 + bits 50 32 else 0)
  else if src < 36 then bits 11 0 + (if cause == 1 then bits 63 16 else 0)
  else if src < 44 then bits 15 0
  else match src with
  | 46 => bits 31 0 | 47 => bits 15 0 | 48 => bits 15 0 | 49 => bits 15 0 | 58 => bits 31 0 | 59 => bits 10 0
  | 60 => bits 9 0 | 61 => bits 7 0 | 62 => bits 15 0 | 64 => bits 63 0 | 65 => bits 39 0 | 66 => bits 18 0
  | 67 => bits 11 0 | 69 => bits 18 0 | 70 => bits 10 0 + bits 31 16 + bits 34 32 | 72 => bits 7 0 | 73 => bits 7 0
  | 74 => bits 31 0 | 75 => bits 31 0 | 76 => bits 15 0 | 77 => bits 63 0 | 78 => bits 31 0 | 79 => bits 7 0
  | 80 => bits 7 0 | 81 => bits 6 0 + bits 8 8 | 82 => bits 7 0 | 83 => bits 7 0 | 84 => bits 7 0
  | 85 => bits 7 0 + bits 18 8 + bits 29 19
  | _ => if 50 ≤ src && src < 58 then bits 9 0 else 0

/-- DETAIL of an assertion whose block drives `detail`: the named bits, with what the device itself supplies: the running
segment (0 to 7), GH_ECC_ADDR (8 to 15) and the AER status (44) at the latch (14 R493). -/
def detailOf (d : Device) (src detail : Nat) : Nat :=
  let named := detail &&& detailMask src (detail % 2 ^ 8)
  if src < 8 then named + (match (pavOf d src).run with | some (_, s) => s | none => 2 ^ 32 - 1) * 2 ^ 16
  else if src < 16 then rd d (GH_ECC_ADDR (src - 8))
  else if src == 44 then d.link.aerStatus
  else named

/-- What stands behind an error line: an internal error of the endpoint shows in its AER status as the Uncorrectable
Internal Error (15 R409, Assumption 87); a counter-copy mismatch stays until a reset (13 R369). -/
def faultCause (src cause : Nat) (d : Device) : Device :=
  if src == 44 then { d with link := { d.link with aerStatus := d.link.aerStatus ||| 2 ^ 22 } }
  else if src == 61 && cause == 1 then modTower (fun t => { t with copyDiff := 1, copyTold := true }) d
  else d

/-- FAULT_ASSERTION (14 R380, R383 to R385): a block drives an error line. `queues` are the commands the error affects,
`pavs` the pavilions of a source without a unit of its own, `detail` what the block gives for the record's DETAIL. A device
held in reset latches nothing. -/
def faultAssertion (src : Nat) (queues pavs : List Nat) (detail : Nat) (d : Device) : Device :=
  if d.lodge.stage == .reset then d else
  let d := faultCause src (detail % 2 ^ 8) d
  raiseFault src queues (pavs.filter (fun p => decide (p < pavCount d))) (detailOf d src (detail % 2 ^ 64)) d

/-- Is a command being ended that a Major reaction withheld? -/
def reactionPending (d : Device) : Bool :=
  (busyQueues d).any (fun q => match cmdOf d q with
    | some c => c.withheld && c.ending
    | none => false)

/-- EPISODE_CLOSE (14 R383): below Critical, and the reaction of every merged assertion is complete. -/
def episodeClose (d : Device) : Device :=
  if rbit d BV_EPISODE 31 && decide (fld d BV_EPISODE 30 29 < 3) && !reactionPending d then
    setBit BV_EPISODE 31 false { d with belv := { d.belv with errors := [] } }
  else d

/-- STATUS_CLEAR (14 R380): a write of BV_CLEAR_w. -/
def statusClear (w v : Nat) (d : Device) : Device :=
  { d with belv := { d.belv with status := d.belv.status &&& ~~~ (BitVec.ofNat 128 (v % 2 ^ 32 * 2 ^ (32 * w))) } }

/-- Pavilion `p` returns to service (14 R386). -/
def returnPavilion (p : Nat) (d : Device) : Device :=
  d |> setPavState p 0 |> modPav p (fun v => { v with passedWaiting := false, releasePending := false })

/-- A release of pavilion `p` that is STOPPED or FAILED; one written while a golden run is in progress takes effect when
the run ends (14 R386). -/
def releaseOne (p : Nat) (d : Device) : Device :=
  if (pavOf d p).golden.isSome then modPav p (fun v => { v with releasePending := true }) d
  else if pavState d p == 1 || pavState d p == 3 then returnPavilion p d
  else d

/-- PAVILION_RELEASE: a write of BV_PAV_RELEASE. -/
def pavilionRelease (v : Nat) (d : Device) : Device := forEach (bitsSet v (pavCount d)) releaseOne d

/-- LOCK: a write of BV_LOCK (14 R382). -/
def lockWrite (v : Nat) (d : Device) : Device := storedWrite BV_LOCK v d

/-- The device is healthy: no Critical episode, no restart (14 R388). -/
def healthy (d : Device) : Bool :=
  d.belv.aliveOn && d.belv.safe == .none && !(rbit d BV_EPISODE 31 && fld d BV_EPISODE 30 29 == 3)

/-- ALIVE_TOGGLE (14 R388). -/
def aliveToggle (d : Device) : Device :=
  if healthy d then { d with belv := { d.belv with alive := !d.belv.alive } } else d

/-- BELVEDERE_WATCHDOG_EXPIRY (14 R388): `pc` is Belvedere's program counter. -/
def belvedereWatchdog (pc : Nat) : Device → Device := faultAssertion 78 [] [] (pc % 2 ^ 32)

/-- The declared weight region may be armed: populated DRAM outside the reserve and the pool (14 R392). -/
def regionOk (d : Device) : Bool := openDram d (weightRegion d).1 (weightRegion d).2

/-- DIGEST_ARM (14 R392): a write of BV_WDIGEST_STATUS; ARM = 1 over a range that breaks R392 is ignored. -/
def digestArm (v : Nat) (d : Device) : Device :=
  if bitOf v 0 && !regionOk d then d else storedWrite BV_WDIGEST_STATUS v d

/-- SIGNATURE_RECORD (14 R395): the oldest record arrives; `bad`: its parity fails, with the pavilion that sent it, and it is lost. -/
def signatureArrives (bad : Option Nat) (d : Device) : Device :=
  match bad, d.comp.sigWire with
  | some p, r :: rest =>
    raiseFault 82 [r.queue] [p] p { d with comp := { d.comp with sigWire := rest } }
  | _, _ => signatureRecord d

/-! Golden windows (14 R399 to R401). -/

/-- A window of pavilion `p` is not honoured; the third in a row raises source 79. -/
def deferGolden (p : Nat) (d : Device) : Device :=
  let n := fld d BV_GOLD_DEFER (3 * p + 2) (3 * p) + 1
  let d := setFld BV_GOLD_DEFER (3 * p + 2) (3 * p) (min n 7) d
  if n == 3 then raiseFault 79 [] [] p d else d

/-- GOLDEN_DUE (14 R401): the interval of pavilion `p` passes; a run still due from the interval before is deferred. -/
def goldenDue (p : Nat) (d : Device) : Device :=
  let v := pavOf d p
  let span := fld d BV_GOLD_CFG 13 0 * 25000
  if !(isReady d && decide (p < pavCount d) && decide (v.goldenSince + span ≤ d.clock.beat)) then d else
  let d := applyIf (v.goldenDue && v.golden.isNone) (deferGolden p) d
  modPav p (fun v => { v with goldenDue := true, goldenSince := v.goldenSince + span }) d

/-- Is it the time of the golden slot of the run `r` on pavilion `p`? In Strict mode the 60,000 ac from GOLDEN_AC on; in
Throughput mode once the stream has issued every instruction whose AC lies before the slot (05 R125, Assumption 95). -/
def goldenTime (d : Device) (p : Nat) (s : StepRun) (r : SegRun) : Bool :=
  let ac := segGoldenAc d s.image r.seg
  if s.strict then
    decide (acTick r.startTick ac ≤ nowTicks d) && decide (nowTicks d < acTick r.startTick (ac + 60000))
  else match streamHead d p with
    | some h => decide (ac ≤ h.ins.ac)
    | none => (pavOf d p).ended

/-- GOLDEN_SLOT_START (05 R125; 14 R400, R396): the golden slot of the segment that runs on pavilion `p` begins; the run that
is due, or the run of a SUSPECT pavilion, starts in it. -/
def goldenSlotStart (p : Nat) (d : Device) : Device :=
  let v := pavOf d p
  match v.run, runOn d p with
  | some (q, s), some r =>
    match stepOf d q, nextGolden d p with
    | some t, some e =>
      if bitOf (segGolden d t.image s) p && goldenTime d p t r && v.golden.isNone && (v.goldenDue || pavState d p == 2) then
        d |> modPav p (fun v => { v with goldenNext := e + 1 }) |> goldenStart p e (some (q, s))
      else d
    | _, _ => d
  | _, _ => d

/-- Pavilion `p` has passed a golden run, or failed one and left the SUSPECT pavilions. A twin pair none of whose SUSPECT
pavilions has still to pass is settled: they return to IN_SERVICE unless another pair holds them, and the mismatch is
transient where every one passed (14 R396). -/
def clearSuspect (p : Nat) (passed : Bool) (d : Device) : Device :=
  let left := d.belv.suspects.map (fun (m : SuspectPair) =>
    if !bitOf m.pavs p then m
    else { pavs := if passed then m.pavs else clearBits m.pavs (2 ^ p), left := clearBits m.left (2 ^ p),
           failed := m.failed || !passed })
  let done := left.filter (fun m => m.left == 0)
  let rest := left.filter (fun m => m.left != 0)
  let d := { d with belv := { d.belv with
      suspects := rest, transients := d.belv.transients + (done.filter (fun m => !m.failed)).length } }
  let free := fun k => pavState d k == 2 && !rest.any (fun m => bitOf m.pavs k)
  forEach ((List.range 8).filter (fun k => done.any (fun m => bitOf m.pavs k) && free k)) (setPavState · 0) d

/-- A golden run of pavilion `p` has ended: a release written while it was in progress takes effect (14 R386). -/
def endRelease (p : Nat) (d : Device) : Device :=
  if !(pavOf d p).releasePending then d
  else if pavState d p == 1 || pavState d p == 3 then returnPavilion p d
  else modPav p (fun v => { v with releasePending := false }) d

/-- A golden run of pavilion `p` passed (14 R386, R396, R401). -/
def goldenPass (p : Nat) (d : Device) : Device :=
  let d := if pavState d p == 1 then
      if rbit d BV_CTRL 0 then returnPavilion p d
      else modPav p (fun v => { v with passedWaiting := true }) d
    else d
  clearSuspect p true d

/-- A golden run of entry `e` on pavilion `p` failed: source 76; a STOPPED or SUSPECT pavilion goes to FAILED (14 R386,
R399). -/
def goldenFail (p e : Nat) (d : Device) : Device :=
  let was := pavState d p
  let release := (pavOf d p).releasePending
  let d := d |> countUp BV_GOLD_FAIL |> raiseFault 76 [] [p] (p + e * 2 ^ 8)
    |> modPav p (fun v => { v with releasePending := release })
  if was == 1 || was == 2 then
    d |> setPavState p 3 |> modPav p (fun v => { v with goldenDue := false }) |> clearSuspect p false
  else d

/-- GOLDEN_RESULT (14 R399): the golden run of pavilion `p` ends; its signature is compared with EXPECT, the deferral
count restarts, a GOLDEN_RUN command ends. `ev`: what the checks of the rows it read found, and the rows on which it met
another access (03 R75, R87). -/
def goldenResult (p : Nat) (ev : RowEvents) (d : Device) : Device :=
  match (pavOf d p).golden with
  | none => d
  | some g =>
    let own := if g.slot.isNone then ownerOf d p else none
    let d := d |> goldenMicrocode p g.entry |> rowsRead ev p own.toList (ev.ecc.map (·.1) ++ ev.meets)
    let good := goldenSignature d p g.entry == goldenExpect d g.entry
    let d := modPav p (fun v => { v with golden := none, goldenDue := false, goldenNext := g.entry + 1 }) d
    let d := setFld BV_GOLD_DEFER (3 * p + 2) (3 * p) 0 d
    let d := endRelease p (if good then goldenPass p d else goldenFail p g.entry d)
    match own with
    | some q => match cmdOf d q with
      | some c => if c.ending then d else finishExec q d
      | none => d
    | none => d

/-- GOLDEN_SLOT_END (14 R400, R401): an unfinished run is abandoned, its window not honoured, and the run deferred to the
next interval. -/
def goldenSlotEnd (p : Nat) (d : Device) : Device :=
  match (pavOf d p).golden with
  | some g =>
    if g.slot.isSome then
      d |> modPav p (fun v => { v with golden := none, goldenDue := pavState d p == 1 }) |> endRelease p |> deferGolden p
    else d
  | none => d

/-! Host writes (14 R382, R406). -/

/-- Offsets that BV_LOCK freezes. -/
def belvLocked (off : Nat) : Bool :=
  (decide (BV_SEV 0 ≤ off) && decide (off ≤ BV_SEV 7)) || off == BV_CTRL || off == BV_ALIVE_PERIOD || off == BV_RED_CFG ||
    off == BV_GOLD_CFG || off == BV_WREGION_BASE_LO || off == BV_WREGION_BASE_HI || off == BV_WREGION_GRANULES

/-- A host write of a Belvedere register. -/
def belvWrite (off v : Nat) (d : Device) : Device :=
  if belvLocked off && rbit d BV_LOCK 0 then d
  else if decide (BV_CLEAR 0 ≤ off) && decide (off ≤ BV_CLEAR 3) then statusClear ((off - BV_CLEAR 0) / 4) v d
  else if off == BV_PAV_RELEASE then pavilionRelease v d
  else if off == BV_LOCK then lockWrite v d
  else if off == BV_WDIGEST_STATUS then digestArm v d
  else storedWrite off v d

end Sys2Proof.Machine
end

