-- ==== Sys2Proof/Machine/Gate.lean ====
section
/-! DEFINITION. The Gatehouse: requests and grants, sensors and thermal control, supply alerts, frequency, voltage, clocks
(17 R449 to R471, 18 R487). -/
namespace Sys2Proof.Machine

/-! Requesters (17 Table 17.1). -/

/-- The ceiling of requester `r`. -/
def ceilingOf (r : Nat) : Nat := if r < 8 then 59 else if r < 20 then 31 else if r < 28 then 10 else if r = 28 then 36 else 44
/-- The floor of requester `r`. -/
def floorOf (r : Nat) : Nat := if 8 ≤ r ∧ r < 20 then 2 else 0
/-- Is requester `r` present on this member? -/
def requesterPresent (d : Device) (r : Nat) : Bool :=
  if r < 8 then decide (r < pavCount d)
  else if r < 20 then decide (r - 8 < iceCount d)
  else if r < 28 then decide (r - 20 < pavCount d)
  else decide (r < 30)
/-- The Gatehouse's hold on requester `r`. -/
def requesterOf (d : Device) (r : Nat) : Requester := tabGet {} d.gate.requesters r
/-- Change requester `r`. -/
def modRequester (r : Nat) (f : Requester → Requester) (d : Device) : Device :=
  { d with gate := { d.gate with requesters := tabPut r (f (requesterOf d r)) d.gate.requesters } }
/-- Change the Gatehouse. -/
def modGate (f : Gatehouse → Gatehouse) (d : Device) : Device := { d with gate := f d.gate }

/-! Grants (17 R450, R453, R456, R458). -/

/-- P_eff: 50 % of the limit in an emergency (17 R450, R460). -/
def effLimit (d : Device) : Nat := if halved d then d.gate.limit / 2 else d.gate.pEff
/-- GT_EFF_LIMIT follows P_eff. -/
def showEff (d : Device) : Device := wr GT_EFF_LIMIT (effLimit d) d
/-- B of R450. -/
def budget (d : Device) : Nat := effLimit d - d.gate.reserve - 2 * iceCount d

/-- Σ min(d[r], floor(f * ceiling[r])) for f = n/256, `wants` the demands. -/
def shareSum (wants : List (Nat × Nat)) (n : Nat) : Nat :=
  wants.foldl (fun t w => t + min w.2 (n * ceilingOf w.1 / 256)) 0
/-- The largest f = n/256 in 0 to 1 whose share is within `b`. -/
def shareFraction (wants : List (Nat × Nat)) (b : Nat) : Nat :=
  ((List.range 257).reverse.find? (fun n => decide (shareSum wants n ≤ b))).getD 0
/-- The remaining units go one each, in ascending index, to requesters with unmet demand. One pass gives them all away: the
next greater f would give each requester at most one unit more, and does not fit. -/
def handOut : List (Nat × Nat × Nat) → Nat → List (Nat × Nat)
  | [], _ => []
  | (r, want, got) :: rest, left =>
    if decide (got < want) && decide (0 < left) then (r, got + 1) :: handOut rest (left - 1)
    else (r, got) :: handOut rest left
/-- Demands (requester, units) share `b` units (17 R453). -/
def shareUnits (wants : List (Nat × Nat)) (b : Nat) : List (Nat × Nat) :=
  let n := shareFraction wants b
  handOut (wants.map (fun w => (w.1, w.2, min w.2 (n * ceilingOf w.1 / 256)))) (b - shareSum wants n)

/-- The grants of R453: `present` in ascending index, `req` the requests, `b` the budget. -/
def grantsOf (present : List Nat) (req : Nat → Nat) (b : Nat) : List (Nat × Nat) :=
  let cap := fun r => min (req r) (ceilingOf r)
  let first := (present.filter (fun r => decide (28 ≤ r))).map (fun r => (r, cap r))
  let others := (present.filter (fun r => decide (r < 28))).map (fun r => (r, cap r - floorOf r))
  let sum := first.foldl (fun t w => t + w.2) 0
  let more := if sum ≤ b then shareUnits others (b - sum) ++ first
    else others.map (fun w => (w.1, 0)) ++ shareUnits first b
  more.map (fun w => (w.1, floorOf w.1 + w.2))

/-- Static grants of the running Strict steps that name requester `r` (05 R140), and 59 units for a golden run's pavilion
(17 R457). -/
def staticGrants (d : Device) (r : Nat) : Nat :=
  let steps := d.comp.steps.foldl (fun t e => if e.2.strict then e.2.segs.foldl (fun t s =>
    s.grants.foldl (fun t g => if g.1 == r then t + g.2 else t) t) t else t) 0
  let golden := decide (r < 8) && ((pavOf d r).golden.map (·.slot.isNone)).getD false
  steps + (if golden then 59 else 0)

/-- What R456 gives requester `r` in Strict mode. -/
def strictGrant (d : Device) (r : Nat) : Nat :=
  floorOf r + staticGrants d r + (if r = 28 then rd d GT_STRICT_DRAPE else if r = 29 then rd d GT_STRICT_IO else 0)

/-- The grants that the state of the Gatehouse gives (17 R453, R456, R458). -/
def computeGrants (d : Device) : List (Nat × Nat) :=
  let present := (List.range 30).filter (requesterPresent d)
  if strictMode d then
    if halved d then grantsOf present (strictGrant d) (budget d) else present.map (fun r => (r, strictGrant d r))
  else grantsOf present (fun r => (requesterOf d r).req) (budget d)

/-- The grant in force of requester `r`: in Strict mode outside an emergency the sum of R456 at any moment. -/
def grantInForce (d : Device) (r : Nat) : Nat :=
  if !requesterPresent d r then 0
  else if strictMode d && !halved d then strictGrant d r
  else fld d (GT_GRANT r) 10 0

/-- GT_GRANT_r as the host reads it (17 Table 17.8). -/
def grantView (d : Device) (r : Nat) : Nat := fld d (GT_GRANT r) 26 16 * 2 ^ 16 + grantInForce d r % 2 ^ 11

/-- Grants take effect. -/
def applyGrants (gs : List (Nat × Nat)) (d : Device) : Device :=
  forEach gs (fun g => setFld (GT_GRANT g.1) 10 0 g.2) d

/-- Every running Strict step loses the Strict promise (05 R156, 17 R458). -/
def emergencyLosesStrict (d : Device) : Device :=
  applyIf (strictMode d) (forEach (busyQueues d) runLosesStrict) d

/-- A power or thermal emergency is present: the Lodge's count starts over (16 R444). -/
def emergencyPresent (d : Device) : Device := modGate (fun g => { g with emergency := true, quietSince := none }) d

/-- Neither condition has been present for `n` beats, unless one still is (16 R444). -/
def emergencyAbsent (n : Nat) (d : Device) : Device :=
  if halved d || !d.gate.emergency then d else modGate (fun g => { g with quietSince := some (totalBeats d - n) }) d

/-! Sensors (17 R459). -/

/-- Is sensor `n` read on this member? -/
def sensorRead (d : Device) (n : Nat) : Bool :=
  if n < 8 then decide (n < pavCount d)
  else if n < 12 then decide (2 * (n - 8) < pavCount d)
  else if n < 16 then true
  else if n < 22 then decide (2 * (n - 16) < iceCount d)
  else decide (n < 24)
/-- Sensor `n` is marked failed. -/
def sensorFailed (d : Device) (n : Nat) : Bool := rbit d (GT_TEMP n) 31
/-- Readings of sensor `n`, newest first. -/
def readingsOf (d : Device) (n : Nat) : List Int := (tabGet ({} : Sensor) d.gate.sensors n).readings
/-- Greatest less least of a list of readings. -/
def spread (xs : List Int) : Int := match xs with
  | [] => 0
  | x :: xs => xs.foldl max x - xs.foldl min x
/-- Sensor `n` is stuck: unchanged for 1,000 epochs while another that is read and not failed moved by 1 °C or more. -/
def sensorStuck (d : Device) (n : Nat) : Bool :=
  let xs := readingsOf d n
  xs.length == 1000 && spread xs == 0 &&
    (List.range 24).any (fun m => m != n && sensorRead d m && !sensorFailed d m && decide (16 ≤ spread (readingsOf d m)))

/-- The reading of sensor `n`, in 1/16 °C, at an epoch boundary. -/
def takeReading (n : Nat) (t : Int) (d : Device) : Device :=
  let s : Sensor := { readings := (t :: readingsOf d n).take 1000 }
  d |> modGate (fun g => { g with sensors := tabPut n s g.sensors }) |> setFld (GT_TEMP n) 15 0 (patternOf 16 t)

/-- Sensor `n` is marked failed where it must be, with source 62 once (17 R459). -/
def judgeSensor (n : Nat) (d : Device) : Device :=
  let t := (readingsOf d n).headD 0
  if !sensorFailed d n && (decide (t < -880) || decide (2400 < t) || sensorStuck d n) then
    d |> setBit (GT_TEMP n) 31 true |> setBit GT_STATUS 5 true |> raiseFault 62 [] [] (2 + n * 2 ^ 8)
  else d

/-- The hottest sensor that is read and not failed, with its reading (17 R460). -/
def hottest (d : Device) : Option (Nat × Int) :=
  ((List.range 24).filter (fun n => sensorRead d n && !sensorFailed d n)).foldl (fun (m : Option (Nat × Int)) n =>
    let t := (readingsOf d n).headD 0
    match m with
    | some x => if x.2 < t then some (n, t) else m
    | none => some (n, t)) none

/-! Thermal control (17 R460 to R462). -/

/-- A thermal emergency begins or ends with the hottest reading; at its end P_eff starts from 50 %. -/
def thermalState (n : Nat) (t : Int) (d : Device) : Device :=
  if !rbit d GT_STATUS 2 && decide (2000 ≤ t) then
    d |> setBit GT_STATUS 2 true |> emergencyPresent |> raiseFault 62 [] [] (1 + n * 2 ^ 8)
  else if rbit d GT_STATUS 2 && decide (t ≤ 1952) then
    let d := d |> setBit GT_STATUS 2 false |> modGate (fun g => { g with pEff := g.limit / 2, ramping := true })
    emergencyAbsent 0 d
  else d

/-- P_eff moves by the rule of R461; in Strict mode it only rises, after an emergency. -/
def throttleStep (t : Int) (d : Device) : Device :=
  let thr : Int := (rd d GT_THR_THROTTLE * 16 : Nat)
  let g := d.gate
  let half := g.limit / 2
  if halved d then d
  else if decide (thr ≤ t) && !strictMode d then modGate (fun g => { g with pEff := max (g.pEff - 4) half, ramping := false }) d
  else if decide (t ≤ thr - 32) && (!strictMode d || g.ramping) then
    let p := min (g.pEff + 1) g.limit
    modGate (fun g => { g with pEff := p, ramping := g.ramping && decide (p < g.limit) }) d
  else d

/-- THROTTLING and THROTTLE_SUPPRESSED (17 Table 17.7). -/
def thermalBits (t : Int) (d : Device) : Device :=
  d |> setBit GT_STATUS 1 (!halved d && !d.gate.ramping && decide (d.gate.pEff < d.gate.limit))
    |> setBit GT_STATUS 4 (strictMode d && decide (((rd d GT_THR_THROTTLE * 16 : Nat) : Int) ≤ t))

/-- GT_LIMIT and GT_RESERVE as written take effect (17 R451); P_eff follows a limit it was not held below. -/
def adoptLimits (d : Device) : Device :=
  let new := rd d GT_LIMIT
  modGate (fun g =>
    let p := if g.pEff == g.limit then new else min (max g.pEff (new / 2)) new
    { g with limit := new, reserve := rd d GT_RESERVE, pEff := p }) d

/-! Frequency (17 R466, R467). -/

/-- Domains of requester `r` that switch frequency, and the slowest step. -/
def freqDomains (r : Nat) : List Nat × Nat :=
  if r < 8 then ([r, 8 + r], 3) else if r < 20 then ([], 0) else if r < 28 then ([r - 4], 2)
  else if r = 28 then ([44, 45], 1) else ([], 0)

/-- The frequency policy of requester `r` at an epoch boundary, for the grant of the epoch that ends (17 R467). -/
def freqStep (r : Nat) (d : Device) : Device :=
  let g := grantInForce d r
  let low := if 2 * g < ceilingOf r then (requesterOf d r).low + 1 else 0
  let high := if 3 * ceilingOf r ≤ 4 * g then (requesterOf d r).high + 1 else 0
  let f := freqDomains r
  let step := rd d (GT_FREQ (f.1.headD 0))
  let begin_ := modRequester r (fun q => { q with low := 0, high := 0 })
  if f.1.isEmpty then d
  else if decide (10 ≤ low) && decide (step < f.2) then
    d |> begin_ |> modGate (fun g => { g with rising := g.rising.filter (fun x => !f.1.contains x.1) })
      |> forEach f.1 (fun x => wr (GT_FREQ x) (step + 1))
  else if decide (2 ≤ high) && decide (0 < step) && f.1.all (fun x => !(d.gate.rising.map (·.1)).contains x) then
    d |> begin_ |> raiseIslands (f.1.map (fun x => (x, step - 1)))
  else modRequester r (fun q => { q with low := low, high := high }) d

/-- In Strict mode, outside an emergency, every island runs at step 0 (17 R467): steps that an emergency lowered go back
from the first epoch boundary after it. -/
def strictSteps (d : Device) : Device :=
  if strictMode d && !islandsReady d && d.gate.rising.isEmpty then raiseAll d else d

/-! Epochs (17 R452, R455). -/

/-- The estimate of requester `r` for the epoch that ends; source 85 at the third epoch of an excess (17 R455). -/
def noteEstimate (r est : Nat) (d : Device) : Device :=
  let g := grantInForce d r
  let overs := if g + 2 < est then (requesterOf d r).overs + 1 else 0
  let d := d |> wr (GT_MEAS r) (est % 2 ^ 11) |> modRequester r (fun q => { q with overs := overs })
  if overs == 3 then
    d |> setBit GT_STATUS 6 true |> raiseFault 85 [] [] (r + est % 2 ^ 11 * 2 ^ 8 + g % 2 ^ 11 * 2 ^ 19)
  else d

/-- Has requester `r` no work: no segment nor golden run, no thread, no pixels of a frame (17 R452)? -/
def requesterIdle (d : Device) (r : Nat) : Bool :=
  if r < 8 then (pavOf d r).run.isNone && (pavOf d r).golden.isNone
  else if r < 20 then false
  else if r < 28 then (clusterOf d (r - 20)).threads.all (fun t => !t.2.running)
  else r == 28 && d.drape.streams.all (fun s => s.2.frames.isEmpty)

/-- Does Icehouse `i` hold a read or a write? -/
def iceHolds (d : Device) (i : Nat) : Bool :=
  d.comp.ice.any (fun q => match q.write with
    | some ws => ws.any (fun w => (iceOf d w.1).1 == i)
    | none => (iceOf d q.addr).1 == i)

/-- The request that requester `r` forms of an estimate of its work (17 R452): an Icehouse requests its ceiling or its
floor, and what is idle requests nothing. -/
def requestOf (d : Device) (r req : Nat) : Nat :=
  if requesterIdle d r then 0
  else if 8 ≤ r ∧ r < 20 then if iceHolds d (r - 8) || decide (floorOf r < req) then ceilingOf r else floorOf r
  else min req (ceilingOf r)

/-- The request of requester `r` at an epoch boundary. -/
def noteRequest (r req : Nat) (d : Device) : Device :=
  let v := requestOf d r req
  d |> modRequester r (fun q => { q with req := v }) |> setFld (GT_GRANT r) 26 16 v

/-- The Gatehouse runs: the device is released and no restart is in progress. -/
def gateRuns (d : Device) : Bool :=
  (d.lodge.stage == .released || d.lodge.stage == .running) && d.belv.safe == .none

/-- EPOCH_BOUNDARY (17 R452): sensors in 1/16 °C, requests and estimates by index, and the fixed-base estimate. -/
def epochBoundary (temps : List Int) (reqs ests : List Nat) (base : Nat) (d : Device) : Device :=
  if !(gateRuns d && d.clock.beat % 250 == 0 && d.gate.epochBeat != some d.clock.beat) then d else
  let present := (List.range 30).filter (requesterPresent d)
  let d := d |> modGate (fun g => { g with epochBeat := some d.clock.beat, avsEpochs := g.avsEpochs + 1 }) |> addWrap GT_EPOCH 1
  let d := forEach present (fun r => noteEstimate r (ests.getD r 0)) d
  let d := wr GT_PKG_POWER ((present.foldl (fun t r => t + ests.getD r 0) base) % 2 ^ 11) d
  let d := applyIf ((!strictMode d || halved d) && rbit d GT_CTRL 2) (forEach present freqStep) d |> strictSteps
  let d := forEach present (fun r => noteRequest r (reqs.getD r 0)) d
  let d := adoptLimits d
  let sensors := (List.range 24).filter (sensorRead d)
  let d := forEach sensors (fun n => takeReading n (temps.getD n 0)) d
  let d := forEach sensors judgeSensor d
  let d := match hottest d with
    | some (n, t) =>
      d |> wr GT_HOT (n * 2 ^ 16 + patternOf 16 t) |> thermalState n t |> throttleStep t |> thermalBits t
    | none => d
  let d := applyIf (halved d) emergencyLosesStrict d |> showEff
    |> applyIf (d.gate.quietSince.isNone && d.pins.alertN) (emergencyAbsent 0)
  let gs := computeGrants d
  d |> forEach gs (fun g => modRequester g.1 (fun q => { q with next := g.2 })) |> modGate (fun g => { g with applyDue := true })

/-- GRANT_APPLY (17 R452): 0.5 µs, 250 ticks of 2 ns, after the boundary. -/
def grantApply (d : Device) : Device :=
  match d.gate.epochBeat with
  | some b =>
    if d.gate.applyDue && decide (b * 20 + 250 ≤ d.clock.beat * 20 + d.clock.tick) then
      d |> applyGrants (((List.range 30).filter (requesterPresent d)).map (fun r => (r, (requesterOf d r).next)))
        |> modGate (fun g => { g with applyDue := false })
    else d
  | none => d

/-- SUPPLY_ALERT (17 R464, R465): all grants are recomputed at once, at 50 %; source 63. -/
def supplyAlert (d : Device) : Device :=
  let d := { d with pins := { d.pins with alertN := false } }
  if !gateRuns d || rbit d GT_STATUS 3 then d
  else
    let d := d |> setBit GT_STATUS 3 true |> setBit GT_STATUS 1 false |> emergencyPresent |> emergencyLosesStrict |> showEff
    let gs := computeGrants d
    d |> applyGrants gs |> forEach gs (fun g => modRequester g.1 (fun q => { q with next := g.2 }))
      |> raiseFault 63 [] [] 0

/-- SUPPLY_ALERT_EXIT (17 R460): PWR_ALERT_N has been high for 100 µs, 2,500 beats. -/
def supplyAlertExit (d : Device) : Device :=
  let d := { d with pins := { d.pins with alertN := true } }
  d |> setBit GT_STATUS 3 false |> emergencyAbsent 2500 |> showEff

/-! Host writes (17 R451, R456, R471). -/

/-- A write that is refused sets CFG_ERR. -/
def gateRefuse (d : Device) : Device := setBit GT_STATUS 7 true d

/-- POWER_LIMIT_WRITE. -/
def limitWrite (v : Nat) (d : Device) : Device :=
  let x := fieldOf v 10 0
  if decide (320 ≤ x) && decide (x ≤ 1040) then wr GT_LIMIT x d else gateRefuse d

/-- RESERVE_WRITE. -/
def reserveWrite (v : Nat) (d : Device) : Device :=
  let x := fieldOf v 10 0
  if decide (144 ≤ x) && decide (x ≤ 400) then wr GT_RESERVE x d else gateRefuse d

/-- A Strict step runs. -/
def strictRunning (d : Device) : Bool := d.comp.steps.any (fun e => e.2.strict && e.2.started)

/-- STRICT_GRANT_WRITE: GT_STRICT_IO, else GT_STRICT_DRAPE. -/
def strictGrantWrite (io : Bool) (v : Nat) (d : Device) : Device :=
  if strictRunning d then gateRefuse d else storedWrite (if io then GT_STRICT_IO else GT_STRICT_DRAPE) v d

/-- A host write of a Gatehouse register. -/
def gateWrite (off v : Nat) (d : Device) : Device :=
  if off == GT_LIMIT then limitWrite v d
  else if off == GT_RESERVE then reserveWrite v d
  else if off == GT_STRICT_DRAPE then strictGrantWrite false v d
  else if off == GT_STRICT_IO then strictGrantWrite true v d
  else if off == GT_THR_THROTTLE then
    if decide (100 ≤ fieldOf v 7 0) && decide (fieldOf v 7 0 ≤ 118) then wr GT_THR_THROTTLE (fieldOf v 7 0) d else gateRefuse d
  else storedWrite off v d

/-! Voltage and clocks (17 R468, R470; 18 R487). -/

/-- A voltage in 5 mV steps from 650 to 800. -/
def railStep (mv : Nat) : Nat := (max 650 (min 800 mv) + 4) / 5 * 5

/-- A write of VDD_CORE starts, unless it would raise the rail after the Gatehouse stopped raising it. -/
def startRail (mv : Nat) (d : Device) : Device :=
  if mv == d.gate.millivolts || (d.gate.avsStopped && decide (d.gate.millivolts < mv)) then d
  else modGate (fun g => { g with avsTarget := some mv, avsFailures := 0 }) d

/-- The islands that wait for the rail go up (17 R468). -/
def islandsRise (d : Device) : Device :=
  d |> forEach d.gate.rising (fun x => wr (GT_FREQ x.1) x.2) |> modGate (fun g => { g with rising := [], riseAt := none })

/-- The islands that wait go up where the rail has the voltage that they need. -/
def riseIfReady (d : Device) : Device :=
  applyIf ((d.gate.riseAt.map (fun v => decide (v ≤ d.gate.millivolts))).getD false) islandsRise d

/-- An evaluation is due: 100 epochs after the last, when islands wait to go up, or with AVS_EN = 0. -/
def avsDue (d : Device) : Bool := decide (100 ≤ d.gate.avsEpochs) || !d.gate.rising.isEmpty || !rbit d GT_CTRL 1

/-- AVS_EVALUATION: `mv` is the lowest voltage at which every speed monitor passes at the steps that the islands have or
wait for; 15 mV of guard; 720 mV with AVS_EN = 0. -/
def avsEvaluation (mv : Nat) (d : Device) : Device :=
  if !gateRuns d || d.gate.avsTarget.isSome || !avsDue d then d
  else
    let v := if rbit d GT_CTRL 1 then railStep (mv + 15) else 720
    d |> modGate (fun g => { g with avsEpochs := 0, riseAt := if g.rising.isEmpty then none else some v }) |> riseIfReady
      |> startRail v

/-- AVS_ACK. -/
def avsAck (d : Device) : Device :=
  match d.gate.avsTarget with
  | some mv => d |> modGate (fun g => { g with millivolts := mv, avsTarget := none, avsFailures := 0 }) |> riseIfReady
  | none => d

/-- AVS_TIMEOUT: the write is repeated twice; after the third failure raising stops. -/
def avsTimeout (d : Device) : Device :=
  match d.gate.avsTarget with
  | some _ =>
    if 2 ≤ d.gate.avsFailures then modGate (fun g => { g with avsTarget := none, avsFailures := 0, avsStopped := true, rising := [], riseAt := none }) d
    else modGate (fun g => { g with avsFailures := g.avsFailures + 1 }) d
  | none => d

/-- SPEED_MONITOR_FAIL: the voltage is raised at once to `mv` or more. -/
def speedMonitorFail (mv : Nat) (d : Device) : Device :=
  if gateRuns d && rbit d GT_CTRL 1 then startRail (railStep (max (max mv (d.gate.avsTarget.getD 0)) (d.gate.millivolts + 5))) d else d

/-- SYSCLK_LOSS: absent, else outside ±2 %; source 72. -/
def sysclkLoss (absent : Bool) (d : Device) : Device :=
  faultAssertion 72 [] [] (if absent then 1 else 2) { d with belv := { d.belv with sysclkLost := absent || d.belv.sysclkLost } }

/-- SYSCLK_RESTORED: SYSCLK_25 is present and the PLLs lock. -/
def sysclkRestored (d : Device) : Device := { d with belv := { d.belv with sysclkLost := false } }

/-- Is the domain of Table 5.11 present? -/
def domainPresent (d : Device) (n : Nat) : Bool :=
  if n < 24 then decide (n % 8 < pavCount d) else if n < 32 then true else if n < 44 then decide (n - 32 < iceCount d)
  else decide (n < 48)

/-- PLL_UNLOCK: the PLL of domain `n` loses lock; source 73. -/
def pllUnlock (n : Nat) (d : Device) : Device := if domainPresent d n then faultAssertion 73 [] [] n d else d

end Sys2Proof.Machine
end

