-- ==== Sys2Proof/Machine/HostIf.lean ====
section
/-! DEFINITION. The host interface: the link, register accesses by block, the BAR4 window, the mailbox, the alias window,
features and the MSI-X structures (15 R407 to R425, R494). -/
namespace Sys2Proof.Machine

/-! The link (15 R408, R409, R415). -/

/-- Requests that waited for the link go out in order. -/
def flushWaiting (d : Device) : Device :=
  if !hostUp d then d else
  let d := forEach d.link.waiting (fun r (d : Device) => match r with
    | .write a bs => { d with mems := { d.mems with host := memWriteN 0 d.mems.host a bs } }
    | .message v => { d with link := { d.link with messages := d.link.messages ++ [v] } }) d
  { d with link := { d.link with waiting := [] } }

/-- Change the link. -/
def modLink (f : Link → Link) (d : Device) : Device := { d with link := f d.link }

/-- The link leaves L0. -/
def linkLost (d : Device) : Device :=
  if !d.link.l0 then d else
  d |> modLink (fun l => { l with l0 := false }) |> setBit PCI_LINK 17 false |> countUp PCI_LINKDOWN |> linkDegraded

/-- LINK_DOWN (15 R409). -/
def linkDown (d : Device) : Device := linkLost d

/-- LINK_UP (15 R408, R409): the link is in L0 at a rate and width of Table 15.1; `ready` says that the endpoint answers
configuration requests, which it does within 100 ms; the link-layer replays and entries to Recovery since the last one
are counted. -/
def linkUp (rate width : Nat) (flit ready : Bool) (replays recoveries : Nat) (d : Device) : Device :=
  if !(d.pins.perstN && decide (1 ≤ rate) && decide (rate ≤ 6) && [1, 2, 4].contains width && (flit || rate != 6)) then d else
  d |> wr PCI_LINK (rate + width * 2 ^ 4 + (if flit then 2 ^ 16 else 0) + 2 ^ 17)
    |> countBy PCI_REPLAY replays |> countBy PCI_RECOVERY recoveries
    |> modLink (fun l => { l with l0 := true, configReady := l.configReady || ready }) |> linkDegraded |> flushWaiting

/-- The MSI-X table and the Pending Bit Array as a reset leaves them. -/
def resetMsix (d : Device) : Device :=
  { d with regs := d.regs.filter (fun r => !(decide (0xE100000 ≤ r.1) && decide (r.1 < 0xE180100))) }

/-- HOT_RESET (15 R409): configuration space returns to its reset values. -/
def hotReset (d : Device) : Device :=
  d |> linkLost |> resetMsix |> modLink (fun l => { l with
    busMaster := false, msixEnable := false, functionMask := false, d3hot := false, bar4GiB := 64,
    bars := [0, 0, 0], aspmL1 := false, maxPayload := 0, maxReadRequest := 2, aerStatus := 0 })

/-! Configuration space (15 R407, R410, R411). PRESUMED (Assumption 87): the fields of a double word lie as the PCI Express
Base Specification places them. -/

/-- Device ID and Vendor ID of the member (15 Table 15.2). -/
def deviceId (d : Device) : Nat :=
  [0x0880, 0x0860, 0x0840, 0x0880].getD (fuseMember d.fuses) 0x0880 * 2 ^ 16 + 0x1F8E

/-- Bytes that the 64-bit BAR `k` (0 BAR0, 1 BAR2, 2 BAR4) decodes (15 Table 15.3). -/
def barBytes (d : Device) (k : Nat) : Nat :=
  match k with
  | 0 => 2 ^ 28
  | 1 => 2 ^ 19
  | _ => d.link.bar4GiB * 2 ^ 30

/-- What base address register `n` reads as: 64-bit memory, BAR4 prefetchable (15 R411). -/
def barWord (d : Device) (n : Nat) : Nat :=
  let base := d.link.bars.getD (n / 2) 0
  if 6 ≤ n then 0
  else if n % 2 == 1 then base / 2 ^ 32
  else base % 2 ^ 32 + 4 + (if n == 4 then 8 else 0)

/-- Base address register `n` takes a value; bits below the BAR's size stay zero. -/
def writeBar (n v : Nat) (d : Device) : Device :=
  let base := d.link.bars.getD (n / 2) 0
  let whole := if n % 2 == 1 then base % 2 ^ 32 + v * 2 ^ 32 else base / 2 ^ 32 * 2 ^ 32 + v
  if 6 ≤ n then d
  else modLink (fun l => { l with bars := l.bars.set (n / 2) (whole - whole % barBytes d (n / 2)) }) d

/-- A double word of configuration space. -/
def configWord (d : Device) (w : ConfigWord) : Nat :=
  let flag := fun (b : Bool) (i : Nat) => if b then 2 ^ i else 0
  match w with
  | .identity => deviceId d
  | .command => flag d.link.busMaster 2
  | .classRevision => 0x120000 * 2 ^ 8 + 0x10
  | .bar n => barWord d n
  | .subsystem => d.link.subsystem
  | .serial upper => if upper then d.fuses.dieId / 2 ^ 32 else d.fuses.dieId % 2 ^ 32
  | .deviceControl => d.link.maxPayload * 2 ^ 5 + d.link.maxReadRequest * 2 ^ 12
  | .linkControl => flag d.link.aspmL1 1
  | .power => if d.link.d3hot then 3 else 0
  | .msix => 2047 + flag d.link.functionMask 14 + flag d.link.msixEnable 15
  | .resizable => (Nat.log2 d.link.bar4GiB + 10) * 2 ^ 8
  | .aerUncorrectable => d.link.aerStatus

/-- CONFIGURATION_REQUEST (15 R407 to R411). A Max Payload Size above 512 bytes, a Max Read Request Size above 4,096 bytes
and a window size that Table 15.3 does not list are not taken. -/
def configRequest (op : ConfigOp) (d : Device) : Device :=
  if !d.link.l0 then d
  else if !d.link.configReady then { d with hostif := { d.hostif with answer := { retry := true } } }
  else
    let d := { d with hostif := { d.hostif with answer := {} } }
    match op with
    | .read w => answerWord (configWord d w) d
    | .bar n v => writeBar n v.toNat d
    | .aspmL1 b => modLink (fun l => { l with aspmL1 := b }) d
    | .maxPayload c => if c ≤ 2 then modLink (fun l => { l with maxPayload := c }) d else d
    | .maxReadRequest c => if c ≤ 5 then modLink (fun l => { l with maxReadRequest := c }) d else d
    | .aerClear v => modLink (fun l => { l with aerStatus := clearBits l.aerStatus v.toNat }) d
    | .busMaster b => d |> modLink (fun l => { l with busMaster := b }) |> flushWaiting
    | .msixEnable b => modLink (fun l => { l with msixEnable := b }) d
    | .functionMask b => modLink (fun l => { l with functionMask := b }) d
    | .d3hot b => modLink (fun l => { l with d3hot := b }) d
    | .bar4Size g => if [4, 8, 16, 32, 64, 128, 256].contains g then modLink (fun l => { l with bar4GiB := g }) d else d

/-- MSIX_PENDING_SEND of vector `v` (15 R415). -/
def msixPendingSend (v : Nat) (d : Device) : Device :=
  if decide (v < 2048) && rbit d (MSIX_PBA (v / 32)) (v % 32) && vectorOpen d v then
    d |> setBit (MSIX_PBA (v / 32)) (v % 32) false |> sendMessage v
  else d

/-! The mailbox (15 R419, R420; 16 R445). -/

/-- `n` words of a value. -/
def wordsOf (n v : Nat) : List Nat := (List.range n).map (fun i => fieldOf v (32 * i + 31) (32 * i))

/-- The 32-bit words of bytes, little-endian. -/
def wordsOfBytes (n : Nat) (bs : List Byte) : List Nat := (List.range n).map (fun i => leField bs (4 * i) 4)

/-- The features that the member offers (15 Table 15.14). -/
def offeredFeatures (d : Device) : Nat := if fld d DEV_CONFIG 9 8 == 0 then 0xFF else 0x7F

/-- What a selector names: its words, or none where KIND or INDEX is unknown (15 Table 15.5, 16 Table 16.10). -/
def mailboxWords (d : Device) (kind index : Nat) : Option (List Nat) :=
  let one := fun n v => if index = 0 then some (wordsOf n v) else none
  match kind with
  | 0x0001 => one 2 d.clock.beat
  | 0x0002 => if index = 0 then
      some ([rd d CT_NS, rd d CT_FRAC, rd d CT_WRAPS, d.tower.cur.ns] ++ wordsOf 2 d.tower.cur.sec) else none
  | 0x0003 => one 2 (patternOf 64 d.tower.servoI)
  | 0x0004 => one 4 d.belv.status.toNat
  | 0x0005 => if index < pavCount d then
      some (wordsOf 2 (if rbit d (KS_EXC_INFO index) 31 then (clusterOf d index).excAddr else 0)) else none
  | 0x0006 => if index < 8192 then some (wordsOf 2 (sqBase d index)) else none
  | 0x0007 => if index < 8192 then some (wordsOf 2 (cqBase d index)) else none
  | 0x0008 => one 2 (swapBase d)
  | 0x0009 => one 2 d.link.bar4Base
  | 0x000A => one 8 (offeredFeatures d)
  | 0x000B => one 8 d.hostif.featAccepted
  | 0x000C => one 2 d.fuses.dieId
  | 0x0100 =>
    let b := d.lodge.bcb
    if index = 0 then
      some [rd d DEV_FW_VERSION, bcbGeneration b, bcbSvn b % 2 ^ 7 + runSlot d * 2 ^ 8 +
        (if rbit d LD_STATUS 4 then 2 ^ 9 else 0) + (if d.lodge.live then 2 ^ 10 else 0), rd d LD_FUSE_STATE]
    else none
  | 0x0101 => if index = 0 then some (wordsOfBytes 16 (sha512 d.lodge.bcb)) else none
  | 0x0102 =>
    if index < bcbImages d.lodge.bcb then some (wordsOfBytes 16 (entryDigest (bcbEntry d.lodge.bcb index))) else none
  | 0x0103 =>
    if index = 0 then
      let st := fld d LD_STATUS 13 12
      let b := if st == 2 then stagedBcb d else []
      some [st, bcbGeneration b, bcbVersion b, bcbSvn b]
    else none
  | 0x0104 => if index = 0 then some (wordsOfBytes 16 (sha512 (deviceKeys d.fuses.secret))) else none
  | _ => none

/-- Lodge-served selectors (15 R420). -/
def lodgeServed (kind : Nat) : Bool := kind == 0x000A || kind == 0x000B || (decide (0x0100 ≤ kind) && decide (kind ≤ 0x01FF))

/-- A write of DEV_MBOX_SEL: any snapshot is released and the selected value is requested (15 R419). -/
def mailboxSelect (v : Nat) (d : Device) : Device :=
  let d := d |> wr DEV_MBOX_SEL v |> wr DEV_MBOX_STATUS 0
  { d with hostif := { d.hostif with mboxPending := true } }

/-- MAILBOX_SNAPSHOT (15 R419). -/
def mailboxSnapshot (d : Device) : Device :=
  if !(d.hostif.mboxPending && isReady d) then d else
  let d := { d with hostif := { d.hostif with mboxPending := false } }
  let kind := fld d DEV_MBOX_SEL 31 16
  match mailboxWords d kind (fld d DEV_MBOX_SEL 15 0) with
  | none => wr DEV_MBOX_STATUS (2 ^ 29) d
  | some ws =>
    if lodgeServed kind && rbit d DEV_STATUS 4 then wr DEV_MBOX_STATUS (2 ^ 30) d
    else d |> forEach ws.zipIdx (fun w d => wr (DEV_MBOX_DATA w.2) w.1 d) |> wr DEV_MBOX_STATUS (2 ^ 31 + ws.length)

/-- A read of DEV_MBOX_DATA_n; that of the last word releases the snapshot (15 R419). -/
def mailboxRead (n : Nat) (d : Device) : Device :=
  if !rbit d DEV_MBOX_STATUS 31 then answerWord 0 d
  else
    let d := answerWord (rd d (DEV_MBOX_DATA n)) d
    if n + 1 == fld d DEV_MBOX_STATUS 4 0 then wr DEV_MBOX_STATUS 0 d else d

/-! Features (15 R423, R424). -/

/-- FEATURE_COMMIT: a write of DEV_FEAT_CTRL with bit 0 set. -/
def featureCommit (d : Device) : Device :=
  if rbit d DEV_FEAT_CTRL 8 then d
  else if rbit d DEV_STATUS 4 then d |> setBit DEV_FEAT_CTRL 9 true |> devEvent 3
  else
    let req := (List.range 8).foldl (fun t w => t + rd d (DEV_FEAT_REQ w) * 2 ^ (32 * w)) 0
    let d := d |> setBit DEV_FEAT_CTRL 9 false |> setBit DEV_FEAT_CTRL 8 true
    { d with hostif := { d.hostif with featRequest := req } }

/-- FEATURE_NEGOTIATION_DONE. -/
def featureDone (d : Device) : Device :=
  if !(rbit d DEV_FEAT_CTRL 8 && lodgeUp d) then d else
  let d := { d with hostif := { d.hostif with featAccepted := (d.hostif.featRequest &&& offeredFeatures d) ||| 1 } }
  let d := d |> setBit DEV_FEAT_CTRL 8 false |> devEvent 3
  if rbit d DEV_MODE 0 && !bitOf d.hostif.featAccepted 4 then devModeWrite (putBit (rd d DEV_MODE) 0 false) d else d

/-! Register writes, by block (15 Table 15.4). -/

/-- A write to a register of queue `q` (08 Table 8.9). -/
def queueRegTake (off v : Nat) (d : Device) : Device :=
  let q := (off - 0x1010000) / 0x40
  match off % 0x40 with
  | 0x00 => queueConfig q v d
  | 0x04 => queueControl q v d
  | 0x08 => storedWrite off v d
  | 0x0C => storedWrite off v d
  | _ => if queueEnabled d q then d else storedWrite off v d

/-- A host write to a register of queue `q`; one of a firmware queue is discarded and counted (08 R221). -/
def queueRegWrite (off v : Nat) (d : Device) : Device :=
  if firmwareQueue ((off - 0x1010000) / 0x40) then badAccess 0 off d else queueRegTake off v d

/-- Device firmware writes a register of one of its queues (08 R221). DESIGN CHOICE (Assumption 88): the firmware path
reaches the registers of queues 0 to 15 and their doorbells, once the device is Ready. -/
def firmwareRegWrite (off v : Nat) (d : Device) : Device :=
  if isReady d && off % 4 == 0 && decide (0x1010000 ≤ off) && decide (off < 0x1010400) then queueRegTake off v d else d

/-- A host write to a key-value register (07 R184, R207, R220). -/
def kvWrite (off v : Nat) (d : Device) : Device :=
  if off == CK_KV_CTRL then
    let d := setFld CK_KV_CTRL 31 1 (writtenValue ((regAt d off).getD { base := 0 }) (rd d off) v / 2) d
    if bitOf v 0 then kvEnable d else kvDisable d
  else if off == CK_KV_POOL_BASE || off == CK_KV_POOL_PAGES || off == CK_KV_CTRL_BASE || off == CK_KV_SWAP_BASE_LO ||
      off == CK_KV_SWAP_BASE_HI || off == CK_KV_SWAP_SLOTS then
    if rbit d CK_KV_CTRL 0 then kvReject d else storedWrite off v d
  else match (List.range 4).find? (fun n => CK_PFX_KEY n == off) with
  | some n => prefixKeyWrite n v d
  | none => storedWrite off v d

/-- A host write to a register of the DEV block (15 R422). -/
def devWrite (off v : Nat) (d : Device) : Device :=
  if off == DEV_MODE then devModeWrite v d
  else if off == DEV_MBOX_SEL then mailboxSelect v d
  else if off == DEV_FEAT_CTRL then if bitOf v 0 then featureCommit d else d
  else if off == DEV_BAR4_BASE_HI then
    let d := storedWrite off v d
    modLink (fun l => { l with bar4Base := fld d DEV_BAR4_BASE_LO 31 30 * 2 ^ 30 + fld d DEV_BAR4_BASE_HI 15 0 * 2 ^ 32 }) d
  else storedWrite off v d

/-- A host write to a register of the Lodge (16 R437, R447): a ring is enabled only in open DRAM. -/
def lodgeWrite (off v : Nat) (d : Device) : Device :=
  let on := rbit d LD_RING_CFG 31
  if off == LD_RING_BASE_LO || off == LD_RING_BASE_HI then if on then d else storedWrite off v d
  else if off == LD_RING_CFG then
    if on then setBit off 31 (bitOf v 31) d
    else
      let d := storedWrite off v d
      if openDram d (ldRingBase d) (ldRingSize d * 128) then d else setBit off 31 false d
  else if off == LD_RING_TAIL then ringTail v 0 d
  else storedWrite off v d

/-- A host write to the register at BAR0 offset `off`, by block; the alias window apart. -/
def blockWrite (off v : Nat) (d : Device) : Device :=
  if (regAt d off).isNone && !(0xA100000 ≤ off && off < 0xA150000) && !(0x9400000 ≤ off && off < 0x9480000) then d else
  match off / 0x1000000 with
  | 0x0 => devWrite off v d
  | 0x1 =>
    if 0x1010000 ≤ off && off < 0x1090000 then queueRegWrite off v d
    else if 0x1400000 ≤ off then kvWrite off v d
    else storedWrite off v d
  | 0x3 => if 0x100 ≤ off % 0x200000 then d else storedWrite off v d
  | 0x4 =>
    if off % 0x200000 == 0x28 || off % 0x200000 == 0x2C then badAccess 0 off d else storedWrite off v d
  | 0x7 => drapeWrite off v d
  | 0x9 => if off < 0x9400000 then clocheWrite off v d else if off < 0x9800000 then canWrite off v d else senseWrite off v d
  | 0xA => if off < 0xA100000 then towerWrite off v d else ethWrite off v d
  | 0xB => belvWrite off v d
  | 0xC => gateWrite off v d
  | 0xD => lodgeWrite off v d
  | _ => storedWrite off v d

/-- Word of the DEV block and bit that an alias names (15 R421). -/
def aliasOf (off : Nat) : Nat × Nat := ((off - 0x8000000) / 128 * 4, (off - 0x8000000) / 4 % 32)

/-- The word that an alias write of bit `b` amounts to: RW fields as they are, W1C, W1S and WO bits 0 (15 R421). -/
def aliasWord (d : Device) (off b v : Nat) : Nat :=
  match regAt d off with
  | some f => putBit (maskBits (rd d off) f.rw) b (bitOf v 0)
  | none => 0

/-- A write of one aligned word of BAR0 by the host (00 R10, 15 R413, R416, R417, R421). -/
def hostWrite (off v : Nat) (d : Device) : Device :=
  if !hostReach d || off % 4 != 0 then d
  else if 0xE100000 ≤ off && off < 0xE180000 then storedWrite off v d
  else if !isReady d then d
  else if 0x8000000 ≤ off && off < 0x9000000 then
    let a := aliasOf off
    let r := regAt d a.1
    if (r.map (fun f => bitOf (f.rw ||| f.w1c ||| f.w1s ||| f.wo) a.2)).getD false then
      blockWrite a.1 (aliasWord d a.1 a.2 v) d
    else d
  else blockWrite off v d

/-! Register reads (00 R10, 15 Table 15.11, 08 Table 8.12). -/

/-- One bit for each `f` that holds, f 0 in bit 0. -/
def bitsWhere (n : Nat) (f : Nat → Bool) : Nat := (List.range n).foldl (fun t i => t + (if f i then 2 ^ i else 0)) 0

/-- DEV_SUMMARY (15 Table 15.11). -/
def summary (d : Device) : Nat :=
  let queues := fun (bits : List Nat) =>
    d.regs.any (fun r => decide (0x1010000 ≤ r.1) && decide (r.1 < 0x1090000) && r.1 % 0x40 == 8 &&
      bits.any (fun b => r.2.getLsbD b))
  let head := (List.range 32).any (fun s => rbit d (DR_STREAM_STATUS s) 4 || fld d (DR_STREAM_STATUS s) 3 2 == 3)
  bitsWhere 7 (fun i => match i with
    | 0 => d.belv.status.toNat != 0
    | 1 => queues [2]
    | 2 => queues [3, 4]
    | 3 => (List.range (pavCount d)).any (fun p => pavState d p != 0)
    | 4 => head
    | 5 => rbit d CT_STATUS 2 || rbit d CT_STATUS 7
    | _ => rd d CAN_FAULT != 0)

/-- Is `off` a word of CAN message RAM with an uncorrectable error (12 R354)? -/
def badRamWord (d : Device) (off : Nat) : Bool :=
  decide (0x9400000 ≤ off) && decide (off < 0x9480000) && decide (0x8000 ≤ off % 0x10000) &&
    (canOf d ((off - 0x9400000) / 0x10000)).badWords.contains ((off % 0x10000 - 0x8000) / 8)

/-- A register whose value another part of the state gives. -/
def readView (d : Device) (off : Nat) : Option Nat :=
  if off == DEV_SUMMARY then some (summary d)
  else if off == DEV_ID then some (deviceId d)
  else if 0x140 ≤ off && off < 0x180 && !rbit d DEV_MBOX_STATUS 31 then some 0
  else if 0x1000 ≤ off && off < 0x1400 && off % 4 == 0 then
    some (bitsWhere 32 (fun b => rbit d (CK_Q_STATUS ((off - 0x1000) * 8 + b)) 2))
  else if 0x1400 ≤ off && off < 0x1800 && off % 4 == 0 then
    some (bitsWhere 32 (fun b => (queueOf d ((off - 0x1400) * 8 + b)).cmd.isSome))
  else if off == CK_STATUS then some ((busyQueues d).length + d.cloak.images.length * 2 ^ 14)
  else if off == CK_SB_STATUS then
    let n := fun s => (d.serve.table.filter (fun e => e.2.state == s)).length
    some (n 1 + n 2 * 2 ^ 11 + (if d.serve.serving.isSome then 2 ^ 22 else 0))
  else if off == CK_SB_RETRY then some d.serve.tickets.length
  else if 0x1010000 ≤ off && off < 0x1090000 && off % 0x40 == 8 then
    some (putBit (storedRead d off) 0 (queueOf d ((off - 0x1010000) / 0x40)).cmd.isSome)
  else if 0x7000000 ≤ off && off < 0x7000800 && off % 0x100 == 4 then some (csiStatus d ((off - 0x7000000) / 0x100))
  else if 0x9400000 ≤ off && off < 0x9480000 && off % 0x10000 == 0x40 then some (storedRead d (off - 4))
  else if badRamWord d off then some (2 ^ 32 - 1)
  else match (List.range 48).find? (fun r => GT_GRANT r == off) with
  | some r => some (grantView d r)
  | none => none

/-- What a register reads as, without the side effect of the read. -/
def readReg (d : Device) (off : Nat) : Nat :=
  if regPresent d off then (readView d off).getD (storedRead d off) else 0

/-- What a host read of one aligned word of BAR0 answers, without its side effect (15 R413, R417, R421). -/
def hostReadValue (d : Device) (off : Nat) : Nat :=
  if !isReady d && !(off == DEV_ID || off == DEV_REV || off == DEV_CONFIG || off == DEV_STATUS ||
      (0xE100000 ≤ off && off < 0xE180100)) then 2 ^ 32 - 1
  else if 0x8000000 ≤ off && off < 0x9000000 then
    let a := aliasOf off
    if bitOf (readReg d a.1) a.2 then 1 else 0
  else readReg d off

/-- A BAR read that does not reach the function: in D3hot it is answered as the standard requires, with Unsupported Request
(15 R409); while the link is down none arrives. -/
def readUnreached (d : Device) : Device :=
  if d.link.l0 then { d with hostif := { d.hostif with answer := { unsupported := true } } } else d

/-- A host read of one aligned word of BAR0: the answer, then the clearing of RC fields (00 R10). A firmware queue's
registers read as any other's. -/
def hostRead (off : Nat) (d : Device) : Device :=
  if !hostReach d then readUnreached d
  else if off % 4 != 0 then d
  else if isReady d && 0x140 ≤ off && off < 0x180 && off % 4 == 0 then mailboxRead ((off - 0x140) / 4) d
  else
    let d := answerWord (hostReadValue d off) d
    if isReady d then clearRc off d else d

/-- RC_READ: a host read of BAR0; `ecc`: what the check of the message RAM word finds that it reads (12 R354). -/
def registerRead (off : Nat) (ecc : EccEvent) (d : Device) : Device :=
  let c := (off - 0x9400000) / 0x10000
  let w := (off - 0x9408000) % 0x10000 / 4
  let d := if isReady d && hostReach d && 0x9400000 ≤ off && off < 0x9480000 && 0x8000 ≤ off % 0x10000 && w < 2048 then
      match ecc with
      | .clean => d
      | .corrected => canRamErrors c [] 1 d
      | .bad _ => canRamErrors c [w / 2] 0 d
    else d
  hostRead off d

/-- REGISTER_WRITE by the host, or by device firmware over its own path (08 R221). -/
def registerWrite (off v : Nat) (writer : QueueWriter) : Device → Device :=
  match writer with
  | .host => hostWrite off v
  | .firmware => firmwareRegWrite off v

/-- A host read of one aligned word of BAR2: doorbells read zero (08 R223, 15 R413, R417). -/
def doorbellRead (d : Device) : Device := answerWord (if isReady d then 0 else 2 ^ 32 - 1) d

/-- A host write of one aligned word of BAR2; offsets 0x8 to 0x3F of a page ignore it (08 R223, 15 R417). -/
def doorbellWrite (off v : Nat) (d : Device) : Device :=
  if off % 64 == 0 then sqDoorbell .host (off / 64) v d
  else if off % 64 == 4 then cqDoorbell .host (off / 64) v d
  else d

/-- A host read of `n` aligned words of BAR0 or BAR2 in ascending address: the answers one after another (15 R416). -/
def wordsRead (bar : Nat) : Nat → Nat → List Byte → Device → Device
  | _, 0, bs, d => answerHost bs d
  | off, n + 1, bs, d =>
    let d := if bar == 0 then hostRead off d else doorbellRead d
    wordsRead bar (off + 4) n (bs ++ d.hostif.answer.data) d

/-- A host write of `n` aligned words of BAR0 or BAR2 in ascending address (15 R416). -/
def wordsWrite (bar : Nat) : Nat → Nat → Nat → Device → Device
  | _, 0, _, d => d
  | off, n + 1, v, d =>
    let d := if bar == 0 then hostWrite off (v % 2 ^ 32) d else doorbellWrite off (v % 2 ^ 32) d
    wordsWrite bar (off + 4) n (v / 2 ^ 32) d

/-- BAD_REGISTER_ACCESS (15 R414, R416): an access of `len` bytes at `off` of BAR `bar` (0 or 2). One of aligned words,
which every aligned 64-bit access is, is that many word accesses; any other reads zero or is ignored, and is counted. -/
def badRegisterAccess (bar off len : Nat) (write : Option Nat) (d : Device) : Device :=
  let msix := bar == 0 && decide (0xE100000 ≤ off) && decide (off < 0xE180100)
  if bar != 0 && bar != 2 then d
  else if !hostReach d then (if write.isSome then d else readUnreached d)
  else if len % 4 == 0 && off % 4 == 0 && len != 0 then
    match write with
    | some v => wordsWrite bar off (len / 4) v d
    | none => wordsRead bar off (len / 4) [] d
  else
    let d := if write.isSome then d else answerHost (List.replicate len (if isReady d || msix then 0 else 0xFF)) d
    if isReady d || msix then badAccess bar off d else d

/-! The BAR4 window (15 R412). -/

/-- Where a BAR4 offset leads. -/
def windowRegion (d : Device) (o : Nat) : Region :=
  let top := d.link.bar4GiB * 2 ^ 30 - 2 ^ 30
  if o < top then regionOf d (d.link.bar4Base + o)
  else if o < top + 2 ^ 30 then
    let p := (o - top) / 0x4000000
    let r := (o - top) % 0x4000000
    if p < pavCount d && r < 0x2000000 then .glass p r else .hole
  else .hole

/-- A refused BAR4 read: all-ones, counted. -/
def refuseRead (o n : Nat) (d : Device) : Device := d |> answerHost (List.replicate n 0xFF) |> badAccess 1 o

/-- The endpoint answers a read that met an uncorrectable error poisoned, with all-ones. -/
def poison (n : Nat) (d : Device) : Device :=
  { d with hostif := { d.hostif with answer := { data := List.replicate n 0xFF, poisoned := true } } }

/-- The local memory `k` is fenced while its cluster clears (04 R118). -/
def localFenced (d : Device) (k : Nat) : Bool := rbit d (KS_STATUS (k / 4)) 1

/-- BAR4_READ of `n` bytes at offset `o` (15 R412; 01 R19, R30, 03 R69, R75, R93; 04 R118, R119): `meets` names the rows on
which the read meets another access as inbound A. -/
def bar4Read (o n : Nat) (ecc : EccEvent) (meets : List Nat) (d : Device) : Device :=
  let bad := match ecc with
    | .bad _ => true
    | _ => false
  if !hostReach d then readUnreached d
  else if !isReady d then answerHost (List.replicate n 0xFF) d
  else match windowRegion d o with
  | .dram =>
    let a := d.link.bar4Base + o
    if !inDram d a n then refuseRead o n d
    else
      let d := checkBurst ecc a [] d
      if bad then poison n d else answerHost (memBytes d a n) d
  | .glass g r =>
    if r % 512 != 0 || n % 512 != 0 || n == 0 || decide (0x2000000 < r + n) || rbit d (GH_STATUS g) 29 || fenced d g then
      refuseRead o n d
    else
      let d := checkRow ecc g (r / 512) false [] d
      let d := forEach (List.range (n / 512)) (fun i d => rowMeeting (meets.contains (r / 512 + i)) g (r / 512 + i) d) d
      if bad then poison n d else answerHost (memBytes d (rowAddr g (r / 512)) n) d
  | .localMem k r =>
    if 0x20000 < r + n || localFenced d k then refuseRead o n d
    else
      let d := checkLocal ecc k (r + 8 * badWordOf ecc) [] d
      if bad then poison n d else answerHost (memBytes d (localAddr k + r) n) d
  | .control off =>
    if n % 4 == 0 && off % 4 == 0 && n != 0 then wordsRead 0 off (n / 4) [] d
    else d |> answerHost (List.replicate n 0) |> badAccess 1 o
  | .hole => refuseRead o n d

/-- A host write of row `n` of Glasshouse `g` at offset `o`, by inbound port A (01 R19; 03 R75, R83, R84, R86, R93). -/
def hostRow (g n o : Nat) (bs : List Byte) (meets : Bool) (d : Device) : Device :=
  if fenced d g then badAccess 1 o d
  else if !rbit d (GH_STATUS g) 29 then d |> rowPut g n bs |> rowMeeting meets g n
  else
    let strict := strictMode d
    if if strict then canDraw d g 10 1 else canAcquire d g 10 1 then
      let d := if strict then drawRows g 10 1 d else acquireRows g 10 1 d
      if holdsCredit d g 10 n then d |> rowPut g n bs |> rowMeeting meets g n else creditViolation g 10 g n 0 [] d
    else creditViolation g 10 g n 0 [] d

/-- BAR4_WRITE of bytes at offset `o` (15 R412; 01 R19, R30, 03 R69, R75, R93, 04 R118, 07 R186, 14 R393): `meets` names the
rows on which it meets another access. -/
def bar4Write (o : Nat) (bs : List Byte) (meets : List Nat) (d : Device) : Device :=
  let n := bs.length
  if !(hostReach d && isReady d) then d
  else match windowRegion d o with
  | .dram =>
    let a := d.link.bar4Base + o
    if openDram d a n then memPut a bs d else badAccess 1 o d
  | .glass g r =>
    if r % 512 != 0 || n % 512 != 0 || n == 0 || decide (0x2000000 < r + n) then badAccess 1 o d
    else forEach (List.range (n / 512)) (fun i d =>
      hostRow g (r / 512 + i) (o + 512 * i) (sliceBytes bs (512 * i) 512) (meets.contains (r / 512 + i)) d) d
  | .localMem k r => if r + n ≤ 0x20000 && !localFenced d k then memPut (localAddr k + r) bs d else badAccess 1 o d
  | .control off =>
    if n % 4 == 0 && off % 4 == 0 && n != 0 then wordsWrite 0 off (n / 4) (leNat bs) d else badAccess 1 o d
  | .hole => badAccess 1 o d

end Sys2Proof.Machine
end

