-- ==== Sys2Proof/Machine/Pins.lean ====
section
/-! DEFINITION. Reset pins, supplies and boundary scan (17 R463; 18 R478 to R482, R488 to R492). -/
namespace Sys2Proof.Machine

/-- Change the pins. -/
def modPins (f : Pins → Pins) (d : Device) : Device := { d with pins := f d.pins }

/-- POWER_LOSS (18 R482, 17 R448): PWR_GOOD falls; the device is in reset, THERMTRIP_N is released, the rails go. -/
def powerLoss (d : Device) : Device :=
  let d := coldReset d
  let d := modPins (fun p => { p with pwrGood := false, thermTrip := false, clkreqLow := false, banks := [] }) d
  { d with gate := {} }

/-- SYSTEM_RESET (18 R482): SYS_RESET_N goes low, and the device is in reset, or high. -/
def systemReset (low : Bool) (d : Device) : Device :=
  if low then d |> coldReset |> modPins (fun p => { p with sysResetN := false })
  else modPins (fun p => { p with sysResetN := true }) d

/-- PERST (15 R408, 18 R482): PERST_N goes low, a cold reset of the whole device, or high. -/
def perst (low : Bool) (d : Device) : Device :=
  if low then d |> coldReset |> modPins (fun p => { p with perstN := false })
  else modPins (fun p => { p with perstN := true }) d

/-- THERMAL_TRIP (17 R463): THERMTRIP_N asserts and the device is held in reset until PWR_GOOD falls. -/
def thermalTrip (d : Device) : Device :=
  if d.pins.pwrGood then d |> coldReset |> modPins (fun p => { p with thermTrip := true }) else d

/-- RAIL_OUT_OF_TOLERANCE (18 R482): 1 VDD_CORE, 2 VDD_SRAM; source 84 while PWR_GOOD is high. -/
def railOut (rail : Nat) (d : Device) : Device :=
  if d.pins.pwrGood && (rail == 1 || rail == 2) then faultAssertion 84 [] [] rail d else d

/-! Boundary scan (18 R488 to R492). -/

/-- Value that the instruction register captures (18 R488). -/
abbrev irCapture : Nat := 0x01

/-- Value that the identification register captures (18 R489). -/
abbrev idCode : Nat := 0x10880A5D

/-- The TAP is powered: VDDIO_18 is in tolerance. -/
def tapPowered (d : Device) : Bool := d.pins.banks.contains 0

/-- Change the TAP. -/
def modTap (f : Tap → Tap) (d : Device) : Device := modPins (fun p => { p with tap := f p.tap }) d

/-- TAP_RESET (18 R488, R491): IDCODE is selected; leaving a pin-controlling instruction leaves the device to a cold
boot. -/
def tapReset (d : Device) : Device :=
  if tapPowered d then modTap (fun t => { t with ir := 0x01, captured := idCode }) d else d

/-- Instruction `ir` becomes current; `captured` is what the register it selects captures. A pin-controlling one puts the
device into reset as SYS_RESET_N does (18 R491). -/
def tapInstruction (ir captured : Nat) (d : Device) : Device :=
  if !tapPowered d then d
  else
    let d := applyIf (scanHolds ir) coldReset d
    modTap (fun t => { t with ir := ir, captured := captured }) d

/-- The boundary register's update stage takes 304 cells (18 R490). -/
def tapUpdate (cells : Option Nat) (d : Device) : Device :=
  match cells with
  | some c => if tapPowered d then modTap (fun t => { t with boundary := c % 2 ^ 304 }) d else d
  | none => d

/-- EXTEST, EXTEST_PULSE, EXTEST_TRAIN: opcode `ir` is current; `pins` is what the cells capture, `cells` what is updated, if any. -/
def extest (ir pins : Nat) (cells : Option Nat) (d : Device) : Device :=
  d |> tapInstruction ir (pins % 2 ^ 304) |> tapUpdate cells

/-- IDCODE. -/
def tapIdcode : Device → Device := tapInstruction 0x01 idCode

/-- SAMPLE_PRELOAD: the device keeps running unless a pin-controlling instruction was current. -/
def samplePreload (pins : Nat) (cells : Option Nat) (d : Device) : Device :=
  d |> tapInstruction 0x02 (pins % 2 ^ 304) |> tapUpdate cells

/-- CLAMP. PRESUMED: the bypass register captures 0, as IEEE 1149.1 has it. -/
def tapClamp : Device → Device := tapInstruction 0x04 0
/-- HIGHZ. -/
def tapHighz : Device → Device := tapInstruction 0x05 0
/-- BYPASS, or an opcode that Table 18.12 does not name. -/
def tapBypass (op : Nat) (d : Device) : Device :=
  if [0x00, 0x01, 0x02, 0x04, 0x05, 0x06, 0x07].contains (op % 256) then d else tapInstruction (op % 256) 0 d

/-- BANK_IN_TOLERANCE (18 R478, R481): 0 VDDIO_18, 1 VDDIO_33, 2 SerDes; VDDIO_18 resets the TAP. -/
def bankInTolerance (b : Nat) (d : Device) : Device :=
  if decide (b < 3) && !d.pins.banks.contains b then
    d |> modPins (fun p => { p with banks := p.banks ++ [b] }) |> applyIf (b == 0) tapReset
  else d

/-- The level of an output pin: the unit's, or its boundary cell while a pin-controlling instruction is current; none in
high impedance or with its bank out of tolerance (18 R478, R491). -/
def pinLevel (d : Device) (bank cell : Nat) (own : Bool) : Option Bool :=
  if !d.pins.banks.contains bank || d.pins.tap.ir == 0x05 then none
  else if scanHolds d.pins.tap.ir then some (bitOf d.pins.tap.boundary cell)
  else some own

/-- ALIVE (14 R388): low except while toggling. -/
def alivePin (d : Device) : Option Bool := pinLevel d 1 302 (healthy d && d.belv.alive)

/-- TT_OUT `n` (13 R366, 18 Table 18.13). -/
def ttOutPin (d : Device) (n : Nat) : Option Bool := pinLevel d 0 (153 + 2 * n) (ttLevel d n)

/-- CLKREQ_N, open drain: low, or released (18 Table 18.4). -/
def clkreqPin (d : Device) : Option Bool :=
  match pinLevel d 1 14 (!d.pins.clkreqLow) with
  | some false => some false
  | _ => none

/-- THERMTRIP_N, open drain: low, or released; a critical trip asserts it whatever the scan holds (17 R463, 18 R491). -/
def thermTripPin (d : Device) : Option Bool :=
  if d.pins.thermTrip then some false
  else match pinLevel d 1 300 true with
    | some false => some false
    | _ => none

/-- CAN_TX[c] where a gate holds it: true is recessive; none where the controller drives the bus (12 R337). -/
def canTxHeld (d : Device) (c : Nat) : Option Bool :=
  match pinLevel d 1 (257 + 2 * c) true with
  | none => none
  | some v => if scanHolds d.pins.tap.ir then some v else if canRecessive d c then some true else none

end Sys2Proof.Machine
end

