-- ==== Sys2Proof/Machine/Commands.lean ====
section
/-! DEFINITION. The meaning of every command, one definition per row of spec/opcode_table.json: an operation of its family
applied to the device. An event whose conditions do not hold changes nothing (Assumption 2). -/
namespace Sys2Proof.Machine

/-- The block after `f` has acted on the device: the queue of waiting commands is untouched. -/
def act (f : Device → Device) (s : State) : Host.Outcome State Fault Refusal := .next { s with dev := f s.dev }

/-- PERST (15 R408). -/
def execPerst (low : Bool) (s : State) : Host.Outcome State Fault Refusal := act (perst low) s

/-- LINK_DOWN (15 R409). -/
def execLinkDown (s : State) : Host.Outcome State Fault Refusal := act linkDown s

/-- LINK_UP (15 R409). -/
def execLinkUp (rate : Nat) (width : Nat) (flit : Bool) (ready : Bool) (replays : Nat) (recoveries : Nat) (s : State) : Host.Outcome State Fault Refusal :=
  act (linkUp rate width flit ready replays recoveries) s

/-- HOT_RESET (15 R409). -/
def execHotReset (s : State) : Host.Outcome State Fault Refusal := act hotReset s

/-- BAR4_READ (15 R412). -/
def execBar4Read (o : Nat) (n : Nat) (ev : ReadEvents) (s : State) : Host.Outcome State Fault Refusal :=
  act (bar4Read o n ev.ecc ev.meets) s

/-- BAR4_WRITE (15 R412). -/
def execBar4Write (o : Nat) (x : WindowData) (s : State) : Host.Outcome State Fault Refusal :=
  act (bar4Write o x.bytes x.meets) s

/-- REGISTER_WRITE (00 R10). -/
def execRegisterWrite (off : Nat) (v : QueueWrite) (s : State) : Host.Outcome State Fault Refusal :=
  act (registerWrite off v.value.toNat v.writer) s

/-- BAD_REGISTER_ACCESS (15 R416). -/
def execBadRegisterAccess (bar : Nat) (off : Nat) (len : Nat) (write : Option Nat) (s : State) : Host.Outcome State Fault Refusal :=
  act (badRegisterAccess bar off len write) s

/-- BAR4_BASE_COMMIT (15 R412). -/
def execBar4BaseCommit (v : Word) (s : State) : Host.Outcome State Fault Refusal :=
  act (hostWrite DEV_BAR4_BASE_HI v.toNat) s

/-- MAILBOX_SELECT (15 R419). -/
def execMailboxSelect (v : Word) (s : State) : Host.Outcome State Fault Refusal :=
  act (hostWrite DEV_MBOX_SEL v.toNat) s

/-- MAILBOX_SNAPSHOT (15 R419). -/
def execMailboxSnapshot (s : State) : Host.Outcome State Fault Refusal := act mailboxSnapshot s

/-- MAILBOX_DATA_READ (15 R419). -/
def execMailboxDataRead (n : Nat) (s : State) : Host.Outcome State Fault Refusal :=
  act (if n < 16 then hostRead (DEV_MBOX_DATA n) else id) s

/-- ALIAS_WRITE (15 R421). -/
def execAliasWrite (w : Nat) (b : Nat) (v : Word) (s : State) : Host.Outcome State Fault Refusal :=
  act (if w < 131072 ∧ b < 32 then hostWrite (0x8000000 + (w * 32 + b) * 4) v.toNat else id) s

/-- FEATURE_COMMIT (15 R423). -/
def execFeatureCommit (s : State) : Host.Outcome State Fault Refusal := act (hostWrite DEV_FEAT_CTRL 1) s

/-- FEATURE_NEGOTIATION_DONE (15 R423). -/
def execFeatureNegotiationDone (s : State) : Host.Outcome State Fault Refusal := act featureDone s

/-- MSIX_PENDING_SEND (15 R415). -/
def execMsixPendingSend (vector : Nat) (s : State) : Host.Outcome State Fault Refusal :=
  act (msixPendingSend vector) s

/-- SQ_DOORBELL (08 R223). -/
def execSqDoorbell (q : Nat) (v : QueueWrite) (s : State) : Host.Outcome State Fault Refusal :=
  act (sqDoorbell v.writer q v.value.toNat) s

/-- CQ_DOORBELL (08 R223). -/
def execCqDoorbell (q : Nat) (v : QueueWrite) (s : State) : Host.Outcome State Fault Refusal :=
  act (cqDoorbell v.writer q v.value.toNat) s

/-- DESCRIPTOR_FETCH (08 R224). -/
def execDescriptorFetch (q : Nat) (s : State) : Host.Outcome State Fault Refusal := act (descriptorFetch q) s

/-- DISPATCH (08 R238). -/
def execDispatch (s : State) : Host.Outcome State Fault Refusal := act dispatch s

/-- STEP (08 R234). -/
def execStep (q : Nat) (s : State) : Host.Outcome State Fault Refusal := act (startIf (isOp 0x01) q) s

/-- COPY (08 R233). -/
def execCopy (q : Nat) (s : State) : Host.Outcome State Fault Refusal := act (startIf (isOp 0x02) q) s

/-- COPY_COMPLETE (08 R233). -/
def execCopyComplete (q : Nat) (ecc : EccEvent) (s : State) : Host.Outcome State Fault Refusal :=
  act (copyComplete q ecc) s

/-- FILL (08 R233). -/
def execFill (q : Nat) (s : State) : Host.Outcome State Fault Refusal := act (startIf (isOp 0x03) q) s

/-- FENCE (08 R233). -/
def execFence (q : Nat) (s : State) : Host.Outcome State Fault Refusal := act (startIf (isOp 0x04) q) s

/-- FENCE_COMPLETE (08 R233). -/
def execFenceComplete (q : Nat) (s : State) : Host.Outcome State Fault Refusal := act (fenceComplete q) s

/-- SIGNAL (08 R233). -/
def execSignal (q : Nat) (s : State) : Host.Outcome State Fault Refusal := act (startIf (isOp 0x05) q) s

/-- WAIT (08 R233). -/
def execWait (q : Nat) (s : State) : Host.Outcome State Fault Refusal := act (startIf (isOp 0x06) q) s

/-- WAIT_SATISFIED (08 R233). -/
def execWaitSatisfied (q : Nat) (s : State) : Host.Outcome State Fault Refusal := act (waitSatisfied q) s

/-- WAIT_TIMEOUT (08 R233). -/
def execWaitTimeout (q : Nat) (s : State) : Host.Outcome State Fault Refusal := act (waitTimeout q) s

/-- TIMESTAMP (08 R233). -/
def execTimestamp (q : Nat) (s : State) : Host.Outcome State Fault Refusal := act (startIf (isOp 0x07) q) s

/-- SEQ_ADMIT (08 R242). -/
def execSeqAdmit (q : Nat) (s : State) : Host.Outcome State Fault Refusal := act (startIf (isOp 0x10) q) s

/-- SEQ_RETIRE (08 R240). -/
def execSeqRetire (q : Nat) (s : State) : Host.Outcome State Fault Refusal := act (startIf (isOp 0x11) q) s

/-- SEQ_STEP (08 R250). -/
def execSeqStep (q : Nat) (s : State) : Host.Outcome State Fault Refusal := act (startIf (isOp 0x12) q) s

/-- PREFIX_PIN (07 R211). -/
def execPrefixPin (q : Nat) (s : State) : Host.Outcome State Fault Refusal :=
  act (startIf (fun x => isOp 0x13 x && leField x 28 1 != 1) q) s

/-- PREFIX_UNPIN (07 R211). -/
def execPrefixUnpin (q : Nat) (s : State) : Host.Outcome State Fault Refusal :=
  act (startIf (fun x => isOp 0x13 x && leField x 28 1 == 1) q) s

/-- PAGE_EDIT_SHADOW (07 R194). -/
def execPageEditShadow (q : Nat) (s : State) : Host.Outcome State Fault Refusal :=
  act (startIf (fun x => isOp 0x14 x && leField x 15 1 != 1) q) s

/-- PAGE_EDIT_LIVE (07 R194). -/
def execPageEditLive (q : Nat) (s : State) : Host.Outcome State Fault Refusal :=
  act (startIf (fun x => isOp 0x14 x && leField x 15 1 == 1) q) s

/-- SWAP_IN (07 R218). -/
def execSwapIn (q : Nat) (s : State) : Host.Outcome State Fault Refusal := act (startIf (isOp 0x15) q) s

/-- LOOP_LOAD (10 R300). -/
def execLoopLoad (q : Nat) (s : State) : Host.Outcome State Fault Refusal :=
  act (startIf (fun x => isOp 0x20 x && leField x 8 1 != 1) q) s

/-- LOOP_LOAD_SETPOINTS (10 R302). -/
def execLoopLoadSetpoints (q : Nat) (s : State) : Host.Outcome State Fault Refusal :=
  act (startIf (fun x => isOp 0x20 x && leField x 8 1 == 1) q) s

/-- LOOP_ARM (10 R301). -/
def execLoopArm (q : Nat) (s : State) : Host.Outcome State Fault Refusal :=
  act (startIf (fun x => isOp 0x21 x && leField x 16 1 != 0) q) s

/-- LOOP_DISARM (10 R301). -/
def execLoopDisarm (q : Nat) (s : State) : Host.Outcome State Fault Refusal :=
  act (startIf (fun x => isOp 0x21 x && leField x 16 1 == 0) q) s

/-- KILL (08 R251). -/
def execKill (q : Nat) (s : State) : Host.Outcome State Fault Refusal := act (startIf (isOp 0x30) q) s

/-- SCRUB (03 R91). -/
def execScrub (q : Nat) (s : State) : Host.Outcome State Fault Refusal := act (startIf (isOp 0x31) q) s

/-- GOLDEN_RUN (14 R399). -/
def execGoldenRun (q : Nat) (s : State) : Host.Outcome State Fault Refusal := act (startIf (isOp 0x40) q) s

/-- AGEING_PROMOTION (08 R239). -/
def execAgeingPromotion (q : Nat) (s : State) : Host.Outcome State Fault Refusal := act (ageingPromotion q) s

/-- STARVATION (08 R239). -/
def execStarvation (q : Nat) (s : State) : Host.Outcome State Fault Refusal := act (starvation q) s

/-- PAUSE (08 R247). -/
def execPause (q : Nat) (s : State) : Host.Outcome State Fault Refusal :=
  act (if q < 8192 then hostWrite (CK_Q_CTRL q) 1 else id) s

/-- RESUME (08 R247). -/
def execResume (q : Nat) (s : State) : Host.Outcome State Fault Refusal :=
  act (if q < 8192 then hostWrite (CK_Q_CTRL q) 2 else id) s

/-- CLEAR_HALT (08 R230). -/
def execClearHalt (q : Nat) (s : State) : Host.Outcome State Fault Refusal :=
  act (if q < 8192 then hostWrite (CK_Q_CTRL q) 4 else id) s

/-- QUEUE_ENABLE (08 R222). -/
def execQueueEnable (q : Nat) (v : Word) (s : State) : Host.Outcome State Fault Refusal :=
  act (if q < 8192 then hostWrite (CK_Q_CFG q) (putBit v.toNat 0 true) else id) s

/-- QUEUE_DISABLE (08 R224). -/
def execQueueDisable (q : Nat) (v : Word) (s : State) : Host.Outcome State Fault Refusal :=
  act (if q < 8192 then hostWrite (CK_Q_CFG q) (putBit v.toNat 0 false) else id) s

/-- QUEUE_DISABLE_EFFECT (08 R224). -/
def execQueueDisableEffect (q : Nat) (s : State) : Host.Outcome State Fault Refusal := act (queueDisableEffect q) s

/-- COALESCE_TIMEOUT (08 R255). -/
def execCoalesceTimeout (q : Nat) (s : State) : Host.Outcome State Fault Refusal := act (coalesceTimeout q) s

/-- STEP_START (05 R133). -/
def execStepStart (q : Nat) (s : State) : Host.Outcome State Fault Refusal := act (stepStart q) s

/-- SEGMENT_START (05 R141). -/
def execSegmentStart (q : Nat) (seg : Nat) (s : State) : Host.Outcome State Fault Refusal :=
  act (segmentStart q seg) s

/-- SEGMENT_COMPLETE (05 R141). -/
def execSegmentComplete (q : Nat) (seg : Nat) (s : State) : Host.Outcome State Fault Refusal :=
  act (segmentComplete q seg) s

/-- STEP_END (05 R143). -/
def execStepEnd (q : Nat) (s : State) : Host.Outcome State Fault Refusal := act (stepEnd q) s

/-- WATCHDOG_OVERRUN (05 R144). -/
def execWatchdogOverrun (q : Nat) (seg : Nat) (p : Nat) (s : State) : Host.Outcome State Fault Refusal :=
  act (watchdogOverrun q seg p) s

/-- DEV_MODE_WRITE (05 R148). -/
def execDevModeWrite (v : Word) (s : State) : Host.Outcome State Fault Refusal := act (hostWrite DEV_MODE v.toNat) s

/-- MODE_APPLY (05 R148). -/
def execModeApply (s : State) : Host.Outcome State Fault Refusal := act modeApply s

/-- TILE (02 R37). -/
def execTile (p : PavRows) (s : State) : Host.Outcome State Fault Refusal := act (microTile p.pav p.ev) s

/-- STREAM (02 R36). -/
def execStream (p : PavRows) (s : State) : Host.Outcome State Fault Refusal := act (microStream p.pav p.ev) s

/-- ACC_INIT (02 R38). -/
def execAccInit (p : PavRows) (s : State) : Host.Outcome State Fault Refusal := act (microAccInit p.pav p.ev) s

/-- MOVE (05 R130). -/
def execMove (p : Nat) (s : State) : Host.Outcome State Fault Refusal := act (microMove p) s

/-- RELEASE (03 R85). -/
def execRelease (p : Nat) (s : State) : Host.Outcome State Fault Refusal := act (microRelease p) s

/-- MICROCODE_SIGNAL (05 R129). -/
def execMicrocodeSignal (p : Nat) (s : State) : Host.Outcome State Fault Refusal := act (microSignal p) s

/-- SIGNAL_FENCE_ADVANCE (04 R111). -/
def execSignalFenceAdvance (p : Nat) (s : State) : Host.Outcome State Fault Refusal := act (microFenceAdvance p) s

/-- MICROCODE_WAIT (05 R129). -/
def execMicrocodeWait (p : Nat) (s : State) : Host.Outcome State Fault Refusal := act (microWait p) s

/-- MICROCODE_WAIT_RELEASE (05 R130). -/
def execMicrocodeWaitRelease (p : Nat) (s : State) : Host.Outcome State Fault Refusal := act (microWaitRelease p) s

/-- END (05 R129). -/
def execMicrocodeEnd (p : Nat) (s : State) : Host.Outcome State Fault Refusal := act (microEnd p) s

/-- CONVERT (02 R48). -/
def execConvert (p : PavRows) (s : State) : Host.Outcome State Fault Refusal := act (microConvert p.pav p.ev) s

/-- REQUANT (02 R51). -/
def execRequant (p : PavRows) (s : State) : Host.Outcome State Fault Refusal := act (microRequant p.pav p.ev) s

/-- ELEMENT (05 R495). -/
def execElement (p : PavRows) (s : State) : Host.Outcome State Fault Refusal := act (microElement p.pav p.ev) s

/-- REDUCE (02 R61). -/
def execReduce (p : Nat) (s : State) : Host.Outcome State Fault Refusal := act (microReduce p) s

/-- TRANSC (02 R60). -/
def execTransc (p : PavRows) (s : State) : Host.Outcome State Fault Refusal := act (microTransc p.pav p.ev) s

/-- CRC (02 R62). -/
def execCrc (p : PavRows) (s : State) : Host.Outcome State Fault Refusal := act (microCrc p.pav p.ev) s

/-- LOADV (05 R495). -/
def execLoadv (p : PavRows) (s : State) : Host.Outcome State Fault Refusal := act (microLoadv p.pav p.ev) s

/-- STOREV (05 R495). -/
def execStorev (p : PavRows) (s : State) : Host.Outcome State Fault Refusal := act (microStorev p.pav p.ev) s

/-- CREDIT_OPEN (05 R139). -/
def execCreditOpen (q : Nat) (g : Nat) (s : State) : Host.Outcome State Fault Refusal := act (creditOpen q g) s

/-- CREDIT_ACQUIRE (05 R139). -/
def execCreditAcquire (q : Nat) (g : Nat) (s : State) : Host.Outcome State Fault Refusal := act (creditAcquire q g) s

/-- CREDIT_RELEASE (05 R139). -/
def execCreditRelease (q : Nat) (g : Nat) (s : State) : Host.Outcome State Fault Refusal := act (creditRelease q g) s

/-- CREDIT_CLOSE (05 R139). -/
def execCreditClose (q : Nat) (g : Nat) (s : State) : Host.Outcome State Fault Refusal := act (creditClose q g) s

/-- CROSSING_ENTRY (05 R137). -/
def execCrossingEntry (q : Nat) (c : Nat) (s : State) : Host.Outcome State Fault Refusal := act (crossingEntry q c) s

/-- CROSSING_RELEASE (05 R137). -/
def execCrossingRelease (g : Nat) (b : CrossingBeat) (s : State) : Host.Outcome State Fault Refusal :=
  act (crossingRelease g b.beat b.meets) s

/-- ICEHOUSE_REPLY (05 R138). -/
def execIcehouseReply (ev : ReplyEvents) (s : State) : Host.Outcome State Fault Refusal :=
  act (iceReply ev.ecc ev.meets) s

/-- REFRESH_WINDOW (05 R138). -/
def execRefreshWindow (ice : Nat) (c : Nat) (s : State) : Host.Outcome State Fault Refusal :=
  act (refreshWindow ice c) s

/-- POWER_GRANT (05 R140). -/
def execPowerGrant (q : Nat) (g : Nat) (s : State) : Host.Outcome State Fault Refusal := act (powerGrant q g) s

/-- MOVER_ROW_SEND (03 R79). -/
def execMoverRowSend (p : Nat) (m : Nat) (ecc : EccEvent) (meets : MoveMeets) (s : State) : Host.Outcome State Fault Refusal :=
  act (moverRowSend p m ecc meets) s

/-- REMOTE_ROW_ARRIVAL (03 R84). -/
def execRemoteRowArrival (k : Nat) (ecc : EccEvent) (meets : Bool) (s : State) : Host.Outcome State Fault Refusal :=
  act (remoteArrival k ecc meets) s

/-- MOVER_DESCRIPTOR_COMPLETE (04 R111). -/
def execMoverDescriptorComplete (id : Nat) (s : State) : Host.Outcome State Fault Refusal := act (moverComplete id) s

/-- CREDIT_RETURN (03 R85). -/
def execCreditReturn (g : Nat) (src : Nat) (s : State) : Host.Outcome State Fault Refusal :=
  act (creditReturn g src) s

/-- POOL_FREE_WRITE (03 R85). -/
def execPoolFreeWrite (g : Nat) (src : Nat) (v : Word) (s : State) : Host.Outcome State Fault Refusal :=
  act (poolFreeWrite g src v.toNat) s

/-- SCRUB_COMPLETE (03 R89). -/
def execScrubComplete (g : Nat) (s : State) : Host.Outcome State Fault Refusal := act (scrubComplete g) s

/-- LOCAL_CLEAR_COMPLETE (04 R118). -/
def execLocalClearComplete (g : Nat) (s : State) : Host.Outcome State Fault Refusal := act (localClearComplete g) s

/-- THREAD_START (04 R100). -/
def execThreadStart (q : Nat) (k : Nat) (s : State) : Host.Outcome State Fault Refusal := act (threadStart q k) s

/-- KIOSK_INSTRUCTION (04 R102). -/
def execKioskInstruction (p : Nat) (c : Nat) (ready : Nat) (parity : Bool) (s : State) : Host.Outcome State Fault Refusal :=
  act (kioskInstruction p c ready parity) s

/-- KIOSK_LOAD_STORE (04 R107). -/
def execKioskLoadStore (p : Nat) (c : Nat) (ready : Nat) (ecc : EccEvent) (s : State) : Host.Outcome State Fault Refusal :=
  act (kioskLoadStore p c ready ecc) s

/-- ROW_LOAD_STORE (04 R108). -/
def execRowLoadStore (p : Nat) (c : Nat) (ready : Nat) (meets : Bool) (s : State) : Host.Outcome State Fault Refusal :=
  act (rowLoadStore p c ready meets) s

/-- KIOSK_AMO (04 R114). -/
def execKioskAmo (p : Nat) (c : Nat) (ready : Nat) (ecc : EccEvent) (s : State) : Host.Outcome State Fault Refusal :=
  act (kioskAmo p c ready ecc) s

/-- LOAD_REPLY (04 R109). -/
def execLoadReply (p : Nat) (c : Nat) (t : Nat) (ecc : EccEvent) (meets : Bool) (s : State) : Host.Outcome State Fault Refusal :=
  act (loadReply p c t ecc meets) s

/-- RESERVATION_TIMEOUT (04 R114). -/
def execReservationTimeout (p : Nat) (c : Nat) (t : Nat) (s : State) : Host.Outcome State Fault Refusal :=
  act (reservationTimeout p c t) s

/-- KCALL (04 R112). -/
def execKcall (p : Nat) (c : Nat) (ev : IssueEvents) (s : State) : Host.Outcome State Fault Refusal :=
  act (kcall p c ev.ready ev.ecc) s

/-- KWAIT (04 R111). -/
def execKwait (p : Nat) (c : Nat) (ready : Nat) (s : State) : Host.Outcome State Fault Refusal :=
  act (kwait p c ready) s

/-- KWAIT_COMPLETE (04 R111). -/
def execKwaitComplete (p : Nat) (c : Nat) (t : Nat) (s : State) : Host.Outcome State Fault Refusal :=
  act (kwaitComplete p c t) s

/-- KCRED (04 R115). -/
def execKcred (p : Nat) (c : Nat) (ready : Nat) (s : State) : Host.Outcome State Fault Refusal :=
  act (kcred p c ready) s

/-- KCRED_GRANTED (03 R83). -/
def execKcredGranted (p : Nat) (c : Nat) (t : Nat) (s : State) : Host.Outcome State Fault Refusal :=
  act (kcredGranted p c t) s

/-- KDFENCE (04 R110). -/
def execKdfence (p : Nat) (c : Nat) (ready : Nat) (s : State) : Host.Outcome State Fault Refusal :=
  act (kdfence p c ready) s

/-- KDFENCE_COMPLETE (04 R110). -/
def execKdfenceComplete (p : Nat) (c : Nat) (t : Nat) (s : State) : Host.Outcome State Fault Refusal :=
  act (kdfenceComplete p c t) s

/-- KEXIT (04 R117). -/
def execKexit (p : Nat) (c : Nat) (ready : Nat) (s : State) : Host.Outcome State Fault Refusal :=
  act (kexit p c ready) s

/-- KIOSK_WATCHDOG_REFRESH (04 R119). -/
def execKioskWatchdogRefresh (p : Nat) (s : State) : Host.Outcome State Fault Refusal :=
  act (kioskWatchdogRefresh p) s

/-- KIOSK_WATCHDOG_TIMEOUT (04 R119). -/
def execKioskWatchdogTimeout (p : Nat) (c : Nat) (s : State) : Host.Outcome State Fault Refusal :=
  act (kioskWatchdogTimeout p c) s

/-- CODE_SET_LOAD (04 R99). -/
def execCodeSetLoad (p : Nat) (s : State) : Host.Outcome State Fault Refusal := act (codeSetLoad p) s

/-- CODE_SET_LOAD_COMPLETE (04 R99). -/
def execCodeSetLoadComplete (p : Nat) (s : State) : Host.Outcome State Fault Refusal := act (codeSetLoadComplete p) s

/-- INPUT_CORRUPT_REPORT (09 R287). -/
def execInputCorruptReport (p : Nat) (slot : Nat) (s : State) : Host.Outcome State Fault Refusal :=
  act (inputCorruptReport p slot) s

/-- E2E_REPORT (14 R404). -/
def execE2eReport (p : Nat) (v : Word) (s : State) : Host.Outcome State Fault Refusal := act (e2eReport p v.toNat) s

/-- KV_ENABLE (07 R184). -/
def execKvEnable (v : Word) (s : State) : Host.Outcome State Fault Refusal :=
  act (hostWrite CK_KV_CTRL (putBit v.toNat 0 true)) s

/-- KV_DISABLE (07 R184). -/
def execKvDisable (v : Word) (s : State) : Host.Outcome State Fault Refusal :=
  act (hostWrite CK_KV_CTRL (putBit v.toNat 0 false)) s

/-- KV_INIT_COMPLETE (07 R184). -/
def execKvInitComplete (s : State) : Host.Outcome State Fault Refusal := act kvInitComplete s

/-- PREFIX_KEY_WRITE (07 R207). -/
def execPrefixKeyWrite (n : Nat) (v : Word) (s : State) : Host.Outcome State Fault Refusal :=
  act (if n < 4 then hostWrite (CK_PFX_KEY n) v.toNat else id) s

/-- KEY_WALK (07 R201). -/
def execKeyWalk (p : Nat) (ev : ReadEvents) (s : State) : Host.Outcome State Fault Refusal :=
  act (keyWalk p ev.ecc ev.meets) s

/-- VALUE_WALK (07 R201). -/
def execValueWalk (p : Nat) (ev : ReadEvents) (s : State) : Host.Outcome State Fault Refusal :=
  act (valueWalk p ev.ecc ev.meets) s

/-- WALK_COMPLETE (07 R201). -/
def execWalkComplete (p : Nat) (s : State) : Host.Outcome State Fault Refusal := act (walkComplete p) s

/-- STEP_BOUNDARY (08 R241). -/
def execStepBoundary (s : State) : Host.Outcome State Fault Refusal := act stepBoundary s

/-- FRAME_START (09 R262). -/
def execFrameStart (r : Nat) (vc : Nat) (hdr : EccEvent) (s : State) : Host.Outcome State Fault Refusal :=
  act (frameStart r vc hdr) s

/-- LINE_PACKET (09 R259). -/
def execLinePacket (r : Nat) (vc : Nat) (dt : Nat) (hdr : EccEvent) (crcErr : Bool) (codes : List Nat) (s : State) : Host.Outcome State Fault Refusal :=
  act (linePacket r vc dt hdr crcErr codes) s

/-- EMBEDDED_DATA_PACKET (09 R258). -/
def execEmbeddedDataPacket (r : Nat) (vc : Nat) (hdr : EccEvent) (crcErr : Bool) (bytes : List Byte) (s : State) : Host.Outcome State Fault Refusal :=
  act (embeddedPacket r vc hdr crcErr bytes) s

/-- SHORT_PACKET (09 R257). -/
def execShortPacket (r : Nat) (vc : Nat) (hdr : EccEvent) (s : State) : Host.Outcome State Fault Refusal :=
  act (shortPacket r vc hdr) s

/-- FRAME_END (09 R259). -/
def execFrameEnd (r : Nat) (vc : Nat) (hdr : EccEvent) (s : State) : Host.Outcome State Fault Refusal :=
  act (frameEnd r vc hdr) s

/-- HS_EXIT (09 R259). -/
def execHsExit (r : Nat) (s : State) : Host.Outcome State Fault Refusal := act (hsExit r) s

/-- STRIPE_WRITE (09 R273). -/
def execStripeWrite (e : EngineRows) (s : State) : Host.Outcome State Fault Refusal :=
  act (stripeWrite e.engine e.meets) s

/-- HOLD_TIMEOUT (09 R274). -/
def execHoldTimeout (cam : Nat) (view : Nat) (s : State) : Host.Outcome State Fault Refusal :=
  act (holdTimeout cam view) s

/-- SET_TIMEOUT (09 R277). -/
def execSetTimeout (slot : Nat) (s : State) : Host.Outcome State Fault Refusal := act (setTimeout slot) s

/-- STREAM_DESC_WRITE (09 R261). -/
def execStreamDescWrite (cam : Nat) (v : Word) (s : State) : Host.Outcome State Fault Refusal :=
  act (if cam < 32 then hostWrite (DR_STREAM_DESC_HI cam) v.toNat else id) s

/-- STREAM_ENABLE (09 R262). -/
def execStreamEnable (cam : Nat) (v : Word) (s : State) : Host.Outcome State Fault Refusal :=
  act (if cam < 32 then hostWrite (DR_STREAM_CTRL cam) (putBit v.toNat 0 true) else id) s

/-- REPLAY_TAIL_WRITE (09 R289). -/
def execReplayTailWrite (cam : Nat) (v : Word) (s : State) : Host.Outcome State Fault Refusal :=
  act (if cam < 32 then hostWrite (DR_REPLAY_TAIL cam) v.toNat else id) s

/-- REPLAY_READY_POLL (09 R289). -/
def execReplayReadyPoll (cam : Nat) (k : Nat) (s : State) : Host.Outcome State Fault Refusal :=
  act (replayPoll cam k) s

/-- HEAD_AUTHENTICATION (09 R280). -/
def execHeadAuthentication (cam : Nat) (record : Option (List Byte)) (s : State) : Host.Outcome State Fault Refusal :=
  act (headAuthentication cam record) s

/-- HEAD_RESPONSE (09 R280). -/
def execHeadResponse (cam : Nat) (sig : List Byte) (s : State) : Host.Outcome State Fault Refusal :=
  act (headResponse cam sig) s

/-- HEAD_RESPONSE_TIMEOUT (09 R280). -/
def execHeadResponseTimeout (cam : Nat) (s : State) : Host.Outcome State Fault Refusal := act (headTimeout cam) s

/-- LIFE_UPDATE (09 R283). -/
def execLifeUpdate (cam : Nat) (serial : Option Nat) (s : State) : Host.Outcome State Fault Refusal :=
  act (lifeUpdate cam serial) s

/-- TEMPERATURE_POLL (09 R283). -/
def execTemperaturePoll (cam : Nat) (temp : Int) (s : State) : Host.Outcome State Fault Refusal :=
  act (temperaturePoll cam temp) s

/-- LOCKED_RISE (09 R285). -/
def execLockedRise (r : Nat) (s : State) : Host.Outcome State Fault Refusal := act (lockedRise r) s

/-- SERIAL_RECHECK (09 R285). -/
def execSerialRecheck (cam : Nat) (serial : Option Nat) (s : State) : Host.Outcome State Fault Refusal :=
  act (serialRecheck cam serial) s

/-- CLOCHE_ENABLE (10 R296). -/
def execClocheEnable (v : Word) (s : State) : Host.Outcome State Fault Refusal :=
  act (hostWrite CL_CTRL (putBit v.toNat 0 true)) s

/-- CLOCHE_DISABLE (10 R294). -/
def execClocheDisable (v : Word) (s : State) : Host.Outcome State Fault Refusal :=
  act (hostWrite CL_CTRL (putBit v.toNat 0 false)) s

/-- CLOCHE_PASS (10 R294). -/
def execClochePass (errs : List ClocheErr) (s : State) : Host.Outcome State Fault Refusal := act (clochePass errs) s

/-- SUB_PERIOD_BOUNDARY (10 R296). -/
def execSubPeriodBoundary (s : State) : Host.Outcome State Fault Refusal :=
  act (fun d => if subPeriodDue d then boundarySamples d else d) s

/-- STALE_LIMIT (10 R307). -/
def execStaleLimit (n : Nat) (s : State) : Host.Outcome State Fault Refusal := act (staleLimit n) s

/-- FRAME_DELIVERY (10 R312). -/
def execFrameDelivery (f : Nat) (s : State) : Host.Outcome State Fault Refusal := act (frameDelivery f) s

/-- FRAME_ENABLE (10 R311). -/
def execFrameEnable (f : Nat) (v : Word) (s : State) : Host.Outcome State Fault Refusal :=
  act (if f < 16 then hostWrite (CL_FRAME_CFG f) (putBit v.toNat 31 true) else id) s

/-- ADC_TRIGGER (11 R322). -/
def execAdcTrigger (a : Nat) (s : State) : Host.Outcome State Fault Refusal := act (adcTrigger a) s

/-- ADC_SLOT_COMPLETE (11 R322). -/
def execAdcSlotComplete (a : Nat) (samples : List AdcSample) (s : State) : Host.Outcome State Fault Refusal :=
  act (adcSlotComplete a samples) s

/-- SENT_FRAME (11 R325). -/
def execSentFrame (j : Nat) (cal : Nat) (pulses : List SentPulse) (s : State) : Host.Outcome State Fault Refusal :=
  act (sentFrame j cal pulses) s

/-- SENT_TIMEOUT (11 R326). -/
def execSentTimeout (j : Nat) (s : State) : Host.Outcome State Fault Refusal := act (sentTimeout j) s

/-- SPI_TRIGGER (11 R328). -/
def execSpiTrigger (m : Nat) (t : Nat) (s : State) : Host.Outcome State Fault Refusal := act (spiTrigger m t) s

/-- SPI_TRANSFER_COMPLETE (11 R329). -/
def execSpiTransferComplete (m : Nat) (rx : List Byte) (s : State) : Host.Outcome State Fault Refusal :=
  act (spiComplete m rx) s

/-- CAPTURE_EDGE (11 R330). -/
def execCaptureEdge (c : Nat) (rising : Bool) (level : Nat) (s : State) : Host.Outcome State Fault Refusal :=
  act (captureEdge c rising level) s

/-- CAPTURE_TIMEOUT (11 R331). -/
def execCaptureTimeout (c : Nat) (s : State) : Host.Outcome State Fault Refusal := act (captureTimeout c) s

/-- ROUTE_WRITE (11 R319). -/
def execRouteWrite (n : Nat) (v : Word) (s : State) : Host.Outcome State Fault Refusal :=
  act (if n < 128 then hostWrite (SN_ROUTE n) v.toNat else id) s

/-- CAN_ENABLE (12 R335). -/
def execCanEnable (c : Nat) (v : Word) (s : State) : Host.Outcome State Fault Refusal :=
  act (if c < 8 then hostWrite (CAN_CTRL c) (putBit v.toNat 0 true) else id) s

/-- CAN_MODE_CHANGE (12 R336). -/
def execCanModeChange (c : Nat) (s : State) : Host.Outcome State Fault Refusal := act (canModeChange c) s

/-- CAN_FRAME_RECEIVED (12 R341). -/
def execCanFrameReceived (c : Nat) (f : CanFrame) (ago : Nat) (bads : List Nat) (corrected : Nat) (s : State) : Host.Outcome State Fault Refusal :=
  act (canReceived c f ago bads corrected) s

/-- HP_BUFFER_RELEASE (12 R342). -/
def execHpBufferRelease (c : Nat) (v : Word) (s : State) : Host.Outcome State Fault Refusal :=
  act (if c < 8 then hostWrite (CAN_HP_STATUS c) v.toNat else id) s

/-- RX_FIFO_RELEASE (12 R343). -/
def execRxFifoRelease (c : Nat) (n : Nat) (v : Word) (s : State) : Host.Outcome State Fault Refusal :=
  act (if c < 8 then hostWrite (if n = 0 then CAN_RXQ0_REL c else CAN_RXQ1_REL c) v.toNat else id) s

/-- TX_REQUEST (12 R345). -/
def execTxRequest (c : Nat) (v : Word) (s : State) : Host.Outcome State Fault Refusal :=
  act (if c < 8 then hostWrite (CAN_TXREQ c) v.toNat else id) s

/-- TX_CANCEL (12 R347). -/
def execTxCancel (c : Nat) (v : Word) (s : State) : Host.Outcome State Fault Refusal :=
  act (if c < 8 then hostWrite (CAN_TXCANCEL c) v.toNat else id) s

/-- TX_CHOICE (12 R346). -/
def execTxChoice (c : Nat) (bads : List Nat) (corrected : Nat) (s : State) : Host.Outcome State Fault Refusal :=
  act (txChoice c bads corrected) s

/-- TX_END (12 R347). -/
def execTxEnd (c : Nat) (out : CanEnd) (s : State) : Host.Outcome State Fault Refusal := act (txEnd c out) s

/-- BO_RESTART (12 R338). -/
def execBoRestart (c : Nat) (v : Word) (s : State) : Host.Outcome State Fault Refusal :=
  act (if c < 8 then hostWrite (CAN_CTRL c) (putBit v.toNat 7 true) else id) s

/-- BUS_OFF_RECOVERY_END (12 R338). -/
def execBusOffRecoveryEnd (c : Nat) (s : State) : Host.Outcome State Fault Refusal := act (busOffEnd c) s

/-- TT_ENABLE (12 R349). -/
def execTtEnable (c : Nat) (v : Word) (s : State) : Host.Outcome State Fault Refusal :=
  act (if c < 8 then hostWrite (CAN_TT_CFG c) (putBit v.toNat 31 true) else id) s

/-- REFERENCE_INSTANT (12 R350). -/
def execReferenceInstant (c : Nat) (s : State) : Host.Outcome State Fault Refusal := act (referenceInstant c) s

/-- TX_WINDOW_OPEN (12 R352). -/
def execTxWindowOpen (c : Nat) (b : Nat) (s : State) : Host.Outcome State Fault Refusal := act (txWindowOpen c b) s

/-- NS_WRAP (13 R358). -/
def execNsWrap (s : State) : Host.Outcome State Fault Refusal := act nsWrap s

/-- COUNTER_STEP (13 R360). -/
def execCounterStep (v : Word) (s : State) : Host.Outcome State Fault Refusal := act (hostWrite CT_STEP v.toNat) s

/-- NEXT_BASE_COMMIT (13 R362). -/
def execNextBaseCommit (v : Word) (s : State) : Host.Outcome State Fault Refusal :=
  act (hostWrite CT_NEXT_SEC_HI v.toNat) s

/-- LOAD_NOW (13 R363). -/
def execLoadNow (v : Word) (s : State) : Host.Outcome State Fault Refusal :=
  act (hostWrite CT_CTRL (putBit v.toNat 0 true)) s

/-- SERVO_OFFSET (13 R365). -/
def execServoOffset (v : Word) (s : State) : Host.Outcome State Fault Refusal :=
  act (hostWrite CT_SERVO_OFS v.toNat) s

/-- SERVO_RESET (13 R365). -/
def execServoReset (v : Word) (s : State) : Host.Outcome State Fault Refusal :=
  act (hostWrite CT_SERVO_CTRL (putBit v.toNat 1 true)) s

/-- PPS_EDGE (13 R368). -/
def execPpsEdge (s : State) : Host.Outcome State Fault Refusal := act ppsEdge s

/-- PPS_LOST (13 R368). -/
def execPpsLost (s : State) : Host.Outcome State Fault Refusal := act ppsLost s

/-- TT_OUT_ENABLE (13 R366). -/
def execTtOutEnable (n : Nat) (v : Word) (s : State) : Host.Outcome State Fault Refusal :=
  act (if n < 4 then hostWrite (CT_TT_CFG n) (putBit v.toNat 31 true) else id) s

/-- TT_OUT_EDGE (13 R366). -/
def execTtOutEdge (n : Nat) (s : State) : Host.Outcome State Fault Refusal :=
  act (fun d => if ttEdgeDue d n then d |> ttEdge n |> drapePulse n |> pulseSamples n else d) s

/-- TT_OUT_PULSE_END (13 R366). -/
def execTtOutPulseEnd (n : Nat) (s : State) : Host.Outcome State Fault Refusal := act (ttPulseEnd n) s

/-- TT_CAPTURE (13 R367). -/
def execTtCapture (n : Nat) (rising : Bool) (level : Nat) (s : State) : Host.Outcome State Fault Refusal :=
  act (ttCapture n rising level) s

/-- ETH_TX_TAIL (13 R373). -/
def execEthTxTail (p : Nat) (q : Nat) (v : Word) (s : State) : Host.Outcome State Fault Refusal :=
  act (if p < 4 ∧ q < 8 then hostWrite (ETH_TXQ_TAIL p q) v.toNat else id) s

/-- ETH_FRAME_SENT (13 R373). -/
def execEthFrameSent (p : Nat) (bad : Bool) (s : State) : Host.Outcome State Fault Refusal :=
  act (ethFrameSent p bad) s

/-- ETH_RX_TAIL (13 R374). -/
def execEthRxTail (p : Nat) (q : Nat) (v : Word) (s : State) : Host.Outcome State Fault Refusal :=
  act (if p < 4 ∧ q < 64 then hostWrite (ETH_RXQ_TAIL p q) v.toNat else id) s

/-- ETH_FRAME_RECEIVED (13 R374). -/
def execEthFrameReceived (p : Nat) (frame : List Byte) (bad : Bool) (s : State) : Host.Outcome State Fault Refusal :=
  act (ethReceived p frame bad) s

/-- ETH_LINK_CHANGE (13 R378). -/
def execEthLinkChange (p : Nat) (up : Bool) (rate : Nat) (s : State) : Host.Outcome State Fault Refusal :=
  act (ethLinkChange p up rate) s

/-- FAULT_ASSERTION (14 R383). -/
def execFaultAssertion (src : Nat) (queues : List Nat) (pavs : List Nat) (detail : Nat) (s : State) : Host.Outcome State Fault Refusal :=
  act (faultAssertion src queues pavs detail) s

/-- EPISODE_CLOSE (14 R383). -/
def execEpisodeClose (s : State) : Host.Outcome State Fault Refusal := act episodeClose s

/-- STATUS_CLEAR (14 R380). -/
def execStatusClear (w : Nat) (v : Word) (s : State) : Host.Outcome State Fault Refusal :=
  act (if w < 4 then hostWrite (BV_CLEAR w) v.toNat else id) s

/-- PAVILION_RELEASE (14 R386). -/
def execPavilionRelease (v : Word) (s : State) : Host.Outcome State Fault Refusal :=
  act (hostWrite BV_PAV_RELEASE v.toNat) s

/-- LOCK (14 R382). -/
def execLock (s : State) : Host.Outcome State Fault Refusal := act (hostWrite BV_LOCK 1) s

/-- ALIVE_TOGGLE (14 R388). -/
def execAliveToggle (s : State) : Host.Outcome State Fault Refusal := act aliveToggle s

/-- BELVEDERE_WATCHDOG_EXPIRY (14 R388). -/
def execBelvedereWatchdogExpiry (pc : Nat) (s : State) : Host.Outcome State Fault Refusal :=
  act (belvedereWatchdog pc) s

/-- SAFE_STATE_ENTRY (14 R389). -/
def execSafeStateEntry (s : State) : Host.Outcome State Fault Refusal := act safeEntry s

/-- SAFE_STATE_READY (14 R389). -/
def execSafeStateReady (failed : Option Nat) (ecc : Bool) (s : State) : Host.Outcome State Fault Refusal :=
  act (safeReady failed ecc) s

/-- DIGEST_ARM (14 R392). -/
def execDigestArm (v : Word) (s : State) : Host.Outcome State Fault Refusal :=
  act (hostWrite BV_WDIGEST_STATUS v.toNat) s

/-- SIGNATURE_RECORD (14 R395). -/
def execSignatureRecord (bad : Option Nat) (s : State) : Host.Outcome State Fault Refusal :=
  act (signatureArrives bad) s

/-- GOLDEN_DUE (14 R401). -/
def execGoldenDue (p : Nat) (s : State) : Host.Outcome State Fault Refusal := act (goldenDue p) s

/-- GOLDEN_SLOT_START (14 R400). -/
def execGoldenSlotStart (p : Nat) (s : State) : Host.Outcome State Fault Refusal := act (goldenSlotStart p) s

/-- GOLDEN_RESULT (14 R399). -/
def execGoldenResult (p : PavRows) (s : State) : Host.Outcome State Fault Refusal := act (goldenResult p.pav p.ev) s

/-- GOLDEN_SLOT_END (14 R400). -/
def execGoldenSlotEnd (p : Nat) (s : State) : Host.Outcome State Fault Refusal := act (goldenSlotEnd p) s

/-- COLD_BOOT (16 R432). -/
def execColdBoot (s : State) : Host.Outcome State Fault Refusal := act coldBoot s

/-- COLD_BOOT_READY (16 R432). -/
def execColdBootReady (failed : Option Nat) (s : State) : Host.Outcome State Fault Refusal := act (coldReady failed) s

/-- LODGE_FAULT (16 R436). -/
def execLodgeFault (pc : Nat) (s : State) : Host.Outcome State Fault Refusal := act (lodgeFault pc) s

/-- LODGE_WATCHDOG_TIMEOUT (16 R436). -/
def execLodgeWatchdogTimeout (s : State) : Host.Outcome State Fault Refusal := act lodgeTimeout s

/-- LODGE_RESTART_COMPLETE (16 R436). -/
def execLodgeRestartComplete (s : State) : Host.Outcome State Fault Refusal := act lodgeRestartComplete s

/-- SERVICE_RING_TAIL (16 R437). -/
def execServiceRingTail (v : Word) (backlog : Nat) (s : State) : Host.Outcome State Fault Refusal :=
  act (fun d => if hostReach d && isReady d then ringTail v.toNat backlog d else d) s

/-- MESH (09 R282). -/
def execMesh (s : State) : Host.Outcome State Fault Refusal := act (serveRequest 1 (fun a _ _ => meshService a)) s

/-- CLEAN (09 R283). -/
def execClean (s : State) : Host.Outcome State Fault Refusal := act (serveRequest 2 (fun a b _ => cleanService a b)) s

/-- ATTEST (16 R446). -/
def execAttest (s : State) : Host.Outcome State Fault Refusal :=
  act (serveRequest 3 (fun a b _ => attestService a b)) s

/-- ACTIVATE_BOOT (16 R441). -/
def execActivateBoot (n : Nat) (s : State) : Host.Outcome State Fault Refusal := act (activateService false n) s

/-- ACTIVATE_LIVE (16 R441). -/
def execActivateLive (n : Nat) (s : State) : Host.Outcome State Fault Refusal := act (activateService true n) s

/-- FUSE_COMMIT (16 R443). -/
def execFuseCommit (failAt : Option Nat) (s : State) : Host.Outcome State Fault Refusal :=
  act (serveRequest 5 (fun _ _ _ => fuseService failAt)) s

/-- TELEMETRY (16 R438). -/
def execTelemetry (s : State) : Host.Outcome State Fault Refusal :=
  act (serveRequest 6 (fun a b c => telemetryService a b c)) s

/-- TELEMETRY_SAMPLE (16 R438). -/
def execTelemetrySample (load : Nat) (backlog : Nat) (s : State) : Host.Outcome State Fault Refusal :=
  act (telemetrySample load backlog) s

/-- SATCHEL_HELLO (16 R439). -/
def execSatchelHello (pkt : List Byte) (s : State) : Host.Outcome State Fault Refusal := act (satchelHello pkt) s

/-- SATCHEL_BEGIN (16 R440). -/
def execSatchelBegin (peer : Nat) (pkt : List Byte) (s : State) : Host.Outcome State Fault Refusal :=
  act (satchelBegin peer pkt) s

/-- SATCHEL_DATA (16 R440). -/
def execSatchelData (peer : Nat) (backlog : Nat) (pkt : List Byte) (s : State) : Host.Outcome State Fault Refusal :=
  act (satchelData peer backlog pkt) s

/-- SATCHEL_ACK_TIMER (16 R440). -/
def execSatchelAckTimer (s : State) : Host.Outcome State Fault Refusal := act satchelAckTimer s

/-- SATCHEL_END (16 R440). -/
def execSatchelEnd (peer : Nat) (flashFail : Bool) (pkt : List Byte) (s : State) : Host.Outcome State Fault Refusal :=
  act (satchelEnd peer flashFail pkt) s

/-- SATCHEL_ACTIVATE (16 R440). -/
def execSatchelActivate (n : Nat) (pkt : List Byte) (s : State) : Host.Outcome State Fault Refusal :=
  act (satchelActivate n pkt) s

/-- ACTIVATION_RESUME (16 R442). -/
def execActivationResume (n : Nat) (s : State) : Host.Outcome State Fault Refusal := act (activationResume n) s

/-- EMERGENCY_CLEAR (16 R444). -/
def execEmergencyClear (n : Nat) (failAt : Option Nat) (s : State) : Host.Outcome State Fault Refusal :=
  act (emergencyClear n failAt) s

/-- EPOCH_BOUNDARY (17 R452). -/
def execEpochBoundary (temps : List Int) (reqs : List Nat) (ests : List Nat) (base : Nat) (s : State) : Host.Outcome State Fault Refusal :=
  act (epochBoundary temps reqs ests base) s

/-- GRANT_APPLY (17 R452). -/
def execGrantApply (s : State) : Host.Outcome State Fault Refusal := act grantApply s

/-- THERMAL_TRIP (17 R463). -/
def execThermalTrip (s : State) : Host.Outcome State Fault Refusal := act thermalTrip s

/-- SUPPLY_ALERT (17 R464). -/
def execSupplyAlert (s : State) : Host.Outcome State Fault Refusal := act supplyAlert s

/-- SUPPLY_ALERT_EXIT (17 R460). -/
def execSupplyAlertExit (s : State) : Host.Outcome State Fault Refusal := act supplyAlertExit s

/-- POWER_LIMIT_WRITE (17 R451). -/
def execPowerLimitWrite (v : Word) (s : State) : Host.Outcome State Fault Refusal :=
  act (hostWrite GT_LIMIT v.toNat) s

/-- RESERVE_WRITE (17 R451). -/
def execReserveWrite (v : Word) (s : State) : Host.Outcome State Fault Refusal := act (hostWrite GT_RESERVE v.toNat) s

/-- STRICT_GRANT_WRITE (17 R456). -/
def execStrictGrantWrite (io : Bool) (v : Word) (s : State) : Host.Outcome State Fault Refusal :=
  act (hostWrite (if io then GT_STRICT_IO else GT_STRICT_DRAPE) v.toNat) s

/-- AVS_EVALUATION (17 R468). -/
def execAvsEvaluation (mv : Nat) (s : State) : Host.Outcome State Fault Refusal := act (avsEvaluation mv) s

/-- AVS_ACK (18 R487). -/
def execAvsAck (s : State) : Host.Outcome State Fault Refusal := act avsAck s

/-- AVS_TIMEOUT (18 R487). -/
def execAvsTimeout (s : State) : Host.Outcome State Fault Refusal := act avsTimeout s

/-- SPEED_MONITOR_FAIL (17 R468). -/
def execSpeedMonitorFail (mv : Nat) (s : State) : Host.Outcome State Fault Refusal := act (speedMonitorFail mv) s

/-- SYSCLK_LOSS (17 R470). -/
def execSysclkLoss (absent : Bool) (s : State) : Host.Outcome State Fault Refusal := act (sysclkLoss absent) s

/-- PLL_UNLOCK (17 R470). -/
def execPllUnlock (n : Nat) (s : State) : Host.Outcome State Fault Refusal := act (pllUnlock n) s

/-- POWER_LOSS (18 R482). -/
def execPowerLoss (s : State) : Host.Outcome State Fault Refusal := act powerLoss s

/-- SYSTEM_RESET (18 R482). -/
def execSystemReset (low : Bool) (s : State) : Host.Outcome State Fault Refusal := act (systemReset low) s

/-- RAIL_OUT_OF_TOLERANCE (18 R482). -/
def execRailOutOfTolerance (rail : Nat) (s : State) : Host.Outcome State Fault Refusal := act (railOut rail) s

/-- TAP_RESET (18 R488). -/
def execTapReset (s : State) : Host.Outcome State Fault Refusal := act tapReset s

/-- EXTEST (18 R491). -/
def execExtest (pins : Nat) (cells : Option Nat) (s : State) : Host.Outcome State Fault Refusal :=
  act (extest 0x00 pins cells) s

/-- IDCODE (18 R489). -/
def execIdcode (s : State) : Host.Outcome State Fault Refusal := act tapIdcode s

/-- SAMPLE_PRELOAD (18 R488). -/
def execSamplePreload (pins : Nat) (cells : Option Nat) (s : State) : Host.Outcome State Fault Refusal :=
  act (samplePreload pins cells) s

/-- CLAMP (18 R491). -/
def execClamp (s : State) : Host.Outcome State Fault Refusal := act tapClamp s

/-- HIGHZ (18 R491). -/
def execHighz (s : State) : Host.Outcome State Fault Refusal := act tapHighz s

/-- EXTEST_PULSE (18 R492). -/
def execExtestPulse (pins : Nat) (cells : Option Nat) (s : State) : Host.Outcome State Fault Refusal :=
  act (extest 0x06 pins cells) s

/-- EXTEST_TRAIN (18 R492). -/
def execExtestTrain (pins : Nat) (cells : Option Nat) (s : State) : Host.Outcome State Fault Refusal :=
  act (extest 0x07 pins cells) s

/-- BYPASS (18 R488). -/
def execBypass (op : Nat) (s : State) : Host.Outcome State Fault Refusal := act (tapBypass op) s

/-- RC_READ (00 R10). -/
def execRcRead (x : WordRead) (s : State) : Host.Outcome State Fault Refusal := act (registerRead x.off x.ecc) s

/-- CONFIGURATION_REQUEST (15 R408). -/
def execConfigurationRequest (op : ConfigOp) (s : State) : Host.Outcome State Fault Refusal :=
  act (configRequest op) s

/-- CAN_ERROR_DETECTED (12 R353). -/
def execCanErrorDetected (c : Nat) (e : CanRxError) (s : State) : Host.Outcome State Fault Refusal :=
  act (canErrorDetected c e) s

/-- SYSCLK_RESTORED (17 R470). -/
def execSysclkRestored (s : State) : Host.Outcome State Fault Refusal := act sysclkRestored s

/-- BANK_IN_TOLERANCE (18 R481). -/
def execBankInTolerance (b : Nat) (s : State) : Host.Outcome State Fault Refusal := act (bankInTolerance b) s

/-- LODGE_OVERLOAD_END (16 R435). -/
def execLodgeOverloadEnd (s : State) : Host.Outcome State Fault Refusal := act overloadEnd s

end Sys2Proof.Machine
end

