-- ==== Sys2Proof/Machine/Dispatch.lean ====
section
/-! DEFINITION. The dispatch: one arm per constructor of Instr. -/
namespace Sys2Proof.Machine

def exec (i : Instr) (s : State) : Host.Outcome State Fault Refusal :=
  match i with
  | .perst low => Sys2Proof.Machine.execPerst low s
  | .linkDown => Sys2Proof.Machine.execLinkDown s
  | .linkUp rate width flit ready replays recoveries => Sys2Proof.Machine.execLinkUp rate width flit ready replays recoveries s
  | .hotReset => Sys2Proof.Machine.execHotReset s
  | .bar4Read o n ev => Sys2Proof.Machine.execBar4Read o n ev s
  | .bar4Write o x => Sys2Proof.Machine.execBar4Write o x s
  | .registerWrite off v => Sys2Proof.Machine.execRegisterWrite off v s
  | .badRegisterAccess bar off len write => Sys2Proof.Machine.execBadRegisterAccess bar off len write s
  | .bar4BaseCommit v => Sys2Proof.Machine.execBar4BaseCommit v s
  | .mailboxSelect v => Sys2Proof.Machine.execMailboxSelect v s
  | .mailboxSnapshot => Sys2Proof.Machine.execMailboxSnapshot s
  | .mailboxDataRead n => Sys2Proof.Machine.execMailboxDataRead n s
  | .aliasWrite w b v => Sys2Proof.Machine.execAliasWrite w b v s
  | .featureCommit => Sys2Proof.Machine.execFeatureCommit s
  | .featureNegotiationDone => Sys2Proof.Machine.execFeatureNegotiationDone s
  | .msixPendingSend vector => Sys2Proof.Machine.execMsixPendingSend vector s
  | .sqDoorbell q v => Sys2Proof.Machine.execSqDoorbell q v s
  | .cqDoorbell q v => Sys2Proof.Machine.execCqDoorbell q v s
  | .descriptorFetch q => Sys2Proof.Machine.execDescriptorFetch q s
  | .dispatch => Sys2Proof.Machine.execDispatch s
  | .step q => Sys2Proof.Machine.execStep q s
  | .copy q => Sys2Proof.Machine.execCopy q s
  | .copyComplete q ecc => Sys2Proof.Machine.execCopyComplete q ecc s
  | .fill q => Sys2Proof.Machine.execFill q s
  | .fence q => Sys2Proof.Machine.execFence q s
  | .fenceComplete q => Sys2Proof.Machine.execFenceComplete q s
  | .signal q => Sys2Proof.Machine.execSignal q s
  | .wait q => Sys2Proof.Machine.execWait q s
  | .waitSatisfied q => Sys2Proof.Machine.execWaitSatisfied q s
  | .waitTimeout q => Sys2Proof.Machine.execWaitTimeout q s
  | .timestamp q => Sys2Proof.Machine.execTimestamp q s
  | .seqAdmit q => Sys2Proof.Machine.execSeqAdmit q s
  | .seqRetire q => Sys2Proof.Machine.execSeqRetire q s
  | .seqStep q => Sys2Proof.Machine.execSeqStep q s
  | .prefixPin q => Sys2Proof.Machine.execPrefixPin q s
  | .prefixUnpin q => Sys2Proof.Machine.execPrefixUnpin q s
  | .pageEditShadow q => Sys2Proof.Machine.execPageEditShadow q s
  | .pageEditLive q => Sys2Proof.Machine.execPageEditLive q s
  | .swapIn q => Sys2Proof.Machine.execSwapIn q s
  | .loopLoad q => Sys2Proof.Machine.execLoopLoad q s
  | .loopLoadSetpoints q => Sys2Proof.Machine.execLoopLoadSetpoints q s
  | .loopArm q => Sys2Proof.Machine.execLoopArm q s
  | .loopDisarm q => Sys2Proof.Machine.execLoopDisarm q s
  | .kill q => Sys2Proof.Machine.execKill q s
  | .scrub q => Sys2Proof.Machine.execScrub q s
  | .goldenRun q => Sys2Proof.Machine.execGoldenRun q s
  | .ageingPromotion q => Sys2Proof.Machine.execAgeingPromotion q s
  | .starvation q => Sys2Proof.Machine.execStarvation q s
  | .pause q => Sys2Proof.Machine.execPause q s
  | .resume q => Sys2Proof.Machine.execResume q s
  | .clearHalt q => Sys2Proof.Machine.execClearHalt q s
  | .queueEnable q v => Sys2Proof.Machine.execQueueEnable q v s
  | .queueDisable q v => Sys2Proof.Machine.execQueueDisable q v s
  | .queueDisableEffect q => Sys2Proof.Machine.execQueueDisableEffect q s
  | .coalesceTimeout q => Sys2Proof.Machine.execCoalesceTimeout q s
  | .stepStart q => Sys2Proof.Machine.execStepStart q s
  | .segmentStart q seg => Sys2Proof.Machine.execSegmentStart q seg s
  | .segmentComplete q seg => Sys2Proof.Machine.execSegmentComplete q seg s
  | .stepEnd q => Sys2Proof.Machine.execStepEnd q s
  | .watchdogOverrun q seg p => Sys2Proof.Machine.execWatchdogOverrun q seg p s
  | .devModeWrite v => Sys2Proof.Machine.execDevModeWrite v s
  | .modeApply => Sys2Proof.Machine.execModeApply s
  | .tile p => Sys2Proof.Machine.execTile p s
  | .stream p => Sys2Proof.Machine.execStream p s
  | .accInit p => Sys2Proof.Machine.execAccInit p s
  | .move p => Sys2Proof.Machine.execMove p s
  | .release p => Sys2Proof.Machine.execRelease p s
  | .microcodeSignal p => Sys2Proof.Machine.execMicrocodeSignal p s
  | .signalFenceAdvance p => Sys2Proof.Machine.execSignalFenceAdvance p s
  | .microcodeWait p => Sys2Proof.Machine.execMicrocodeWait p s
  | .microcodeWaitRelease p => Sys2Proof.Machine.execMicrocodeWaitRelease p s
  | .microcodeEnd p => Sys2Proof.Machine.execMicrocodeEnd p s
  | .convert p => Sys2Proof.Machine.execConvert p s
  | .requant p => Sys2Proof.Machine.execRequant p s
  | .element p => Sys2Proof.Machine.execElement p s
  | .reduce p => Sys2Proof.Machine.execReduce p s
  | .transc p => Sys2Proof.Machine.execTransc p s
  | .crc p => Sys2Proof.Machine.execCrc p s
  | .loadv p => Sys2Proof.Machine.execLoadv p s
  | .storev p => Sys2Proof.Machine.execStorev p s
  | .creditOpen q g => Sys2Proof.Machine.execCreditOpen q g s
  | .creditAcquire q g => Sys2Proof.Machine.execCreditAcquire q g s
  | .creditRelease q g => Sys2Proof.Machine.execCreditRelease q g s
  | .creditClose q g => Sys2Proof.Machine.execCreditClose q g s
  | .crossingEntry q c => Sys2Proof.Machine.execCrossingEntry q c s
  | .crossingRelease g b => Sys2Proof.Machine.execCrossingRelease g b s
  | .icehouseReply ev => Sys2Proof.Machine.execIcehouseReply ev s
  | .refreshWindow ice c => Sys2Proof.Machine.execRefreshWindow ice c s
  | .powerGrant q g => Sys2Proof.Machine.execPowerGrant q g s
  | .moverRowSend p m ecc meets => Sys2Proof.Machine.execMoverRowSend p m ecc meets s
  | .remoteRowArrival k ecc meets => Sys2Proof.Machine.execRemoteRowArrival k ecc meets s
  | .moverDescriptorComplete id => Sys2Proof.Machine.execMoverDescriptorComplete id s
  | .creditReturn g src => Sys2Proof.Machine.execCreditReturn g src s
  | .poolFreeWrite g src v => Sys2Proof.Machine.execPoolFreeWrite g src v s
  | .scrubComplete g => Sys2Proof.Machine.execScrubComplete g s
  | .localClearComplete g => Sys2Proof.Machine.execLocalClearComplete g s
  | .threadStart q k => Sys2Proof.Machine.execThreadStart q k s
  | .kioskInstruction p c ready parity => Sys2Proof.Machine.execKioskInstruction p c ready parity s
  | .kioskLoadStore p c ready ecc => Sys2Proof.Machine.execKioskLoadStore p c ready ecc s
  | .rowLoadStore p c ready meets => Sys2Proof.Machine.execRowLoadStore p c ready meets s
  | .kioskAmo p c ready ecc => Sys2Proof.Machine.execKioskAmo p c ready ecc s
  | .loadReply p c t ecc meets => Sys2Proof.Machine.execLoadReply p c t ecc meets s
  | .reservationTimeout p c t => Sys2Proof.Machine.execReservationTimeout p c t s
  | .kcall p c ev => Sys2Proof.Machine.execKcall p c ev s
  | .kwait p c ready => Sys2Proof.Machine.execKwait p c ready s
  | .kwaitComplete p c t => Sys2Proof.Machine.execKwaitComplete p c t s
  | .kcred p c ready => Sys2Proof.Machine.execKcred p c ready s
  | .kcredGranted p c t => Sys2Proof.Machine.execKcredGranted p c t s
  | .kdfence p c ready => Sys2Proof.Machine.execKdfence p c ready s
  | .kdfenceComplete p c t => Sys2Proof.Machine.execKdfenceComplete p c t s
  | .kexit p c ready => Sys2Proof.Machine.execKexit p c ready s
  | .kioskWatchdogRefresh p => Sys2Proof.Machine.execKioskWatchdogRefresh p s
  | .kioskWatchdogTimeout p c => Sys2Proof.Machine.execKioskWatchdogTimeout p c s
  | .codeSetLoad p => Sys2Proof.Machine.execCodeSetLoad p s
  | .codeSetLoadComplete p => Sys2Proof.Machine.execCodeSetLoadComplete p s
  | .inputCorruptReport p slot => Sys2Proof.Machine.execInputCorruptReport p slot s
  | .e2eReport p v => Sys2Proof.Machine.execE2eReport p v s
  | .kvEnable v => Sys2Proof.Machine.execKvEnable v s
  | .kvDisable v => Sys2Proof.Machine.execKvDisable v s
  | .kvInitComplete => Sys2Proof.Machine.execKvInitComplete s
  | .prefixKeyWrite n v => Sys2Proof.Machine.execPrefixKeyWrite n v s
  | .keyWalk p ev => Sys2Proof.Machine.execKeyWalk p ev s
  | .valueWalk p ev => Sys2Proof.Machine.execValueWalk p ev s
  | .walkComplete p => Sys2Proof.Machine.execWalkComplete p s
  | .stepBoundary => Sys2Proof.Machine.execStepBoundary s
  | .frameStart r vc hdr => Sys2Proof.Machine.execFrameStart r vc hdr s
  | .linePacket r vc dt hdr crcErr codes => Sys2Proof.Machine.execLinePacket r vc dt hdr crcErr codes s
  | .embeddedDataPacket r vc hdr crcErr bytes => Sys2Proof.Machine.execEmbeddedDataPacket r vc hdr crcErr bytes s
  | .shortPacket r vc hdr => Sys2Proof.Machine.execShortPacket r vc hdr s
  | .frameEnd r vc hdr => Sys2Proof.Machine.execFrameEnd r vc hdr s
  | .hsExit r => Sys2Proof.Machine.execHsExit r s
  | .stripeWrite e => Sys2Proof.Machine.execStripeWrite e s
  | .holdTimeout cam view => Sys2Proof.Machine.execHoldTimeout cam view s
  | .setTimeout slot => Sys2Proof.Machine.execSetTimeout slot s
  | .streamDescWrite cam v => Sys2Proof.Machine.execStreamDescWrite cam v s
  | .streamEnable cam v => Sys2Proof.Machine.execStreamEnable cam v s
  | .replayTailWrite cam v => Sys2Proof.Machine.execReplayTailWrite cam v s
  | .replayReadyPoll cam k => Sys2Proof.Machine.execReplayReadyPoll cam k s
  | .headAuthentication cam record => Sys2Proof.Machine.execHeadAuthentication cam record s
  | .headResponse cam sig => Sys2Proof.Machine.execHeadResponse cam sig s
  | .headResponseTimeout cam => Sys2Proof.Machine.execHeadResponseTimeout cam s
  | .lifeUpdate cam serial => Sys2Proof.Machine.execLifeUpdate cam serial s
  | .temperaturePoll cam temp => Sys2Proof.Machine.execTemperaturePoll cam temp s
  | .lockedRise r => Sys2Proof.Machine.execLockedRise r s
  | .serialRecheck cam serial => Sys2Proof.Machine.execSerialRecheck cam serial s
  | .clocheEnable v => Sys2Proof.Machine.execClocheEnable v s
  | .clocheDisable v => Sys2Proof.Machine.execClocheDisable v s
  | .clochePass errs => Sys2Proof.Machine.execClochePass errs s
  | .subPeriodBoundary => Sys2Proof.Machine.execSubPeriodBoundary s
  | .staleLimit n => Sys2Proof.Machine.execStaleLimit n s
  | .frameDelivery f => Sys2Proof.Machine.execFrameDelivery f s
  | .frameEnable f v => Sys2Proof.Machine.execFrameEnable f v s
  | .adcTrigger a => Sys2Proof.Machine.execAdcTrigger a s
  | .adcSlotComplete a samples => Sys2Proof.Machine.execAdcSlotComplete a samples s
  | .sentFrame j cal pulses => Sys2Proof.Machine.execSentFrame j cal pulses s
  | .sentTimeout j => Sys2Proof.Machine.execSentTimeout j s
  | .spiTrigger m t => Sys2Proof.Machine.execSpiTrigger m t s
  | .spiTransferComplete m rx => Sys2Proof.Machine.execSpiTransferComplete m rx s
  | .captureEdge c rising level => Sys2Proof.Machine.execCaptureEdge c rising level s
  | .captureTimeout c => Sys2Proof.Machine.execCaptureTimeout c s
  | .routeWrite n v => Sys2Proof.Machine.execRouteWrite n v s
  | .canEnable c v => Sys2Proof.Machine.execCanEnable c v s
  | .canModeChange c => Sys2Proof.Machine.execCanModeChange c s
  | .canFrameReceived c f ago bads corrected => Sys2Proof.Machine.execCanFrameReceived c f ago bads corrected s
  | .hpBufferRelease c v => Sys2Proof.Machine.execHpBufferRelease c v s
  | .rxFifoRelease c n v => Sys2Proof.Machine.execRxFifoRelease c n v s
  | .txRequest c v => Sys2Proof.Machine.execTxRequest c v s
  | .txCancel c v => Sys2Proof.Machine.execTxCancel c v s
  | .txChoice c bads corrected => Sys2Proof.Machine.execTxChoice c bads corrected s
  | .txEnd c out => Sys2Proof.Machine.execTxEnd c out s
  | .boRestart c v => Sys2Proof.Machine.execBoRestart c v s
  | .busOffRecoveryEnd c => Sys2Proof.Machine.execBusOffRecoveryEnd c s
  | .ttEnable c v => Sys2Proof.Machine.execTtEnable c v s
  | .referenceInstant c => Sys2Proof.Machine.execReferenceInstant c s
  | .txWindowOpen c b => Sys2Proof.Machine.execTxWindowOpen c b s
  | .nsWrap => Sys2Proof.Machine.execNsWrap s
  | .counterStep v => Sys2Proof.Machine.execCounterStep v s
  | .nextBaseCommit v => Sys2Proof.Machine.execNextBaseCommit v s
  | .loadNow v => Sys2Proof.Machine.execLoadNow v s
  | .servoOffset v => Sys2Proof.Machine.execServoOffset v s
  | .servoReset v => Sys2Proof.Machine.execServoReset v s
  | .ppsEdge => Sys2Proof.Machine.execPpsEdge s
  | .ppsLost => Sys2Proof.Machine.execPpsLost s
  | .ttOutEnable n v => Sys2Proof.Machine.execTtOutEnable n v s
  | .ttOutEdge n => Sys2Proof.Machine.execTtOutEdge n s
  | .ttOutPulseEnd n => Sys2Proof.Machine.execTtOutPulseEnd n s
  | .ttCapture n rising level => Sys2Proof.Machine.execTtCapture n rising level s
  | .ethTxTail p q v => Sys2Proof.Machine.execEthTxTail p q v s
  | .ethFrameSent p bad => Sys2Proof.Machine.execEthFrameSent p bad s
  | .ethRxTail p q v => Sys2Proof.Machine.execEthRxTail p q v s
  | .ethFrameReceived p frame bad => Sys2Proof.Machine.execEthFrameReceived p frame bad s
  | .ethLinkChange p up rate => Sys2Proof.Machine.execEthLinkChange p up rate s
  | .faultAssertion src queues pavs detail => Sys2Proof.Machine.execFaultAssertion src queues pavs detail s
  | .episodeClose => Sys2Proof.Machine.execEpisodeClose s
  | .statusClear w v => Sys2Proof.Machine.execStatusClear w v s
  | .pavilionRelease v => Sys2Proof.Machine.execPavilionRelease v s
  | .lock => Sys2Proof.Machine.execLock s
  | .aliveToggle => Sys2Proof.Machine.execAliveToggle s
  | .belvedereWatchdogExpiry pc => Sys2Proof.Machine.execBelvedereWatchdogExpiry pc s
  | .safeStateEntry => Sys2Proof.Machine.execSafeStateEntry s
  | .safeStateReady failed ecc => Sys2Proof.Machine.execSafeStateReady failed ecc s
  | .digestArm v => Sys2Proof.Machine.execDigestArm v s
  | .signatureRecord bad => Sys2Proof.Machine.execSignatureRecord bad s
  | .goldenDue p => Sys2Proof.Machine.execGoldenDue p s
  | .goldenSlotStart p => Sys2Proof.Machine.execGoldenSlotStart p s
  | .goldenResult p => Sys2Proof.Machine.execGoldenResult p s
  | .goldenSlotEnd p => Sys2Proof.Machine.execGoldenSlotEnd p s
  | .coldBoot => Sys2Proof.Machine.execColdBoot s
  | .coldBootReady failed => Sys2Proof.Machine.execColdBootReady failed s
  | .lodgeFault pc => Sys2Proof.Machine.execLodgeFault pc s
  | .lodgeWatchdogTimeout => Sys2Proof.Machine.execLodgeWatchdogTimeout s
  | .lodgeRestartComplete => Sys2Proof.Machine.execLodgeRestartComplete s
  | .serviceRingTail v backlog => Sys2Proof.Machine.execServiceRingTail v backlog s
  | .mesh => Sys2Proof.Machine.execMesh s
  | .clean => Sys2Proof.Machine.execClean s
  | .attest => Sys2Proof.Machine.execAttest s
  | .activateBoot n => Sys2Proof.Machine.execActivateBoot n s
  | .activateLive n => Sys2Proof.Machine.execActivateLive n s
  | .fuseCommit failAt => Sys2Proof.Machine.execFuseCommit failAt s
  | .telemetry => Sys2Proof.Machine.execTelemetry s
  | .telemetrySample load backlog => Sys2Proof.Machine.execTelemetrySample load backlog s
  | .satchelHello pkt => Sys2Proof.Machine.execSatchelHello pkt s
  | .satchelBegin peer pkt => Sys2Proof.Machine.execSatchelBegin peer pkt s
  | .satchelData peer backlog pkt => Sys2Proof.Machine.execSatchelData peer backlog pkt s
  | .satchelAckTimer => Sys2Proof.Machine.execSatchelAckTimer s
  | .satchelEnd peer flashFail pkt => Sys2Proof.Machine.execSatchelEnd peer flashFail pkt s
  | .satchelActivate n pkt => Sys2Proof.Machine.execSatchelActivate n pkt s
  | .activationResume n => Sys2Proof.Machine.execActivationResume n s
  | .emergencyClear n failAt => Sys2Proof.Machine.execEmergencyClear n failAt s
  | .epochBoundary temps reqs ests base => Sys2Proof.Machine.execEpochBoundary temps reqs ests base s
  | .grantApply => Sys2Proof.Machine.execGrantApply s
  | .thermalTrip => Sys2Proof.Machine.execThermalTrip s
  | .supplyAlert => Sys2Proof.Machine.execSupplyAlert s
  | .supplyAlertExit => Sys2Proof.Machine.execSupplyAlertExit s
  | .powerLimitWrite v => Sys2Proof.Machine.execPowerLimitWrite v s
  | .reserveWrite v => Sys2Proof.Machine.execReserveWrite v s
  | .strictGrantWrite io v => Sys2Proof.Machine.execStrictGrantWrite io v s
  | .avsEvaluation mv => Sys2Proof.Machine.execAvsEvaluation mv s
  | .avsAck => Sys2Proof.Machine.execAvsAck s
  | .avsTimeout => Sys2Proof.Machine.execAvsTimeout s
  | .speedMonitorFail mv => Sys2Proof.Machine.execSpeedMonitorFail mv s
  | .sysclkLoss absent => Sys2Proof.Machine.execSysclkLoss absent s
  | .pllUnlock n => Sys2Proof.Machine.execPllUnlock n s
  | .powerLoss => Sys2Proof.Machine.execPowerLoss s
  | .systemReset low => Sys2Proof.Machine.execSystemReset low s
  | .railOutOfTolerance rail => Sys2Proof.Machine.execRailOutOfTolerance rail s
  | .tapReset => Sys2Proof.Machine.execTapReset s
  | .extest pins cells => Sys2Proof.Machine.execExtest pins cells s
  | .idcode => Sys2Proof.Machine.execIdcode s
  | .samplePreload pins cells => Sys2Proof.Machine.execSamplePreload pins cells s
  | .clamp => Sys2Proof.Machine.execClamp s
  | .highz => Sys2Proof.Machine.execHighz s
  | .extestPulse pins cells => Sys2Proof.Machine.execExtestPulse pins cells s
  | .extestTrain pins cells => Sys2Proof.Machine.execExtestTrain pins cells s
  | .bypass op => Sys2Proof.Machine.execBypass op s
  | .rcRead x => Sys2Proof.Machine.execRcRead x s
  | .configurationRequest op => Sys2Proof.Machine.execConfigurationRequest op s
  | .canErrorDetected c e => Sys2Proof.Machine.execCanErrorDetected c e s
  | .sysclkRestored => Sys2Proof.Machine.execSysclkRestored s
  | .bankInTolerance b => Sys2Proof.Machine.execBankInTolerance b s
  | .lodgeOverloadEnd => Sys2Proof.Machine.execLodgeOverloadEnd s

end Sys2Proof.Machine
end

