-- ==== Sys2Proof/Machine/Step.lean ====
section
/-! DEFINITION. One step: the command at the front of the queue, or a tick of the clocks. -/
namespace Sys2Proof.Machine

/-- One step: the front command acts with the queue's rest; on an empty queue 2 ns pass, one tick of the Clocktower
(13 R357) and the beat counter's share of it (01 R25) (DESIGN CHOICE, Assumption 4). -/
def step (s : State) : Host.Outcome State Fault Refusal :=
  match s.pending with
  | [] => .next { s with dev := clockTick s.dev }
  | c :: rest => exec c { s with pending := rest }

/-- The command that a word spells, put at the front of the queue. -/
def State.withFetchWord (s : State) (nbits w : Nat) : State :=
  match decodeTableWord nbits w with
  | some c => { s with pending := c :: s.pending }
  | none => s

end Sys2Proof.Machine
end

