-- ==== Sys2Proof/Safety.lean ====
section
/-! DEFINITION. The terms that claims use: completion of a command, what may change, and the invariants of the block. -/
namespace Sys2Proof.Machine

/-- The command answers a next state whose device satisfies `P`; the queue of waiting commands is untouched. -/
def Completes (c : Instr) (s : State) (P : Device → Prop) : Prop :=
  ∃ t, exec c s = .next t ∧ t.pending = s.pending ∧ P t.dev

/-- Every register but those of `offs` holds the same value. -/
def SameRegs (offs : List Nat) (d t : Device) : Prop := ∀ o, o ∉ offs → rd t o = rd d o

/-- Registers of `offs` may change; nothing else of the device does. -/
def OnlyRegs (offs : List Nat) (d t : Device) : Prop := t = { d with regs := t.regs } ∧ SameRegs offs d t

/-- The bytes [a, a + n) of device memory may change; no other byte of any memory does. -/
def SameBytesOutside (a n : Nat) (d t : Device) : Prop :=
  (∀ x, ¬ (a ≤ x ∧ x < a + n) → memRead 0 t.mems.dev x = memRead 0 d.mems.dev x) ∧
    t.mems.host = d.mems.host ∧ t.mems.flash = d.mems.flash ∧ t.mems.code = d.mems.code

/-- A host access reaches a Ready device (15 R409, R413). -/
abbrev HostOk (d : Device) : Prop := hostReach d = true ∧ isReady d = true

/-- Address of the next completion of queue `q` (08 R226). -/
def completionAddr (d : Device) (q : Nat) : Nat := cqBase d q + fld d (CK_Q_CQ_TAIL q) 15 0 * 32

/-- The completion of command `c` of queue `q`, whose ring lies in device memory, is written as the queue stood in `d`, the
queue has no command any more and its command count has advanced (08 R224 to R228). -/
def Completed (q : Nat) (c : Command) (st d0 d1 endBeat : Nat) (d t : Device) : Prop :=
  memBytes t (completionAddr d q) 32 = completionBytes q c (rbit d (CK_Q_CQ_TAIL q) 16) st d0 d1 endBeat ∧
    cmdOf t q = none ∧ rd t (CK_Q_CMDSEQ q) = (rd d (CK_Q_CMDSEQ q) + 1) % 2 ^ 32

/-- Queue `q` runs no SEQ_STEP. -/
abbrev NotServing (q : Nat) (d : Device) : Prop := d.serve.serving.map (·.queue) ≠ some q

/-- The memories are in canonical form. -/
def MemoryOk (d : Device) : Prop :=
  Memory.wf 0 d.mems.dev = true ∧ Memory.wf 0 d.mems.host = true ∧ Memory.wf 0xFF d.mems.flash = true ∧
    Memory.wf 0 d.mems.code = true

/-- Every fuse blown in `f` is blown in `g`, and what is not a fuse commit's to change is the same (16 R443). -/
def FusesKept (f g : Fuses) : Prop :=
  g.trim = f.trim ∧ g.sku = f.sku ∧ g.dieId = f.dieId ∧ g.secret = f.secret ∧ g.factory = f.factory ∧
    g.testLock = f.testLock ∧ (∀ i, bitOf f.therm i = true → bitOf g.therm i = true) ∧
    (∀ i, bitOf f.revoked i = true → bitOf g.revoked i = true)

/-- The stream of pavilion `p` stands at `m`, an instruction of OP `k` (05 R128). -/
abbrev AtOp (d : Device) (p k : Nat) (m : StreamPoint) : Prop := streamPoint d p = some m ∧ m.ins.op = k

/-- The stream of pavilion `p` stands at `m`, a HEM instruction with block `h` of function `fn` (05 Table 5.8). -/
abbrev AtHem (d : Device) (p fn : Nat) (m : StreamPoint) (h : HemBlock) : Prop :=
  AtOp d p 4 m ∧ h = hemAt d (m.base + m.ins.a) ∧ h.fn = fn

/-- The stream of pavilion `p` has gone on by one instruction. -/
def Issued (p : Nat) (d t : Device) : Prop := (pavOf t p).next = (pavOf d p).next + 1

/-- Core `c` of cluster `p` issues thread `k`, whose instruction, of kind `i`, is the word `w` of `len` bytes
(04 R102). -/
abbrev IssuesWord (d : Device) (p c ready k w len : Nat) (i : IssueKind) : Prop :=
  issueChoice d p c ready = some k ∧ fetchAt d p c (threadOf d p c k).pc = .instr w len ∧
    issueKind d (threadOf d p c k) w = i

/-- The integer registers of `u` are those of `th`, but for `rd`, which receives `v`; x0 reads zero (04 R100). -/
def WritesX (rd v : Nat) (th u : Thread) : Prop :=
  ∀ r, xreg u r = if r = rd ∧ r ≠ 0 then v % 2 ^ 64 else xreg th r

/-- The thread has gone on past an instruction of `len` bytes and counted it. -/
def WentOn (len : Nat) (th u : Thread) : Prop := u.pc = th.pc + len ∧ u.instret = (th.instret + 1) % 2 ^ 64

/-- Source `src` is of Minor severity and no episode is open. -/
abbrev MinorAlone (d : Device) (src : Nat) : Prop := severityOf d src = 1 ∧ rbit d BV_EPISODE 31 = false

/-- Every input entry that a source feeds holds the source's raw value, scaled to Q15, stamped now (11 R318, R320). -/
def Fed (kind index : Nat) (raw : Int) (d t : Device) : Prop :=
  ∀ n ∈ routedEntries d kind index, inputOf t n = {
    value := clampInt (-32768) 32767 (divRne ((raw - signedOf 32 (rd d (SN_OFFS n))) * signedOf 32 (rd d (SN_GAIN n))) 16)
    valid := true, stamp := nowNs d, past := (inputOf t n).past }

/-- The registers SN_CLIP. -/
def clipRegs : List Nat := (List.range 4).map (fun i => SN_CLIP i)

/-- The latched status of source `src` is set (14 R380). -/
abbrev Latched (src : Nat) (t : Device) : Prop := t.belv.status.getLsbD src = true

end Sys2Proof.Machine
end

