-- ==== Sys2Proof/Certificates/Slice0/Obligations.lean ====
section
/-! DEFINITION. The statements for the provers. -/
open Sys2Proof Sys2Proof.Machine

/-! The block. -/

/-- O1. A step takes the command at the front of the queue and is `exec` of it with the queue's rest. The queue of
waiting commands is the model's form of a block (log entries 1 and 17). -/
def Obligations.StepRunsFrontCommand : Prop :=
  ∀ (c : Instr) (s : State), step { s with pending := c :: s.pending } = exec c s

/-- O2. Whole-machine rule: no command stops the block and none touches the commands that wait behind it. Log entries
2 and 16 name the model's choice for events whose conditions do not hold. -/
def Obligations.EveryCommandCompletes : Prop :=
  ∀ (c : Instr) (s : State), ∃ t, exec c s = .next t ∧ t.pending = s.pending

/-- O3. Invariant: every step keeps the four memories in canonical form. The canonical form is the model's; unlisted
bytes read as log entries 12 and 13 say. -/
def Obligations.StepKeepsMemoryCanonical : Prop :=
  ∀ s t : State, MemoryOk s.dev → step s = .next t → MemoryOk t.dev

/-- O4. 16 R443, R447: no step unblows a thermometer or revocation fuse or changes the identity, the secret, the trim,
the SKU word, FACTORY or TEST_LOCK. -/
def Obligations.StepKeepsFuses : Prop :=
  ∀ s t : State, step s = .next t → FusesKept s.dev.fuses t.dev.fuses

/-- O5. State.reset meets the memory invariant, holds no command, and the device is not Ready and has no link. The
moment that State.reset stands for is the model's choice (log entry 10). -/
def Obligations.ResetState : Prop :=
  MemoryOk State.reset.dev ∧ State.reset.pending = [] ∧ (∀ o, rd State.reset.dev o = (regReset o).toNat) ∧
    rd State.reset.dev DEV_ID = 0x08801F8E ∧ rd State.reset.dev DEV_REV = 0x10 ∧ isReady State.reset.dev = false ∧
    hostReach State.reset.dev = false ∧ State.reset.dev.hostif.featAccepted = 1 ∧ State.reset.dev.link.bar4GiB = 64

/-! The link (15 R408, R409, R411, R415). -/

/-- O6. PERST resets every register, the link and the queues, empties device memory, and leaves host memory, flash and
fuses (15 R408); LINK_DOWN, LINK_UP and HOT_RESET change the link and its registers alone (15 R409). Log entry 26: a
hot reset counts as a link down. -/
def Obligations.LinkEvents : Prop :=
  (∀ s, Completes (.perst true) s (fun t => (∀ o, rd t o = (regReset o).toNat) ∧ t.mems.dev = [] ∧
    t.link = ({} : Link) ∧ t.cloak = ({} : Cloakroom) ∧ t.pins = { s.dev.pins with perstN := false } ∧
    t.mems.host = s.dev.mems.host ∧ t.mems.flash = s.dev.mems.flash ∧ t.fuses = s.dev.fuses)) ∧
  (∀ s, Completes (.perst false) s (fun t => t = { s.dev with pins := { s.dev.pins with perstN := true } })) ∧
  (∀ s, s.dev.link.l0 = true → Completes .linkDown s (fun t =>
    t = { s.dev with regs := t.regs, link := { s.dev.link with l0 := false } } ∧ rbit t PCI_LINK 17 = false ∧
    rd t PCI_LINKDOWN = min (rd s.dev PCI_LINKDOWN + 1) 0xFFFFFFFF ∧
    SameRegs [PCI_LINK, PCI_LINKDOWN, DEV_STATUS] s.dev t)) ∧
  (∀ s rate width flit ready replays recoveries, s.dev.pins.perstN = true → 1 ≤ rate → rate ≤ 6 → width ∈ [1, 2, 4] →
    (flit = true ∨ rate ≠ 6) → s.dev.link.busMaster = true → Completes (.linkUp rate width flit ready replays recoveries) s (fun t =>
      t.link.l0 = true ∧ t.link.waiting = [] ∧ t.link.configReady = (s.dev.link.configReady || ready) ∧
      rd t PCI_LINK = rate + width * 16 + (if flit then 2 ^ 16 else 0) + 2 ^ 17 ∧
      rd t PCI_REPLAY = min (rd s.dev PCI_REPLAY + replays) 0xFFFFFFFF ∧
      rd t PCI_RECOVERY = min (rd s.dev PCI_RECOVERY + recoveries) 0xFFFFFFFF ∧ t.mems.dev = s.dev.mems.dev ∧
      t.cloak = s.dev.cloak ∧ SameRegs [PCI_LINK, PCI_REPLAY, PCI_RECOVERY, DEV_STATUS] s.dev t)) ∧
  (∀ s, Completes .hotReset s (fun t =>
    t = { s.dev with regs := t.regs, link := { s.dev.link with
      l0 := false, busMaster := false, msixEnable := false, functionMask := false, d3hot := false, bar4GiB := 64,
      bars := [0, 0, 0], aspmL1 := false, maxPayload := 0, maxReadRequest := 2, aerStatus := 0 } } ∧
    (∀ o, 0xE100000 ≤ o → o < 0xE180100 → rd t o = (regReset o).toNat) ∧
    (∀ o, ¬ (0xE100000 ≤ o ∧ o < 0xE180100) → o ∉ [PCI_LINK, PCI_LINKDOWN, DEV_STATUS] → rd t o = rd s.dev o)))

/-- O7. A configuration request before configuration readiness gets retry status; later a read answers its double
word, with the class code and revision of 15 R410 and the device ID of the member, and a write sets what it names (15
R407, R408, R411, R415). The places of fields in their double words are the family's (Assumption 87). Log entry 87:
the places of the fields. -/
def Obligations.ConfigurationRequests : Prop :=
  (∀ s op, s.dev.link.l0 = true → s.dev.link.configReady = false → Completes (.configurationRequest op) s (fun t =>
    t.hostif.answer.retry = true ∧ t = { s.dev with hostif := t.hostif })) ∧
  (∀ s b, s.dev.link.l0 = true → s.dev.link.configReady = true →
    (∀ w, Completes (.configurationRequest (.read w)) s (fun t => t.hostif.answer = { data := leBytes 4 (configWord s.dev w) } ∧
      t = { s.dev with hostif := t.hostif })) ∧
    Completes (.configurationRequest (.read .classRevision)) s (fun t => t.hostif.answer.data = leBytes 4 0x12000010) ∧
    (fuseMember s.dev.fuses = 1 → Completes (.configurationRequest (.read .identity)) s (fun t =>
      t.hostif.answer.data = leBytes 4 0x08601F8E)) ∧
    (∀ v, Completes (.configurationRequest (.bar 0 v)) s (fun t => t = { s.dev with link := t.link, hostif := t.hostif } ∧
      t.link = { s.dev.link with bars := t.link.bars } ∧
      (s.dev.link.bars = [0, 0, 0] → configWord t (.bar 0) = v.toNat / 2 ^ 28 * 2 ^ 28 + 4))) ∧
    Completes (.configurationRequest (.aspmL1 b)) s (fun t => t.link = { s.dev.link with aspmL1 := b }) ∧
    Completes (.configurationRequest (.busMaster b)) s (fun t => t.hostif.answer.retry = false ∧ t.link.busMaster = b ∧
      t.link.l0 = true ∧ (b = true → t.link.waiting = []) ∧ t.regs = s.dev.regs ∧ t.mems.dev = s.dev.mems.dev) ∧
    Completes (.configurationRequest (.msixEnable b)) s (fun t => t.link = { s.dev.link with msixEnable := b }) ∧
    Completes (.configurationRequest (.functionMask b)) s (fun t => t.link = { s.dev.link with functionMask := b }) ∧
    Completes (.configurationRequest (.d3hot b)) s (fun t => t.link = { s.dev.link with d3hot := b })) ∧
  (∀ s g, s.dev.link.l0 = true → s.dev.link.configReady = true → g ∈ [4, 8, 16, 32, 64, 128, 256] →
    Completes (.configurationRequest (.bar4Size g)) s (fun t => t.link = { s.dev.link with bar4GiB := g }))

/-! Register access (00 R10, 15 R413, R416, R421, R494). -/

/-- O8. Register accesses by type: RW, W1C, a range of R494, RC, a refused size, several aligned words, an alias
write, and an alias read that has no side effect; while READY is 0 a write is discarded; a message RAM word with an
uncorrectable error reads all-ones and is counted (12 R354). Log entry 57: a field outside its range keeps its value
alone. -/
def Obligations.RegisterAccesses : Prop :=
  (∀ s v, HostOk s.dev → Completes (.registerWrite DEV_EVENT_EN ⟨v, .host⟩) s (fun t =>
    rd t DEV_EVENT_EN = v.toNat % 32 ∧ OnlyRegs [DEV_EVENT_EN] s.dev t)) ∧
  (∀ s v, HostOk s.dev → Completes (.registerWrite DEV_EVENT ⟨v, .host⟩) s (fun t =>
    (∀ i < 5, rbit t DEV_EVENT i = (rbit s.dev DEV_EVENT i && !v.getLsbD i)) ∧ OnlyRegs [DEV_EVENT] s.dev t)) ∧
  (∀ s v, HostOk s.dev → Completes (.registerWrite CK_AGE_LIMIT ⟨v, .host⟩) s (fun t =>
    fld t CK_AGE_LIMIT 15 0 = (if v.toNat % 2 ^ 16 = 0 then fld s.dev CK_AGE_LIMIT 15 0 else v.toNat % 2 ^ 16) ∧
    OnlyRegs [CK_AGE_LIMIT] s.dev t)) ∧
  (∀ s off v, isReady s.dev = false → ¬ (0xE100000 ≤ off ∧ off < 0xE180000) →
    Completes (.registerWrite off ⟨v, .host⟩) s (fun t => t = s.dev)) ∧
  (∀ s ecc, HostOk s.dev → Completes (.rcRead ⟨DEV_BADACC, ecc⟩) s (fun t =>
    t.hostif.answer.data = leBytes 4 (rd s.dev DEV_BADACC) ∧ rd t DEV_BADACC = 0 ∧ SameRegs [DEV_BADACC] s.dev t ∧
    t = { s.dev with regs := t.regs, hostif := t.hostif })) ∧
  (∀ s b ecc, b < 32 → HostOk s.dev → Completes (.rcRead ⟨(0x8000000 + (12 * 32 + b) * 4), ecc⟩) s (fun t =>
    t.hostif.answer.data = leBytes 4 (if rbit s.dev DEV_BADACC b then 1 else 0) ∧ t = { s.dev with hostif := t.hostif })) ∧
  (∀ s off n, HostOk s.dev → off % 4 = 0 → 1 ≤ n →
    Completes (.badRegisterAccess 2 off (4 * n) none) s (fun t =>
      t.hostif.answer.data = List.replicate (4 * n) 0 ∧ t = { s.dev with hostif := t.hostif })) ∧
  (∀ s k v, HostOk s.dev → k < 2048 → Completes (.badRegisterAccess 0 (0xE100000 + 16 * k) 8 (some v)) s (fun t =>
    rd t (0xE100000 + 16 * k) = v % 2 ^ 32 ∧ rd t (0xE100004 + 16 * k) = v / 2 ^ 32 % 2 ^ 32 ∧
    OnlyRegs [0xE100000 + 16 * k, 0xE100004 + 16 * k] s.dev t)) ∧
  (∀ s bar off len write, HostOk s.dev → bar = 0 ∨ bar = 2 → ¬ (len % 4 = 0 ∧ off % 4 = 0 ∧ len ≠ 0) → off < 0xE100000 →
    rbit s.dev DEV_EVENT_EN 4 = false → Completes (.badRegisterAccess bar off len write) s (fun t =>
      rd t DEV_BADACC = min (rd s.dev DEV_BADACC + 1) 0xFFFFFFFF ∧ rd t DEV_BADACC_ADDR = bar * 2 ^ 30 + off ∧
      rbit t DEV_EVENT 4 = true ∧ (write = none → t.hostif.answer.data = List.replicate len 0) ∧
      SameRegs [DEV_BADACC, DEV_BADACC_ADDR, DEV_EVENT] s.dev t ∧ t = { s.dev with regs := t.regs, hostif := t.hostif })) ∧
  (∀ s b v, b < 5 → HostOk s.dev → Completes (.aliasWrite 9 b v) s (fun t =>
    (∀ i < 5, rbit t DEV_EVENT_EN i = if i = b then v.getLsbD 0 else rbit s.dev DEV_EVENT_EN i) ∧
    OnlyRegs [DEV_EVENT_EN] s.dev t)) ∧
  (∀ s b v, b < 5 → HostOk s.dev → Completes (.aliasWrite 8 b v) s (fun t =>
    (∀ i < 5, rbit t DEV_EVENT i = (rbit s.dev DEV_EVENT i && !(i == b && v.getLsbD 0))) ∧ OnlyRegs [DEV_EVENT] s.dev t))

/-! The BAR4 window (15 R412; 01 R30; 03 R69, R93; 14 R393; 07 R186). -/

/-- O9. A BAR4 access to a local memory that a kill clears is refused (04 R118). A BAR4 write of open DRAM stores its
bytes and nothing else, one into the reserve or a hole is discarded and counted; a read answers the bytes, all-ones
for a hole, and is poisoned by an uncorrectable burst; a commit moves the window. Log entry 20: what the window
reaches. -/
def Obligations.Bar4Accesses : Prop :=
  (∀ s o bytes meets, HostOk s.dev → windowRegion s.dev o = .dram → openDram s.dev (s.dev.link.bar4Base + o) bytes.length = true →
    Completes (.bar4Write o ⟨bytes, meets⟩) s (fun t =>
      (∀ i (h : i < bytes.length), memRead 0 t.mems.dev (s.dev.link.bar4Base + o + i) = bytes[i]) ∧
      SameBytesOutside (s.dev.link.bar4Base + o) bytes.length s.dev t ∧ t = { s.dev with mems := t.mems })) ∧
  (∀ s o bytes meets, HostOk s.dev → windowRegion s.dev o = .hole ∨ (windowRegion s.dev o = .dram ∧
      openDram s.dev (s.dev.link.bar4Base + o) bytes.length = false) →
    Completes (.bar4Write o ⟨bytes, meets⟩) s (fun t => t.mems = s.dev.mems ∧
      rd t DEV_BADACC = min (rd s.dev DEV_BADACC + 1) 0xFFFFFFFF ∧ rd t DEV_BADACC_ADDR = 2 ^ 30 + o % 2 ^ 30)) ∧
  (∀ s o k r bytes meets, HostOk s.dev → windowRegion s.dev o = .localMem k r → rbit s.dev (KS_STATUS (k / 4)) 1 = true →
    Completes (.bar4Write o ⟨bytes, meets⟩) s (fun t => t.mems = s.dev.mems ∧
      rd t DEV_BADACC = min (rd s.dev DEV_BADACC + 1) 0xFFFFFFFF)) ∧
  (∀ s o n meets, HostOk s.dev → windowRegion s.dev o = .dram → inDram s.dev (s.dev.link.bar4Base + o) n = true →
    Completes (.bar4Read o n ⟨.clean, meets⟩) s (fun t => t.hostif.answer.data = memBytes s.dev (s.dev.link.bar4Base + o) n ∧
      t.hostif.answer.poisoned = false ∧ t = { s.dev with hostif := t.hostif }) ∧
    ∀ w, Completes (.bar4Read o n ⟨(.bad w), meets⟩) s (fun t => t.hostif.answer.data = List.replicate n 0xFF ∧
      t.hostif.answer.poisoned = true ∧ t.mems.dev = s.dev.mems.dev)) ∧
  (∀ s o n ecc meets, HostOk s.dev → windowRegion s.dev o = .hole → Completes (.bar4Read o n ⟨ecc, meets⟩) s (fun t =>
    t.hostif.answer.data = List.replicate n 0xFF ∧ t.mems = s.dev.mems ∧
    rd t DEV_BADACC = min (rd s.dev DEV_BADACC + 1) 0xFFFFFFFF)) ∧
  (∀ s v, HostOk s.dev → Completes (.bar4BaseCommit v) s (fun t =>
    t.link = { s.dev.link with
      bar4Base := fld s.dev DEV_BAR4_BASE_LO 31 30 * 2 ^ 30 + v.toNat % 2 ^ 16 * 2 ^ 32 } ∧
    t = { s.dev with regs := t.regs, link := t.link } ∧ SameRegs [DEV_BAR4_BASE_HI] s.dev t))

/-- O10. 03 R93, R83, R84: a host row into an unowned Glasshouse that is not fenced is written; into a fenced one it
is discarded and counted in DEV_BADACC; into an owned one it takes a credit of source 10. Where it meets another
access on its row it is written all the same (03 R75). Log entries 21 and 82: acquisition comes before the window
check; a meeting is an operand. -/
def Obligations.HostRows : Prop :=
  ∀ s o g r bytes, HostOk s.dev → windowRegion s.dev o = .glass g r → r % 512 = 0 → r + 512 ≤ 0x2000000 →
    bytes.length = 512 →
    (fenced s.dev g = false → rbit s.dev (GH_STATUS g) 29 = false → Completes (.bar4Write o ⟨bytes, []⟩) s (fun t =>
      t = rowPut g (r / 512) bytes s.dev) ∧ Completes (.bar4Write o ⟨bytes, [r / 512]⟩) s (fun t =>
      t = rowMeeting true g (r / 512) (rowPut g (r / 512) bytes s.dev))) ∧
    (fenced s.dev g = true → Completes (.bar4Write o ⟨bytes, []⟩) s (fun t => t.mems = s.dev.mems ∧
      rd t DEV_BADACC = min (rd s.dev DEV_BADACC + 1) 0xFFFFFFFF ∧ rd t (GH_CREDIT_ERR g) = rd s.dev (GH_CREDIT_ERR g))) ∧
    (fenced s.dev g = false → rbit s.dev (GH_STATUS g) 29 = true → strictMode s.dev = false →
      canAcquire s.dev g 10 1 = true → holdsCredit (acquireRows g 10 1 s.dev) g 10 (r / 512) = true →
      Completes (.bar4Write o ⟨bytes, []⟩) s (fun t => t = rowPut g (r / 512) bytes (acquireRows g 10 1 s.dev)))

/-! Mailbox, features, MSI-X (15 R415, R419, R420, R423, R424). -/

/-- O11. The mailbox: a select releases the snapshot and requests a value; the snapshot of selector 0x0001 is the beat
counter, an unknown one sets BADSEL, a Lodge-served one BUSY while the Lodge is down; a read answers a word, the last
one releases, and one without a snapshot answers zero. -/
def Obligations.Mailbox : Prop :=
  (∀ s v, HostOk s.dev → Completes (.mailboxSelect v) s (fun t => rd t DEV_MBOX_SEL = v.toNat ∧ rd t DEV_MBOX_STATUS = 0 ∧
    t.hostif = { s.dev.hostif with mboxPending := true } ∧ t = { s.dev with regs := t.regs, hostif := t.hostif } ∧
    SameRegs [DEV_MBOX_SEL, DEV_MBOX_STATUS] s.dev t)) ∧
  (∀ s, s.dev.hostif.mboxPending = true → isReady s.dev = true →
    (rd s.dev DEV_MBOX_SEL = 0x00010000 → Completes .mailboxSnapshot s (fun t => rd t DEV_MBOX_STATUS = 0x80000002 ∧
      rd t (DEV_MBOX_DATA 0) = s.dev.clock.beat % 2 ^ 32 ∧ rd t (DEV_MBOX_DATA 1) = s.dev.clock.beat / 2 ^ 32 % 2 ^ 32 ∧
      SameRegs [DEV_MBOX_STATUS, DEV_MBOX_DATA 0, DEV_MBOX_DATA 1] s.dev t)) ∧
    (mailboxWords s.dev (fld s.dev DEV_MBOX_SEL 31 16) (fld s.dev DEV_MBOX_SEL 15 0) = none →
      Completes .mailboxSnapshot s (fun t => rd t DEV_MBOX_STATUS = 2 ^ 29 ∧ SameRegs [DEV_MBOX_STATUS] s.dev t)) ∧
    (rd s.dev DEV_MBOX_SEL = 0x000A0000 → rbit s.dev DEV_STATUS 4 = true →
      Completes .mailboxSnapshot s (fun t => rd t DEV_MBOX_STATUS = 2 ^ 30 ∧ SameRegs [DEV_MBOX_STATUS] s.dev t))) ∧
  (∀ s n, HostOk s.dev → n < 16 →
    (rbit s.dev DEV_MBOX_STATUS 31 = true → Completes (.mailboxDataRead n) s (fun t =>
      t.hostif.answer.data = leBytes 4 (rd s.dev (DEV_MBOX_DATA n)) ∧
      rd t DEV_MBOX_STATUS = (if n + 1 = fld s.dev DEV_MBOX_STATUS 4 0 then 0 else rd s.dev DEV_MBOX_STATUS) ∧
      SameRegs [DEV_MBOX_STATUS] s.dev t)) ∧
    (rbit s.dev DEV_MBOX_STATUS 31 = false → Completes (.mailboxDataRead n) s (fun t =>
      t.hostif.answer.data = [0, 0, 0, 0] ∧ t = { s.dev with hostif := t.hostif })))

/-- O12. 15 R423: a commit latches the request and sets BUSY, is ignored while BUSY, and is refused while the Lodge is
down; the accepted set becomes the request and the offered set with bit 0. Log entry 22: the offered set. -/
def Obligations.FeatureNegotiation : Prop :=
  (∀ s, HostOk s.dev → rbit s.dev DEV_FEAT_CTRL 8 = true → Completes .featureCommit s (fun t => t = s.dev)) ∧
  (∀ s, HostOk s.dev → rbit s.dev DEV_FEAT_CTRL 8 = false → rbit s.dev DEV_STATUS 4 = true →
    Completes .featureCommit s (fun t => rbit t DEV_FEAT_CTRL 9 = true ∧ rbit t DEV_EVENT 3 = true ∧
      t.hostif = s.dev.hostif)) ∧
  (∀ s, HostOk s.dev → rbit s.dev DEV_FEAT_CTRL 8 = false → rbit s.dev DEV_STATUS 4 = false →
    Completes .featureCommit s (fun t => rbit t DEV_FEAT_CTRL 8 = true ∧ rbit t DEV_FEAT_CTRL 9 = false ∧
      (∀ w < 8, t.hostif.featRequest / 2 ^ (32 * w) % 2 ^ 32 = rd s.dev (DEV_FEAT_REQ w)) ∧
      t.hostif.featAccepted = s.dev.hostif.featAccepted ∧ SameRegs [DEV_FEAT_CTRL] s.dev t)) ∧
  (∀ s, isReady s.dev = true → rbit s.dev DEV_STATUS 4 = false → rbit s.dev DEV_FEAT_CTRL 8 = true →
    Completes .featureNegotiationDone s (fun t =>
      t.hostif.featAccepted = (s.dev.hostif.featRequest &&& offeredFeatures s.dev) ||| 1 ∧
      rbit t DEV_FEAT_CTRL 8 = false ∧ rbit t DEV_EVENT 3 = true ∧ t.mems.dev = s.dev.mems.dev))

/-- O13. 15 R415: a pending vector whose message may be sent is sent and its bit clears; one that may not stays. -/
def Obligations.PendingVectors : Prop :=
  ∀ s v, v < 2048 → rbit s.dev (MSIX_PBA (v / 32)) (v % 32) = true →
    (vectorOpen s.dev v = true → hostUp s.dev = true → s.dev.link.waiting = [] → Completes (.msixPendingSend v) s (fun t =>
      t.link.messages = s.dev.link.messages ++ [v] ∧ rbit t (MSIX_PBA (v / 32)) (v % 32) = false ∧
      SameRegs [MSIX_PBA (v / 32)] s.dev t)) ∧
    (vectorOpen s.dev v = false → Completes (.msixPendingSend v) s (fun t => t = s.dev))

/-! Queues (08 R221 to R224, R230, R239, R247, R255). -/

/-- O14. 08 R223: a doorbell value below the ring size is taken, another sets DB_ERR; a host write to a firmware
queue's page counts in DEV_BADACC, and the firmware rings that queue by its own path (08 R221; the path is Assumption
88). Log entry 88: the firmware path. -/
def Obligations.Doorbells : Prop :=
  (∀ s q v, HostOk s.dev → 16 ≤ q → q < 8192 → v.toNat % 2 ^ 16 < ringSize s.dev q →
    Completes (.sqDoorbell q ⟨v, .host⟩) s (fun t => rd t (CK_Q_SQ_TAIL q) = v.toNat % 2 ^ 16 ∧ OnlyRegs [CK_Q_SQ_TAIL q] s.dev t) ∧
    Completes (.cqDoorbell q ⟨v, .host⟩) s (fun t => rd t (CK_Q_CQ_HEAD q) = v.toNat % 2 ^ 16 ∧ OnlyRegs [CK_Q_CQ_HEAD q] s.dev t)) ∧
  (∀ s q v, HostOk s.dev → 16 ≤ q → q < 8192 → ringSize s.dev q ≤ v.toNat % 2 ^ 16 →
    Completes (.sqDoorbell q ⟨v, .host⟩) s (fun t => rbit t (CK_Q_STATUS q) 3 = true ∧ OnlyRegs [CK_Q_STATUS q] s.dev t) ∧
    Completes (.cqDoorbell q ⟨v, .host⟩) s (fun t => rbit t (CK_Q_STATUS q) 3 = true ∧ OnlyRegs [CK_Q_STATUS q] s.dev t)) ∧
  (∀ s q v, HostOk s.dev → q < 16 → Completes (.sqDoorbell q ⟨v, .host⟩) s (fun t =>
    rd t DEV_BADACC = min (rd s.dev DEV_BADACC + 1) 0xFFFFFFFF ∧ rd t (CK_Q_SQ_TAIL q) = rd s.dev (CK_Q_SQ_TAIL q))) ∧
  (∀ s q v, isReady s.dev = true → q < 16 → v.toNat % 2 ^ 16 < ringSize s.dev q →
    Completes (.sqDoorbell q ⟨v, .firmware⟩) s (fun t => rd t (CK_Q_SQ_TAIL q) = v.toNat % 2 ^ 16 ∧
      OnlyRegs [CK_Q_SQ_TAIL q] s.dev t) ∧
    Completes (.cqDoorbell q ⟨v, .firmware⟩) s (fun t => rd t (CK_Q_CQ_HEAD q) = v.toNat % 2 ^ 16 ∧
      OnlyRegs [CK_Q_CQ_HEAD q] s.dev t))

/-- O15. 08 R224: an enabled, idle queue that is neither paused nor halted fetches the entry at SQ_HEAD of a ring in
device memory once SQ_TAIL covers it; the entry becomes its head with its class and the time. -/
def Obligations.Fetch : Prop :=
  ∀ s q, isReady s.dev = true → queueEnabled s.dev q = true → (queueOf s.dev q).disabling = false →
    (queueOf s.dev q).pausing = false → (queueOf s.dev q).head = none → cmdOf s.dev q = none →
    rbit s.dev (CK_Q_STATUS q) 1 = false → rbit s.dev (CK_Q_STATUS q) 2 = false →
    rd s.dev (CK_Q_SQ_TAIL q) ≠ rd s.dev (CK_Q_SQ_HEAD q) → rbit s.dev (CK_Q_CFG q) 4 = true →
    Completes (.descriptorFetch q) s (fun t =>
      (queueOf t q).head = some (memBytes s.dev (sqBase s.dev q + rd s.dev (CK_Q_SQ_HEAD q) * 64) 64) ∧
      (queueOf t q).headBeat = s.dev.clock.beat ∧ (queueOf t q).effClass = fld s.dev (CK_Q_CFG q) 2 1 ∧
      (∀ r, r ≠ q → queueOf t r = queueOf s.dev r) ∧ t = { s.dev with cloak := t.cloak })

/-- O16. 08 R222, R224: enabling a queue with rings in host memory of 16 to 65,536 entries sets ENABLE, another size
sets CFG_ERR; disabling an idle queue returns its head and clears ENABLE, a busy one waits for its command. -/
def Obligations.QueueEnabling : Prop :=
  (∀ s q v, HostOk s.dev → 16 ≤ q → q < 8192 → queueEnabled s.dev q = false → v.toNat / 16 % 4 = 0 →
    (4 ≤ v.toNat / 2 ^ 16 % 32 → v.toNat / 2 ^ 16 % 32 ≤ 16 → Completes (.queueEnable q v) s (fun t =>
      queueEnabled t q = true ∧ fld t (CK_Q_CFG q) 20 16 = v.toNat / 2 ^ 16 % 32 ∧
      fld t (CK_Q_CFG q) 2 1 = v.toNat / 2 % 4 ∧ OnlyRegs [CK_Q_CFG q] s.dev t)) ∧
    (v.toNat / 2 ^ 16 % 32 < 4 ∨ 16 < v.toNat / 2 ^ 16 % 32 → Completes (.queueEnable q v) s (fun t =>
      queueEnabled t q = false ∧ rbit t (CK_Q_STATUS q) 4 = true ∧ OnlyRegs [CK_Q_CFG q, CK_Q_STATUS q] s.dev t))) ∧
  (∀ s q v, HostOk s.dev → 16 ≤ q → q < 8192 → queueEnabled s.dev q = true →
    (cmdOf s.dev q = none → Completes (.queueDisable q v) s (fun t => queueEnabled t q = false ∧
      (queueOf t q).head = none ∧ (queueOf t q).disabling = false ∧ t.mems = s.dev.mems ∧
      SameRegs [CK_Q_CFG q] s.dev t)) ∧
    (∀ c, cmdOf s.dev q = some c → Completes (.queueDisable q v) s (fun t => queueEnabled t q = true ∧
      (queueOf t q).head = none ∧ (queueOf t q).disabling = true ∧ cmdOf t q = some c))) ∧
  (∀ s q, (queueOf s.dev q).disabling = true → cmdOf s.dev q = none → Completes (.queueDisableEffect q) s (fun t =>
    queueEnabled t q = false ∧ (queueOf t q).disabling = false ∧ SameRegs [CK_Q_CFG q] s.dev t ∧ t.mems = s.dev.mems))

/-- O17. 08 R230, R247: PAUSE pauses an idle queue and has a busy one pause at the end of its command, RESUME clears
PAUSED, CLEAR_HALT clears HALTED. Log entry 47: a pause returns the fetched head. -/
def Obligations.QueueControl : Prop :=
  ∀ s q, HostOk s.dev → 16 ≤ q → q < 8192 →
    (cmdOf s.dev q = none → Completes (.pause q) s (fun t => rbit t (CK_Q_STATUS q) 1 = true ∧ (queueOf t q).head = none ∧
      SameRegs [CK_Q_STATUS q] s.dev t ∧ t.mems = s.dev.mems)) ∧
    (∀ c, cmdOf s.dev q = some c → leField c.desc 0 1 ≠ 0x06 → Completes (.pause q) s (fun t =>
      (queueOf t q).pausing = true ∧ cmdOf t q = some c ∧ t.regs = s.dev.regs)) ∧
    (∀ c, cmdOf s.dev q = some c → leField c.desc 0 1 = 0x06 → Completes (.pause q) s (fun t =>
      cmdOf t q = none ∧ rbit t (CK_Q_STATUS q) 1 = true ∧ rd t (CK_Q_SQ_HEAD q) = rd s.dev (CK_Q_SQ_HEAD q) ∧
      t.mems = s.dev.mems)) ∧
    Completes (.resume q) s (fun t => rbit t (CK_Q_STATUS q) 1 = false ∧
      (∀ i, i ≠ 1 → rbit t (CK_Q_STATUS q) i = rbit s.dev (CK_Q_STATUS q) i) ∧ OnlyRegs [CK_Q_STATUS q] s.dev t) ∧
    Completes (.clearHalt q) s (fun t => rbit t (CK_Q_STATUS q) 2 = false ∧
      (∀ i, i ≠ 2 → rbit t (CK_Q_STATUS q) i = rbit s.dev (CK_Q_STATUS q) i) ∧ OnlyRegs [CK_Q_STATUS q] s.dev t)

/-- O18. 08 R239, R255: a head promoted after its wait keeps its order, a starved head is marked and raises source 68
once, and once COAL_US microseconds of 25 beats have passed since the first completion not yet announced, and not
before, the queue's vector is raised. Log entries 15 and 49. -/
def Obligations.QueueTimers : Prop :=
  (∀ s q, (queueOf s.dev q).head.isSome = true →
    ((queueOf s.dev q).effClass = 3 → (queueOf s.dev q).classBeat + fld s.dev CK_AGE_BULK 15 0 * 25000 ≤ s.dev.clock.beat →
      Completes (.ageingPromotion q) s (fun t => (queueOf t q).effClass = 2 ∧ (queueOf t q).aged = true ∧
        (queueOf t q).head = (queueOf s.dev q).head ∧ (queueOf t q).headOrder = (queueOf s.dev q).headOrder ∧
        t = { s.dev with cloak := t.cloak })) ∧
    ((queueOf s.dev q).effClass = 2 → (queueOf s.dev q).classBeat + fld s.dev CK_AGE_PLAN 15 0 * 25000 ≤ s.dev.clock.beat →
      Completes (.ageingPromotion q) s (fun t => (queueOf t q).effClass = 1 ∧ (queueOf t q).aged = true ∧
        t = { s.dev with cloak := t.cloak })) ∧
    ((queueOf s.dev q).starved = false →
      (queueOf s.dev q).headBeat + fld s.dev CK_AGE_LIMIT 15 0 * 25000 ≤ s.dev.clock.beat →
      Completes (.starvation q) s (fun t => (queueOf t q).starved = true ∧ t.belv.status.getLsbD 68 = true))) ∧
  (∀ s q, (queueOf s.dev q).uncoalesced ≠ 0 → rbit s.dev (CK_Q_IRQ q) 11 = true → fld s.dev (CK_Q_IRQ q) 31 24 ≠ 0 →
    (queueOf s.dev q).coalBeat + fld s.dev (CK_Q_IRQ q) 31 24 * 25 ≤ s.dev.clock.beat →
    Completes (.coalesceTimeout q) s (fun t => (queueOf t q).uncoalesced = 0 ∧ t.mems = s.dev.mems ∧
      (vectorOpen s.dev (fld s.dev (CK_Q_IRQ q) 10 0) = true → hostUp s.dev = true → s.dev.link.waiting = [] →
        rbit s.dev (MSIX_PBA (fld s.dev (CK_Q_IRQ q) 10 0 / 32)) (fld s.dev (CK_Q_IRQ q) 10 0 % 32) = false →
        t.link.messages = s.dev.link.messages ++ [fld s.dev (CK_Q_IRQ q) 10 0] ∧ t.regs = s.dev.regs))) ∧
  (∀ s q, fld s.dev (CK_Q_IRQ q) 31 24 * 25 + (queueOf s.dev q).coalBeat > s.dev.clock.beat →
    Completes (.coalesceTimeout q) s (fun t => t = s.dev))

/-! Dispatch and the start of commands (08 R225, R233, R237, R238). -/

/-- O19. 08 R238: DISPATCH starts the first head in order where it is startable, whatever its command, and leaves
every head where none is; a head that cannot start holds back a later head that needs a pavilion it needs. A started
head is in flight with its ticket or has its acceptance status. Log entry 27: the order of heads. -/
def Obligations.Dispatch : Prop :=
  (∀ s, heads (enterGolden s.dev) = [] → Completes .dispatch s (fun t => t = enterGolden s.dev)) ∧
  (∀ s q x, heads (enterGolden s.dev) = [q] → (queueOf (enterGolden s.dev) q).head = some x →
    (startable (enterGolden s.dev) q x = true → Completes .dispatch s (fun t => t = startHead q (enterGolden s.dev))) ∧
    (startable (enterGolden s.dev) q x = false → Completes .dispatch s (fun t => t = enterGolden s.dev)) ∧
    (startable (enterGolden s.dev) q x = true → acceptStatus (enterGolden s.dev) q x = none →
      (leField x 0 1 = 0x06 ∨ leField x 0 1 = 0x04 ∨ leField x 0 1 = 0x02) →
      Completes .dispatch s (fun t => ∃ c, cmdOf t q = some c ∧ c.desc = x ∧ c.ticket = ticketOf (enterGolden s.dev) q ∧
        c.startBeat = (enterGolden s.dev).clock.beat ∧ (queueOf t q).head = none))) ∧
  (∀ s q r x y, heads (enterGolden s.dev) = [q, r] → (queueOf (enterGolden s.dev) q).head = some x →
    (queueOf (enterGolden s.dev) r).head = some y → startable (enterGolden s.dev) q x = false →
    headPavs (enterGolden s.dev) q x &&& headPavs (enterGolden s.dev) r y ≠ 0 →
    Completes .dispatch s (fun t => t = enterGolden s.dev))

/-- O20. 08 R225, R233, R242: an accepted command that waits is in flight with its ticket and its start beat, and its
queue has no head; nothing of it is done yet. -/
def Obligations.WaitingStarts : Prop :=
  ∀ s q x, (queueOf (enterGolden s.dev) q).head = some x → planned s.dev q = true →
    acceptStatus (enterGolden s.dev) q x = none →
    (∀ op i, (op, i) ∈ [(0x02, Instr.copy q), (0x03, Instr.fill q), (0x04, Instr.fence q), (0x06, Instr.wait q),
        (0x11, Instr.seqRetire q), (0x15, Instr.swapIn q)] → leField x 0 1 = op →
      Completes i s (fun t => ∃ c, cmdOf t q = some c ∧ c.desc = x ∧ c.ticket = ticketOf (enterGolden s.dev) q ∧
        c.startBeat = (enterGolden s.dev).clock.beat ∧ (queueOf t q).head = none ∧ t.mems.dev = (enterGolden s.dev).mems.dev ∧
        t.regs = (enterGolden s.dev).regs)) ∧
    (leField x 0 1 = 0x13 → leField x 28 1 = 0 → Completes (.prefixPin q) s (fun t =>
      q ∈ t.serve.waiting ∧ (cmdOf t q).map (·.desc) = some x ∧ t.mems.dev = (enterGolden s.dev).mems.dev)) ∧
    (leField x 0 1 = 0x13 → leField x 28 1 = 1 → Completes (.prefixUnpin q) s (fun t =>
      q ∈ t.serve.waiting ∧ (cmdOf t q).map (·.desc) = some x ∧ t.mems.dev = (enterGolden s.dev).mems.dev)) ∧
    (leField x 0 1 = 0x10 → bitOf (leField x 21 1) 1 = false → Completes (.seqAdmit q) s (fun t =>
      q ∈ t.serve.waiting ∧ (cmdOf t q).map (·.seqno) = some (rd s.dev CK_SB_SEQNEXT) ∧
      rd t CK_SB_SEQNEXT = (rd s.dev CK_SB_SEQNEXT + 1) % 2 ^ 32))

/-! Commands that end (08 R226, R228, R229, R233). -/

/-- O21. A SIGNAL adds to or sets its semaphore and a TIMESTAMP writes beat, NS and FRAC as one instant; both complete
at once with DONE. -/
def Obligations.ImmediateCommands : Prop :=
  ∀ s q x, 16 ≤ q → q < 8192 → (queueOf (enterGolden s.dev) q).head = some x → (queueOf (enterGolden s.dev) q).belvHead = false →
    planned s.dev q = true → acceptStatus (enterGolden s.dev) q x = none → rbit s.dev (CK_Q_CFG q) 5 = true →
    NotServing q s.dev →
    (leField x 0 1 = 0x05 → leField x 8 2 < 4096 → Completes (.signal q) s (fun t =>
      rd t (CK_SEM (leField x 8 2)) = (if leField x 10 1 = 0 then rd s.dev (CK_SEM (leField x 8 2)) + leField x 12 4
        else leField x 12 4) % 2 ^ 32 ∧
      ∃ c : Command, c.desc = x ∧ c.ticket = ticketOf s.dev q ∧ Completed q c 0 0 0 s.dev.clock.beat s.dev t)) ∧
    (leField x 0 1 = 0x07 → isHostEnd (leField x 8 8) = false →
      overlaps (endAddr (leField x 8 8)) 16 (completionAddr s.dev q) 32 = false →
      Completes (.timestamp q) s (fun t =>
        memBytes t (endAddr (leField x 8 8)) 16 =
          leBytes 8 s.dev.clock.beat ++ leBytes 4 (rd s.dev CT_NS) ++ leBytes 4 (rd s.dev CT_FRAC) ∧
        ∃ c : Command, c.desc = x ∧ c.ticket = ticketOf s.dev q ∧ Completed q c 0 0 0 s.dev.clock.beat s.dev t))

/-- O22. A FENCE with nothing left to wait for, a WAIT whose value is reached and a WAIT whose time is over complete,
with the highest status that applies or DONE_FLAGGED and DETAIL0 = 1; no byte outside the completion changes. Log
entry 15. -/
def Obligations.WaitEnds : Prop :=
  ∀ s q c, 16 ≤ q → q < 8192 → cmdOf s.dev q = some c → c.byBelvedere = false → rbit s.dev (CK_Q_CFG q) 5 = true →
    NotServing q s.dev →
    (leField c.desc 0 1 = 0x04 → c.fenceOn = [] → Completes (.fenceComplete q) s (fun t =>
      Completed q c (execStatus c).1 (execStatus c).2.1 (execStatus c).2.2 s.dev.clock.beat s.dev t ∧
      SameBytesOutside (completionAddr s.dev q) 32 s.dev t)) ∧
    (leField c.desc 0 1 = 0x06 → waitReached s.dev c.desc = true → Completes (.waitSatisfied q) s (fun t =>
      Completed q c (execStatus c).1 (execStatus c).2.1 (execStatus c).2.2 s.dev.clock.beat s.dev t ∧
      SameBytesOutside (completionAddr s.dev q) 32 s.dev t)) ∧
    (leField c.desc 0 1 = 0x06 → leField c.desc 16 4 ≠ 0 → waitReached s.dev c.desc = false →
      c.startBeat + leField c.desc 16 4 * 25 ≤ s.dev.clock.beat → Completes (.waitTimeout q) s (fun t =>
      Completed q c 0x01 1 0 s.dev.clock.beat s.dev t ∧ SameBytesOutside (completionAddr s.dev q) 32 s.dev t))

/-- O23. 08 R233, R251: a COPY between disjoint ranges of device memory moves the bytes as they stand and completes; a
KILL of a FENCE that waits on another queue ends both commands at once. Log entry 45: a KILL completes at once. -/
def Obligations.CopiesAndKills : Prop :=
  (∀ s q c, 16 ≤ q → q < 8192 → cmdOf s.dev q = some c → c.byBelvedere = false → rbit s.dev (CK_Q_CFG q) 5 = true →
    NotServing q s.dev → leField c.desc 0 1 = 0x02 → c.channel.isSome = true → isHostEnd (leField c.desc 8 8) = false →
    isHostEnd (leField c.desc 16 8) = false →
    overlaps (leField c.desc 8 8) (leField c.desc 24 8) (leField c.desc 16 8) (leField c.desc 24 8) = false →
    overlaps (endAddr (leField c.desc 16 8)) (leField c.desc 24 8) (completionAddr s.dev q) 32 = false →
    Completes (.copyComplete q .clean) s (fun t =>
      memBytes t (endAddr (leField c.desc 16 8)) (leField c.desc 24 8) =
        memBytes s.dev (leField c.desc 8 8) (leField c.desc 24 8) ∧
      Completed q c (execStatus c).1 (execStatus c).2.1 (execStatus c).2.2 s.dev.clock.beat s.dev t)) ∧
  (∀ s q r x c, (queueOf (enterGolden s.dev) q).head = some x → planned s.dev q = true →
    acceptStatus (enterGolden s.dev) q x = none → leField x 0 1 = 0x30 → r = leField x 8 4 % 8192 → r ≠ q →
    cmdOf s.dev r = some c → c.ticket = leField x 8 4 → leField c.desc 0 1 = 0x04 →
    Completes (.kill q) s (fun t => cmdOf t q = none ∧ cmdOf t r = none ∧ (queueOf t q).head = none))

/-- O24. Starts that take units: a STEP has its step program and its pavilions, a SEQ_STEP the Step Builder, a SCRUB
fences and scrubs the named Glasshouses and clears their clusters, a GOLDEN_RUN runs its entry on its pavilion. -/
def Obligations.UnitStarts : Prop :=
  ∀ s q x, (queueOf (enterGolden s.dev) q).head = some x → planned s.dev q = true →
    acceptStatus (enterGolden s.dev) q x = none →
    (leField x 0 1 = 0x01 → Completes (.step q) s (fun t => ∃ r, stepOf t q = some r ∧ r.image = imageField x ∧
      r.prog = leField x 16 4 ∧ r.seed = leField x 24 8 ∧ r.started = false ∧ r.strict = strictMode s.dev ∧
      ∀ p ∈ bitsSet (progPavMask s.dev (imageField x) (leField x 16 4)) 8, rbit t (GH_STATUS p) 29 = true)) ∧
    (leField x 0 1 = 0x12 → Completes (.seqStep q) s (fun t => t.serve.serving = some { queue := q } ∧
      ∀ p ∈ bitsSet (progPavMask s.dev (imageField x) (leField x 16 4)) 8, rbit t (GH_STATUS p) 29 = true)) ∧
    (leField x 0 1 = 0x31 → Completes (.scrub q) s (fun t =>
      (cmdOf t q).map (·.scrubbing) = some (bitsSet (leField x 8 1) (pavCount s.dev)) ∧
      ∀ g ∈ bitsSet (leField x 8 1) (pavCount s.dev),
        rbit t (GH_STATUS g) 0 = true ∧ fenced t g = true ∧ rbit t (KS_STATUS g) 1 = true)) ∧
    (leField x 0 1 = 0x40 → leField x 8 1 < 8 → Completes (.goldenRun q) s (fun t =>
      (pavOf t (leField x 8 1)).golden = some { entry := leField x 12 4, slot := none } ∧
      rbit t (GH_STATUS (leField x 8 1)) 29 = true ∧
      ∀ i < goldenIn s.dev (leField x 12 4), 63488 + goldenIn s.dev (leField x 12 4) ≤ 65536 →
        rowBytes t (leField x 8 1) (63488 + i) = memBytes s.dev (goldenAddr s.dev (leField x 12 4) + 64 + i * 512) 512))

/-- O25. 07 R194: a shadow edit is recorded in EDIT_PENDING and waits; a live edit changes LEN at once and completes.
-/
def Obligations.PageEdits : Prop :=
  ∀ s q x, 16 ≤ q → q < 8192 → (queueOf (enterGolden s.dev) q).head = some x → (queueOf (enterGolden s.dev) q).belvHead = false →
    planned s.dev q = true → acceptStatus (enterGolden s.dev) q x = none → leField x 0 1 = 0x14 →
    (leField x 15 1 = 0 → Completes (.pageEditShadow q) s (fun t => bitOf (recFlags t (leField x 12 2)) 4 = true ∧
      q ∈ t.serve.waiting ∧ (cmdOf t q).map (·.desc) = some x)) ∧
    (leField x 15 1 = 1 → NotServing q s.dev →
      overlaps (recAddr s.dev (leField x 12 2)) 64 (completionAddr s.dev q) 32 = false →
      Completes (.pageEditLive q) s (fun t => recLen t (leField x 12 2) = leField x 16 4 ∧ cmdOf t q = none ∧
        q ∉ t.serve.waiting))

/-- O26. 10 R300 to R302: while passes run, an accepted LOOP_LOAD or LOOP_ARM waits for the pass boundary and changes
no loop slot, setpoint or arming bit yet. -/
def Obligations.LoopCommands : Prop :=
  ∀ s q x, (queueOf (enterGolden s.dev) q).head = some x → planned s.dev q = true →
    acceptStatus (enterGolden s.dev) q x = none → clocheRunning s.dev = true →
    (leField x 0 1 = 0x20 → leField x 8 1 = 0 → Completes (.loopLoad q) s (fun t =>
      t.cloche = { s.dev.cloche with updates := s.dev.cloche.updates ++ [.loops q (leField x 9 1) (loopRecords s.dev x)] } ∧
      t.regs = s.dev.regs)) ∧
    (leField x 0 1 = 0x20 → leField x 8 1 = 1 → Completes (.loopLoadSetpoints q) s (fun t =>
      t.cloche = { s.dev.cloche with
        updates := s.dev.cloche.updates ++ [.setpoints q (leField x 9 1) (loopRecords s.dev x)] } ∧ t.regs = s.dev.regs)) ∧
    (leField x 0 1 = 0x21 → leField x 16 1 = 1 → Completes (.loopArm q) s (fun t =>
      t.cloche = { s.dev.cloche with updates := s.dev.cloche.updates ++ [.arm q (leField x 8 8) true] } ∧
      t.regs = s.dev.regs)) ∧
    (leField x 0 1 = 0x21 → leField x 16 1 = 0 → Completes (.loopDisarm q) s (fun t =>
      t.cloche = { s.dev.cloche with updates := s.dev.cloche.updates ++ [.arm q (leField x 8 8) false] } ∧
      t.regs = s.dev.regs))

/-! Step programs (05 R133, R141 to R148). -/

/-- O27. A step program starts at its first beat, in Strict mode a beat of the refresh frame; a listed segment of a
Throughput step takes its pavilions, and where rebalancing finds no alternative free it waits for its head; a run of a
segment that is complete leaves its pavilions and is done, and another run of that segment stays. Log entries 36 and
38. -/
def Obligations.SegmentsRun : Prop :=
  (∀ s q r, stepOf s.dev q = some r → r.started = false → (∀ p ∈ ownedBy s.dev q, codeReady s.dev r p = true) →
    rbit s.dev GT_STATUS 2 = false → rbit s.dev GT_STATUS 3 = false →
    Completes (.stepStart q) s (fun t => t = { s.dev with comp := { s.dev.comp with steps := t.comp.steps } } ∧
      (∀ k, k ≠ q → stepOf t k = stepOf s.dev k) ∧
      ∃ b, stepOf t q = some { r with started := true, firstBeat := b } ∧
        if r.strict then b % 125 = 0 ∧ s.dev.clock.beat ≤ b ∧ b < s.dev.clock.beat + 125 else b = s.dev.clock.beat)) ∧
  (∀ s q seg r, stepOf s.dev q = some r → r.started = true → r.firstBeat ≤ s.dev.clock.beat → r.strict = false →
    rbit s.dev DEV_STATUS 2 = false → r.calls = [] → seg ∈ progSegs s.dev r.image r.prog →
    segListed s.dev r.image seg = true → seg ∉ r.listedDone → (∀ x ∈ r.segs, x.head ≠ some seg) →
    pavsFree s.dev (segPavMask s.dev r.image seg) = true → earlierDone s.dev r seg = true →
    segCount s.dev r.image seg 4 = 0 → Completes (.segmentStart q seg) s (fun t =>
      (∃ x, stepOf t q = some { r with segs := r.segs ++ [x] } ∧ x.seg = seg ∧ x.startBeat = s.dev.clock.beat ∧
        x.pavs = segPavMask s.dev r.image seg ∧ x.head = some seg ∧ x.id = s.dev.comp.nextJob ∧
        t.comp.nextJob = s.dev.comp.nextJob + 1) ∧
      (∀ p ∈ bitsSet (segPavMask s.dev r.image seg) 8, (pavOf t p).run = some (q, seg) ∧ (pavOf t p).next = 0 ∧
        (pavOf t p).ended = false ∧ rd t (PV_SEG_STATUS p) = 2 ^ 31 + seg % 2 ^ 16) ∧
      SameRegs ((List.range 8).map PV_SEG_STATUS) s.dev t ∧ t.mems = s.dev.mems)) ∧
  (∀ s q seg r, stepOf s.dev q = some r → r.started = true → r.firstBeat ≤ s.dev.clock.beat → r.strict = false →
    rbit s.dev DEV_STATUS 2 = true → r.calls = [] → listedStarts s.dev r seg = true →
    (seg ∉ r.headWait → (∀ a ∈ altChain s.dev r.image (progSegCount s.dev r.image r.prog) seg,
        pavsFree s.dev (segPavMask s.dev r.image a) = false) →
      Completes (.segmentStart q seg) s (fun t => stepOf t q = some { r with headWait := r.headWait ++ [seg] } ∧
        t = { s.dev with comp := { s.dev.comp with steps := t.comp.steps } })) ∧
    (seg ∈ r.headWait → pavsFree s.dev (segPavMask s.dev r.image seg) = false →
      Completes (.segmentStart q seg) s (fun t => (stepOf t q).map (·.segs) = some r.segs ∧ t.comp.pavs = s.dev.comp.pavs))) ∧
  (∀ s q seg st r, stepOf s.dev q = some st → st.segs.find? (fun x => x.seg == seg && segComplete s.dev st x) = some r →
    r.notify = none → r.caller = none → Completes (.segmentComplete q seg) s (fun t =>
      stepOf t q = some { st with segs := st.segs.filter (fun x => x.id != r.id)
                                  listedDone := st.listedDone ++ r.head.toList } ∧
      (∀ p ∈ bitsSet r.pavs 8, (pavOf t p).run = none ∧ rbit t (PV_SEG_STATUS p) 31 = false) ∧
      SameRegs ((List.range 8).map PV_SEG_STATUS) s.dev t ∧ t.mems = s.dev.mems))

/-- O28. 05 R143, R144: a step program whose listed segments are complete ends its command, frees its pavilions and
writes the completion; 1.25 times the worst-case time after its start, a segment of a Strict step overruns: the
command is ended, the pavilion is fenced, every pavilion of that run is marked, and source 65 latches. -/
def Obligations.StepEnds : Prop :=
  (∀ s q r c, 16 ≤ q → q < 8192 → stepOf s.dev q = some r → cmdOf s.dev q = some c → r.started = true → c.ending = false →
    allSegsDone s.dev r = true → endBeatOf s.dev r ≤ s.dev.clock.beat → leField c.desc 0 1 = 0x01 →
    bitOf (progFlags s.dev r.image r.prog) 1 = false → c.byBelvedere = false → rbit s.dev (CK_Q_CFG q) 5 = true →
    NotServing q s.dev → Completes (.stepEnd q) s (fun t => stepOf t q = none ∧
      (∀ p ∈ ownedBy s.dev q, rbit t (GH_STATUS p) 29 = false ∧ rbit t (KS_STATUS p) 29 = false) ∧
      (∃ k : Command, k = { c with flagged := c.flagged || reportedFlag s.dev (ownedBy s.dev q) } ∧
        Completed q k (execStatus k).1 (execStatus k).2.1 (execStatus k).2.2 (endBeatOf s.dev r) s.dev t) ∧
      SameBytesOutside (completionAddr s.dev q) 32 s.dev t)) ∧
  (∀ s q seg p st r c, stepOf s.dev q = some st → (pavOf s.dev p).run = some (q, seg) → runOn s.dev p = some r →
    cmdOf s.dev q = some c → p ∈ ownedBy s.dev q → st.strict = true → c.strictLost = false → c.ending = false →
    r.startTick ≤ nowTicks s.dev → 20 * segWcet s.dev st.image seg ≤ (nowTicks s.dev - r.startTick) * 16 →
    severityOf s.dev 65 = 1 → rbit s.dev BV_EPISODE 31 = false → Completes (.watchdogOverrun q seg p) s (fun t =>
      (cmdOf t q).map (·.overrun) = some (some seg) ∧ (cmdOf t q).map (·.ending) = some true ∧
      fenced t p = true ∧ rbit t (GH_STATUS p) 0 = true ∧ (∀ v ∈ bitsSet r.pavs 8, rbit t (PV_SEG_STATUS v) 30 = true) ∧
      t.belv.status.getLsbD 65 = true))

/-- O29. 05 R148: a write of DEV_MODE waits; once no command owns a pavilion it is in effect, and DEV_MODE_PEND falls.
On entry to Strict mode the islands go up to step 0, or wait for the rail (17 R467, R468). Log entry 73. -/
def Obligations.ModeChange : Prop :=
  (∀ s v, HostOk s.dev → (v.getLsbD 0 = false ∨ bitOf s.dev.hostif.featAccepted 4 = true) →
    Completes (.devModeWrite v) s (fun t => rd t DEV_MODE = v.toNat % 4 ∧ rbit t DEV_STATUS 3 = true ∧
      (∀ i < 32, i ≠ 3 → rbit t DEV_STATUS i = rbit s.dev DEV_STATUS i) ∧ OnlyRegs [DEV_MODE, DEV_STATUS] s.dev t)) ∧
  (∀ s v, HostOk s.dev → v.getLsbD 0 = true → bitOf s.dev.hostif.featAccepted 4 = false →
    Completes (.devModeWrite v) s (fun t => rbit t DEV_MODE 0 = rbit s.dev DEV_MODE 0 ∧ rbit t DEV_STATUS 3 = true ∧
      OnlyRegs [DEV_MODE, DEV_STATUS] s.dev t)) ∧
  (∀ s, rbit s.dev DEV_STATUS 3 = true → (∀ p < pavCount s.dev, rbit s.dev (GH_STATUS p) 29 = false) →
    rbit s.dev DEV_EVENT_EN 1 = false → Completes .modeApply s (fun t =>
      rbit t DEV_STATUS 1 = rbit s.dev DEV_MODE 0 ∧ rbit t DEV_STATUS 2 = rbit s.dev DEV_MODE 1 ∧
      rbit t DEV_STATUS 3 = false ∧ rbit t DEV_EVENT 1 = true ∧
      (rbit s.dev DEV_MODE 0 = true → rbit s.dev GT_CTRL 1 = false → s.dev.gate.avsStopped = false →
        ∀ n ∈ steppedDomains, rd t (GT_FREQ n) = 0) ∧
      (rbit s.dev DEV_MODE 0 = true → rbit s.dev GT_CTRL 1 = true → s.dev.gate.avsStopped = false →
        SameRegs [DEV_STATUS, DEV_EVENT] s.dev t ∧
        ∀ n ∈ steppedDomains, rd s.dev (GT_FREQ n) ≠ 0 → (n, 0) ∈ t.gate.rising) ∧
      (rbit s.dev DEV_MODE 0 = false → SameRegs [DEV_STATUS, DEV_EVENT] s.dev t ∧ t.gate = s.dev.gate) ∧
      t = { s.dev with regs := t.regs, gate := { s.dev.gate with rising := t.gate.rising, riseAt := t.gate.riseAt } }))

/-! Microcode (05 R129 to R132, R495; 02 R36 to R62). -/

/-- O30. The array instructions, at their AC in a Strict step (05 R130) and as soon as the stream stands at them
otherwise: TILE fills the shadow registers; STREAM swaps them in and puts an integer vector through all 256 columns;
ACC_INIT zeroes entries or takes them from rows; every other entry keeps its value. A row read with an uncorrectable
word withholds the command and is recorded (03 R87, R88). Log entries 30 and 93: the swap wave, and what the array
holds before a command writes it. -/
def Obligations.ArrayMicrocode : Prop :=
  (∀ s p m, AtOp s.dev p 1 m → Completes (.tile ⟨p, {}⟩) s (fun t => (pavOf t p).swapDue = true ∧
    (pavOf t p).active = (pavOf s.dev p).active ∧
    (pavOf t p).shadow = { wfmt := fieldOf m.ins.b 7 0, afmt := fieldOf m.ins.b 15 8, sparse := bitOf m.ins.b 16, rows := (List.range m.ins.n).map (fun i => rowBytes s.dev p ((m.ins.a + i) % 65536)) } ∧
    Issued p s.dev t ∧ t.regs = s.dev.regs ∧ t.mems = s.dev.mems ∧ ∀ k, k ≠ p → pavOf t k = pavOf s.dev k)) ∧
  (∀ s p m n w c, p < 8 → AtOp s.dev p 1 m → n ∈ rowRange m.ins.a m.ins.n → cmdOf s.dev m.q = some c →
    MinorAlone s.dev (8 + p) → sourceExists s.dev (8 + p) = true → Completes (.tile ⟨p, { ecc := [(n, .bad w)] }⟩) s (fun t =>
      (cmdOf t m.q).map (·.withheld) = some true ∧ Latched (8 + p) t ∧ rbit t (GH_ECC_ADDR p) 31 = true ∧
      fld t (GH_ECC_ADDR p) 15 0 = n ∧ fld t (GH_ECC_ADDR p) 21 16 = w % 64 ∧ Issued p s.dev t ∧ t.mems = s.dev.mems)) ∧
  (∀ s p m w, AtOp s.dev p 2 m →
    w = (if (pavOf s.dev p).swapDue then (pavOf s.dev p).shadow else (pavOf s.dev p).active) →
    Completes (.stream ⟨p, {}⟩) s (fun t => (pavOf t p).active = w ∧ (pavOf t p).swapDue = false ∧ Issued p s.dev t ∧
      t.mems = s.dev.mems ∧ SameRegs [PV_ARITH_FLAGS p] s.dev t ∧
      (m.ins.n = 1 → w.rows ≠ [] → fmtIsInt w.wfmt = true → ∀ j < 256,
        ((accOf t p (fieldOf m.ins.b 10 10) (fieldOf m.ins.b 9 0)).cols.getD j 0) =
          BitVec.ofInt 48 (((accOf s.dev p (fieldOf m.ins.b 10 10) (fieldOf m.ins.b 9 0)).cols.getD j 0).toInt +
            intColumn w (streamVector s.dev p w (fieldOf m.ins.a 15 0) (fieldOf m.ins.a 31 16) (fieldOf m.ins.b 31 16) 0) j)))) ∧
  (∀ s p m ev, AtOp s.dev p 3 m → m.ins.a = 0xFFFFFFFF → Completes (.accInit ⟨p, ev⟩) s (fun t =>
    (∀ k < m.ins.n, ∀ j < 256,
      (accOf t p (fieldOf m.ins.b 10 10) (fieldOf m.ins.b 9 0 + k)).cols.getD j 0 = 0) ∧
    (∀ e, (∀ k < m.ins.n, (fieldOf m.ins.b 9 0 + k) % 1024 ≠ e % 1024) →
      accOf t p (fieldOf m.ins.b 10 10) e = accOf s.dev p (fieldOf m.ins.b 10 10) e) ∧
    Issued p s.dev t ∧ SameRegs [] s.dev t ∧ t.mems = s.dev.mems)) ∧
  (∀ s p m, AtOp s.dev p 3 m → m.ins.a ≠ 0xFFFFFFFF → m.ins.n = 1 → bitOf m.ins.b 11 = false →
    Completes (.accInit ⟨p, {}⟩) s (fun t => ∀ j < 128,
      (accOf t p (fieldOf m.ins.b 10 10) (fieldOf m.ins.b 9 0)).cols.getD j 0 =
        (BitVec.ofNat 32 (leField (rowBytes s.dev p (m.ins.a % 65536)) (4 * j) 4)).signExtend 48))

/-- O31. The instructions that order: MOVE queues its descriptor, RELEASE raises REL, SIGNAL is noted and later
advances its fence by one, WAIT holds the stream until its fence is reached, END ends the stream. Log entry 35. -/
def Obligations.OrderingMicrocode : Prop :=
  (∀ s p m st, AtOp s.dev p 5 m → m.strict = true ∨ moverQueue s.dev p (m.ins.b % 2) = [] → stepOf s.dev m.q = some st →
    Completes (.move p) s (fun t => Issued p s.dev t ∧ t.comp.nextJob = s.dev.comp.nextJob + 1 ∧
      t.comp.jobs = s.dev.comp.jobs ++ [{ listedJob s.dev st m.seg m.ins.a with
        pav := p, mover := m.ins.b % 2, queue := m.q, seg := m.seg, run := m.run, id := s.dev.comp.nextJob }] ∧
      t.regs = s.dev.regs ∧ t.mems = s.dev.mems)) ∧
  (∀ s p m, AtOp s.dev p 6 m → m.ins.n ≤ sub32 (poolAcq s.dev p (fieldOf m.ins.b 3 0)) (poolRel s.dev p (fieldOf m.ins.b 3 0)) →
    Completes (.release p) s (fun t => Issued p s.dev t ∧ t.mems = s.dev.mems ∧
      poolRel t p (fieldOf m.ins.b 3 0) = (poolRel s.dev p (fieldOf m.ins.b 3 0) + m.ins.n) % 2 ^ 32 ∧
      SameRegs [GH_POOL_REL p (fieldOf m.ins.b 3 0)] s.dev t)) ∧
  (∀ s p m, AtOp s.dev p 7 m → Completes (.microcodeSignal p) s (fun t => Issued p s.dev t ∧
    (pavOf t p).signals = (pavOf s.dev p).signals ++ [(fieldOf m.ins.a 9 0, s.dev.comp.nextJob)] ∧
    t.regs = s.dev.regs ∧ t.mems = s.dev.mems)) ∧
  (∀ s p n limit rest, (pavOf s.dev p).signals = (n, limit) :: rest → streamJobs s.dev p limit = false →
    Completes (.signalFenceAdvance p) s (fun t => (pavOf t p).signals = rest ∧
      rd t (KS_FENCE p n) = (rd s.dev (KS_FENCE p n) + 1) % 2 ^ 32 ∧ SameRegs [KS_FENCE p n] s.dev t ∧
      t.mems = s.dev.mems)) ∧
  (∀ s p m, AtOp s.dev p 8 m → (m.strict = false ∨
      fenceReached s.dev (fieldOf m.ins.a 12 10) (fieldOf m.ins.a 9 0) m.ins.b = true) →
    Completes (.microcodeWait p) s (fun t => Issued p s.dev t ∧ t = { s.dev with comp := t.comp } ∧
      (pavOf t p).waiting = if fenceReached s.dev (fieldOf m.ins.a 12 10) (fieldOf m.ins.a 9 0) m.ins.b then none
        else some (fieldOf m.ins.a 12 10, fieldOf m.ins.a 9 0, m.ins.b))) ∧
  (∀ s p c n v, (pavOf s.dev p).waiting = some (c, n, v) → fenceReached s.dev c n v = true →
    Completes (.microcodeWaitRelease p) s (fun t => (pavOf t p).waiting = none ∧
      (pavOf t p).next = (pavOf s.dev p).next ∧ t = { s.dev with comp := t.comp })) ∧
  (∀ s p m, streamHead s.dev p = some m → m.ins.op = 0 → m.strict = false ∨ acTick m.startTick m.ins.ac ≤ nowTicks s.dev →
    (pavOf s.dev p).signals = [] → streamJobs s.dev p s.dev.comp.nextJob = false →
    Completes (.microcodeEnd p) s (fun t => (pavOf t p).ended = true ∧ streamPoint t p = none ∧
      t = { s.dev with comp := t.comp }))

/-- O32. The Hem functions on one item of vector registers, and rows written at once in a Throughput step and held by
the crossing in a Strict one (05 R137): conversion to a float format, requantisation by the parameters of the lane's
row, integer sum saturated, reduction lanes, NaN through the transcendental functions, the signature record of CRC,
and exact loads and stores of raw 32-bit lanes. Log entries 80, 90 and 101. -/
def Obligations.HemMicrocode : Prop :=
  (∀ s p m h ev, AtHem s.dev p 1 m h → m.ins.n = 1 → h.row = 2 ^ 32 - 1 → h.ctrl = 0 → fmtIsInt h.fmt = false →
    fmtMx h.fmt = false → h.fmt ≠ 0 → Completes (.convert ⟨p, ev⟩) s (fun t => Issued p s.dev t ∧ t.mems = s.dev.mems ∧
      SameRegs [PV_ARITH_FLAGS p] s.dev t ∧ ∀ c < 512, vlane t p h.dst c =
        encodeRne fp32 (decodeF (fmtElem h.fmt) (convertFloat (fmtElem h.fmt) false .rne
          (decodeF fp32 (encodeRne fp32 (decodeF fp32 (vlane s.dev p h.src c))))).1) % 2 ^ 32)) ∧
  (∀ s p m h, AtHem s.dev p 2 m h → m.ins.n = 1 → h.row = 2 ^ 32 - 1 → h.ctrl = 0 → fmtIsInt h.fmt = true →
    Completes (.requant ⟨p, {}⟩) s (fun t => Issued p s.dev t ∧ t.mems = s.dev.mems ∧ SameRegs [PV_ARITH_FLAGS p] s.dev t ∧
      ∀ c < 512, vlane t p h.dst c = patternOf 32 (satInt (fmtBits h.fmt)
        (requantize (reqParams s.dev p h c) none (signedOf 32 (vlane s.dev p h.src c))).1).1 % 2 ^ 32)) ∧
  (∀ s p m h ev, AtHem s.dev p 3 m h → m.ins.n = 1 → h.row = 2 ^ 32 - 1 → h.ctrl = 0 → h.sub = 0x10 →
    Completes (.element ⟨p, ev⟩) s (fun t => Issued p s.dev t ∧ t.mems = s.dev.mems ∧ SameRegs [PV_ARITH_FLAGS p] s.dev t ∧
      ∀ c < 512, vlane t p h.dst c = patternOf 32 (clampInt (-2 ^ 31) (2 ^ 31 - 1)
        (signedOf 32 (vlane s.dev p h.src c) + signedOf 32 (vlane s.dev p h.src2 c))))) ∧
  (∀ s p m h, AtHem s.dev p 4 m h → m.ins.n = 1 → h.ctrl = 0 → Completes (.reduce p) s (fun t => Issued p s.dev t ∧
    t.mems = s.dev.mems ∧ SameRegs [PV_ARITH_FLAGS p] s.dev t ∧ (∀ c, 2 ≤ c → vlane t p h.dst c = 0) ∧
    (h.sub ≠ 3 → vlane t p h.dst 1 = 0) ∧
    (∀ x, (∀ c < 512, vlane s.dev p h.src c = x) → h.sub = 1 → isNanF (decodeF fp32 x) = false →
      vlane t p h.dst 0 = encodeRne fp32 (decodeF fp32 x) % 2 ^ 32))) ∧
  (∀ s p m h ev, AtHem s.dev p 5 m h → m.ins.n = 1 → h.row = 2 ^ 32 - 1 → h.ctrl = 0 → h.sub ≤ 3 →
    Completes (.transc ⟨p, ev⟩) s (fun t => Issued p s.dev t ∧ t.mems = s.dev.mems ∧ SameRegs [PV_ARITH_FLAGS p] s.dev t ∧
      ∀ c < 512, isNanF (decodeF fp32 (vlane s.dev p h.src c)) = true → vlane t p h.dst c = fp32.nan)) ∧
  (∀ s p m h, AtHem s.dev p 6 m h → Completes (.crc ⟨p, {}⟩) s (fun t => Issued p s.dev t ∧ t.regs = s.dev.regs ∧
    t.mems = s.dev.mems ∧ ∃ r : SigRecord, t.comp.sigWire = s.dev.comp.sigWire ++ [r] ∧ r.queue = m.q ∧
      r.tensor = h.tensor ∧ r.length = m.ins.n * itemBytes h.fmt ∧
      r.crc = crc64 ((List.range m.ins.n).flatMap (fun v =>
        itemData h.fmt (readItem s.dev p h.row h.fmt m.ins.n v) ++ itemScales h.fmt (readItem s.dev p h.row h.fmt m.ins.n v))))) ∧
  (∀ s p m h, AtHem s.dev p 7 m h → m.ins.n = 1 → h.fmt = 0 → Completes (.loadv ⟨p, {}⟩) s (fun t => Issued p s.dev t ∧
    t.mems = s.dev.mems ∧ SameRegs [] s.dev t ∧ ∀ c < 512, vlane t p h.dst c =
      leField (rowBytes s.dev p (h.row + c / 128)) (c % 128 * 4) 4)) ∧
  (∀ s p m h, AtHem s.dev p 8 m h → m.ins.n = 1 → h.fmt = 0 → h.ctrl = 0 → h.row + 4 ≤ 65536 →
    signsTensor s.dev m.q h.tensor = false → mapShape s.dev m.q h.tensor = none →
    (m.strict = false → Completes (.storev ⟨p, {}⟩) s (fun t => Issued p s.dev t ∧ SameRegs [] s.dev t ∧
      (∀ i < 4, rowBytes t p (h.row + i) =
        (List.range 128).flatMap (fun c => leBytes 4 (vlane s.dev p h.src (128 * i + c)))) ∧
      SameBytesOutside (rowAddr p h.row) 2048 s.dev t)) ∧
    (m.strict = true → Completes (.storev ⟨p, {}⟩) s (fun t => Issued p s.dev t ∧ SameRegs [] s.dev t ∧ t.mems = s.dev.mems ∧
      t.comp.held = s.dev.comp.held ++ (List.range 4).map (fun i =>
        { sender := .hem p, dom := p, glass := p, row := h.row + i, queue := m.q, id := s.dev.comp.nextJob + i,
          beat := s.dev.clock.beat, data := (List.range 128).flatMap (fun c => leBytes 4 (vlane s.dev p h.src (128 * i + c))) }))))

/-- O33. 02 R51: the entry saturated to 32 bits plus the bias times the multiplier, over 2^(31 + s), is rounded, to
the nearest integer with ties to even or by the word of stochastic rounding, and then bounded; REQ_SAT says that a
bound changed it, ACC_SAT that the entry did not fit. -/
def Obligations.RequantisationRule : Prop :=
  ∀ (p : ReqParams) (entry : Int), ∃ a q : Int, a = max (-2 ^ 31) (min (2 ^ 31 - 1) entry) ∧ q = (a + p.b) * p.m ∧
    (∃ r : Int, 2 * (q - r * 2 ^ (31 + p.s)) ≤ 2 ^ (31 + p.s) ∧ -(2 ^ (31 + p.s)) ≤ 2 * (q - r * 2 ^ (31 + p.s)) ∧
      (2 * (q - r * 2 ^ (31 + p.s)) = 2 ^ (31 + p.s) ∨ 2 * (q - r * 2 ^ (31 + p.s)) = -(2 ^ (31 + p.s)) → r % 2 = 0) ∧
      requantize p none entry = (min (max r p.lo) p.hi,
        (if a ≠ entry then 0x02 else 0) ||| (if min (max r p.lo) p.hi ≠ r then 0x04 else 0))) ∧
    (∀ w : Nat, ∃ r : Int,
      r = q / 2 ^ (31 + p.s) + (if (w : Int) < q % 2 ^ (31 + p.s) * 2 ^ 32 / 2 ^ (31 + p.s) then 1 else 0) ∧
      requantize p (some w) entry = (min (max r p.lo) p.hi,
        (if a ≠ entry then 0x02 else 0) ||| (if min (max r p.lo) p.hi ≠ r then 0x04 else 0)))

/-- O34. 02 R50: conversion to an integer of 4 or 8 bits rounds the magnitude m * 2^e by the selected mode, to nearest
even or stochastically, and saturates, REQ_SAT saying that this changed it; NaN becomes 0 with NAN_IN, an infinity the
bound of its sign with REQ_SAT. -/
def Obligations.IntegerConversionRule : Prop :=
  ∀ n : Nat, n = 4 ∨ n = 8 →
    (∀ r, convertInt n r .nan = (0, 0x80) ∧ convertInt n r (.inf true) = (-2 ^ (n - 1), 0x04) ∧
      convertInt n r (.inf false) = (2 ^ (n - 1) - 1, 0x04)) ∧
    (∀ neg m e r, r = .rne ∨ (∃ w, r = .stochastic w) → ∃ k : Nat, ∃ v y : Int,
      v = (if neg = true then -(k : Int) else k) ∧ y = max (-2 ^ (n - 1)) (min (2 ^ (n - 1) - 1) v) ∧
      convertInt n r (.fin neg m e) = (y, if y ≠ v then 0x04 else 0) ∧
      (0 ≤ e → k = m * 2 ^ e.toNat) ∧
      (∀ s : Nat, e = -s → r = .rne → 2 * m ≤ 2 * k * 2 ^ s + 2 ^ s ∧ 2 * k * 2 ^ s ≤ 2 * m + 2 ^ s ∧
        (2 * m = 2 * k * 2 ^ s + 2 ^ s ∨ 2 * k * 2 ^ s = 2 * m + 2 ^ s → k % 2 = 0)) ∧
      (∀ s w : Nat, e = -s → r = .stochastic w →
        k = m / 2 ^ s + (if w < m % 2 ^ s * 2 ^ 32 / 2 ^ s then 1 else 0)))

/-! Credits, crossings, movers, scrub (03 R77 to R92; 05 R135 to R140). -/

/-- O35. The credit entries of a segment at their beat: OPEN sets the pool and clears its counters, ACQUIRE and
RELEASE add their rows, CLOSE closes the pool and the rows in flight through it; each is applied once. CREDIT_RETURN
shows the source port REL, and GH_POOL_FREE releases rows. -/
def Obligations.CreditEntries : Prop :=
  (∀ s q g st r e, stepOf s.dev q = some st → e = grantEntry s.dev st.image g →
    st.segs.find? (fun r => r.grantsLeft.contains g && beatReached s.dev (r.startBeat + e.beat)) = some r →
    (e.kind = 0 → Completes (.creditOpen q g) s (fun t =>
      rd t (GH_POOL_CFG e.target e.src) = e.base % 2 ^ 16 + e.count % 2 ^ 13 * 2 ^ 16 ∧ poolAcq t e.target e.src = 0 ∧
      poolRel t e.target e.src = 0 ∧ poolRelSeen t e.target e.src = 0 ∧ t.mems = s.dev.mems ∧
      SameRegs [GH_POOL_CFG e.target e.src, GH_POOL_ACQ e.target e.src, GH_POOL_REL e.target e.src] s.dev t ∧
      ∃ st', stepOf t q = some st' ∧ ∀ x ∈ st'.segs, x.id = r.id → g ∉ x.grantsLeft)) ∧
    (e.kind = 1 → canAcquire s.dev e.target e.src e.count = true → Completes (.creditAcquire q g) s (fun t =>
      poolAcq t e.target e.src = (poolAcq s.dev e.target e.src + e.count) % 2 ^ 32 ∧
      SameRegs [GH_POOL_ACQ e.target e.src] s.dev t ∧ t.mems = s.dev.mems)) ∧
    (e.kind = 2 → e.count ≤ sub32 (poolAcq s.dev e.target e.src) (poolRel s.dev e.target e.src) →
      Completes (.creditRelease q g) s (fun t =>
        poolRel t e.target e.src = (poolRel s.dev e.target e.src + e.count) % 2 ^ 32 ∧
        SameRegs [GH_POOL_REL e.target e.src] s.dev t ∧ t.mems = s.dev.mems)) ∧
    (e.kind = 3 → Completes (.creditClose q g) s (fun t => rd t (GH_POOL_CFG e.target e.src) = 0 ∧
      (∀ f ∈ t.comp.flights, f.target = e.target → f.source = e.src → f.poolClosed = true) ∧
      SameRegs [GH_POOL_CFG e.target e.src] s.dev t ∧ t.mems = s.dev.mems))) ∧
  (∀ s g src, strictMode s.dev = false → Completes (.creditReturn g src) s (fun t =>
    poolRelSeen t g src = poolRel s.dev g src ∧
    t = { s.dev with comp := { s.dev.comp with relSeen := t.comp.relSeen } })) ∧
  (∀ s g src v q, ownerOf s.dev g = some q → src < 11 → src ≠ g → 1 ≤ v.toNat % 2 ^ 13 → v.toNat % 2 ^ 13 ≤ 4096 →
    v.toNat % 2 ^ 13 ≤ sub32 (poolAcq s.dev g src) (poolRel s.dev g src) → Completes (.poolFreeWrite g src v) s (fun t =>
      poolRel t g src = (poolRel s.dev g src + v.toNat % 2 ^ 13) % 2 ^ 32 ∧ OnlyRegs [GH_POOL_REL g src] s.dev t))

/-- O36. Strict mode: a crossing entry raises the release offset in every run that has reached its beat; a crossing
into a Glasshouse holds a row of beat b until beat b + k and then puts it into its bank (05 R135, R137); an Icehouse
request is performed once its beats have passed; a refresh window closes its channel and no other; a power entry sets
its requester's grant. Log entries 95, 97 and 100. -/
def Obligations.StrictEntries : Prop :=
  (∀ s q c st a, stepOf s.dev q = some st → st.strict = true → a = crossAddr s.dev st.image c →
    Completes (.crossingEntry q c) s (fun t =>
      t = { s.dev with comp := { s.dev.comp with steps := t.comp.steps } } ∧ ∃ st', stepOf t q = some st' ∧
      st'.segs.map (·.id) = st.segs.map (·.id) ∧
      ∀ x ∈ st'.segs, c ∈ segList s.dev st.image x.seg 3 → x.startBeat + memNat s.dev (a + 4) 4 ≤ s.dev.clock.beat →
        tabFind (memNat s.dev a 1 * 256 + memNat s.dev (a + 1) 1) x.crossings = some (memNat s.dev (a + 2) 2))) ∧
  (∀ s g b meets, b + crossingOffset s.dev (24 + g) (8 + g) ≤ s.dev.clock.beat →
    (∀ r ∈ s.dev.comp.held, r.glass = g → r.beat = b → s.dev.clock.beat < b + crossingOffset s.dev r.dom (8 + g)) →
    Completes (.crossingRelease g ⟨b, meets⟩) s (fun t =>
      (∀ f ∈ t.comp.flights, f.target = g → f.beat = b → f.held = false) ∧
      t.comp.flights.map (·.data) = s.dev.comp.flights.map (·.data) ∧
      t = { s.dev with comp := { s.dev.comp with flights := t.comp.flights } })) ∧
  (∀ s g b r, s.dev.comp.held.filter (heldReleased s.dev g b) = [r] → r.data.length = 512 →
    Completes (.crossingRelease g ⟨b, []⟩) s (fun t => rowBytes t g r.row = r.data ∧
      SameBytesOutside (rowAddr g r.row) 512 s.dev t ∧ t.regs = s.dev.regs ∧
      t.comp.held = s.dev.comp.held.filter (fun x => !heldReleased s.dev g b x))) ∧
  (∀ s r, s.dev.comp.ice.find? (iceReleased s.dev) = some r →
    (∀ a bs, r.write = some [(a, bs)] → Completes (.icehouseReply {}) s (fun t => memBytes t a bs.length = bs ∧
      SameBytesOutside a bs.length s.dev t ∧ t.comp.ice = s.dev.comp.ice.filter (fun x => x.id != r.id) ∧
      t.regs = s.dev.regs ∧ ∀ id, r.sender = .mover id →
        t.comp.jobs = s.dev.comp.jobs.map (fun j => if j.id = id then { j with visible := j.visible + 1 } else j))) ∧
    (r.write = none → Completes (.icehouseReply {}) s (fun t =>
      rowBytes t (rowOf r.dest).1 (rowOf r.dest).2 = memBytes s.dev r.addr 512 ∧
      SameBytesOutside (rowAddr (rowOf r.dest).1 (rowOf r.dest).2) 512 s.dev t ∧
      t.comp.ice = s.dev.comp.ice.filter (fun x => x.id != r.id) ∧ t.regs = s.dev.regs))) ∧
  (∀ s i c, strictMode s.dev = true → i < iceCount s.dev → c < 16 → s.dev.clock.beat % 125 = (3 * c + 5 * i) % 125 →
    Completes (.refreshWindow i c) s (fun t => channelClosed t i c = true ∧
      (∀ k e, e < 16 → ¬ (k = i ∧ e = c) → channelClosed t k e = channelClosed s.dev k e) ∧
      t = { s.dev with comp := { s.dev.comp with windows := t.comp.windows } })) ∧
  (∀ s q g st a, stepOf s.dev q = some st → st.strict = true → a = powerAddr s.dev st.image g →
    Completes (.powerGrant q g) s (fun t =>
      t = { s.dev with comp := { s.dev.comp with steps := t.comp.steps } } ∧ ∃ st', stepOf t q = some st' ∧
      st'.segs.map (·.id) = st.segs.map (·.id) ∧
      ∀ x ∈ st'.segs, g ∈ segList s.dev st.image x.seg 6 → x.startBeat + memNat s.dev (a + 4) 4 ≤ s.dev.clock.beat →
        tabFind (memNat s.dev a 1) x.grants = some (memNat s.dev (a + 2) 2)))

/-- O37. Movers: in Throughput mode a row from DRAM into the own Glasshouse, a row of zeros, a row sent to another
Glasshouse on a credit acquired for it, a stall; in Strict mode a row waits for a slot of the entry that carries it
and leaves in it (05 R496); the arrival of a row; the end of a descriptor with NOTIFY. Log entries 82, 83, 95 and 99.
-/
def Obligations.Movers : Prop :=
  (∀ s p m j js off, moverQueue s.dev p m = j :: js → stepStrict s.dev j.queue = false → bitOf j.flags 1 = false →
    regionOf s.dev (jobRow j j.sent).2 = .glass p off → off % 512 = 0 →
    (bitOf j.flags 0 = false → regionOf s.dev (jobRow j j.sent).1 = .dram →
      Completes (.moverRowSend p m .clean {}) s (fun t =>
        rowBytes t p (off / 512) = memBytes s.dev (jobRow j j.sent).1 512 ∧
        SameBytesOutside (rowAddr p (off / 512)) 512 s.dev t ∧ t.regs = s.dev.regs)) ∧
    (bitOf j.flags 0 = true → Completes (.moverRowSend p m .clean {}) s (fun t =>
        rowBytes t p (off / 512) = List.replicate 512 0 ∧ SameBytesOutside (rowAddr p (off / 512)) 512 s.dev t ∧
        t.comp.jobs.map (fun k => (k.id, k.sent, k.visible)) = s.dev.comp.jobs.map (fun k =>
          if k.id = j.id then (k.id, k.sent + 1, k.visible + 1) else (k.id, k.sent, k.visible))))) ∧
  (∀ s p m j js g off, moverQueue s.dev p m = j :: js → stepStrict s.dev j.queue = false → j.flags % 4 = 3 →
    regionOf s.dev (jobRow j j.sent).2 = .glass g off → g ≠ p →
    (canAcquire s.dev g p 1 = true → holdsCredit (acquireRows g p 1 s.dev) g p (off / 512) = true →
      Completes (.moverRowSend p m .clean {}) s (fun t => t.mems = s.dev.mems ∧
        poolAcq t g p = (poolAcq s.dev g p + 1) % 2 ^ 32 ∧ SameRegs [GH_POOL_ACQ g p] s.dev t ∧
        t.comp.flights = s.dev.comp.flights ++ [{ sender := .mover j.id, source := p, target := g, row := off / 512, data := List.replicate 512 0, queue := j.queue, ticket := ticketNow s.dev j.queue, id := s.dev.comp.nextJob, beat := s.dev.clock.beat, held := false }])) ∧
    (canAcquire s.dev g p 1 = false → Completes (.moverRowSend p m .clean {}) s (fun t =>
      t = s.dev))) ∧
  (∀ s p m j js g off, moverQueue s.dev p m = j :: js → stepStrict s.dev j.queue = true → j.flags % 4 = 3 →
    regionOf s.dev (jobRow j j.sent).2 = .glass g off → g ≠ p →
    (carryNow s.dev j.queue j.run (m * 64 + p) (m * 64 + g) = .wait → Completes (.moverRowSend p m .clean {}) s (fun t =>
      t = s.dev)) ∧
    (∀ place hops, carryNow s.dev j.queue j.run (m * 64 + p) (m * 64 + g) = .slot place hops →
      canDraw s.dev g p 1 = true → holdsCredit (drawRows g p 1 s.dev) g p (off / 512) = true →
      Completes (.moverRowSend p m .clean {}) s (fun t => t.mems = s.dev.mems ∧ t.regs = s.dev.regs ∧
        t.comp.flights = s.dev.comp.flights ++ [{ sender := .mover j.id, source := p, target := g, row := off / 512, data := List.replicate 512 0, queue := j.queue, ticket := ticketNow s.dev j.queue, id := s.dev.comp.nextJob, beat := s.dev.clock.beat, held := true, due := s.dev.clock.beat + 4 + 2 * hops }]))) ∧
  (∀ s k r, (arrivingRows s.dev)[k]? = some r →
    (r.poolClosed = false → refusedAt s.dev r.target r.queue = false → inWindow s.dev r.target r.source r.row = true →
      r.data.length = 512 → Completes (.remoteRowArrival k .clean false) s (fun t => rowBytes t r.target r.row = r.data ∧
        SameBytesOutside (rowAddr r.target r.row) 512 s.dev t ∧ t.comp.flights = s.dev.comp.flights.erase r ∧
        t.regs = s.dev.regs)) ∧
    (r.poolClosed = true → r.target < 8 → MinorAlone s.dev 70 → Completes (.remoteRowArrival k .clean false) s (fun t =>
      rd t (GH_CREDIT_ERR r.target) = min (rd s.dev (GH_CREDIT_ERR r.target) + 1) 0xFFFFFFFF ∧
      t.mems.dev = s.dev.mems.dev ∧ t.comp.flights = s.dev.comp.flights.erase r ∧ t.belv.status.getLsbD 70 = true))) ∧
  (∀ s id j, s.dev.comp.jobs.find? (fun j => j.id == id) = some j → j.total ≤ j.sent → j.total ≤ j.visible →
    j.caller = none → Completes (.moverDescriptorComplete id) s (fun t =>
      t.comp.jobs = s.dev.comp.jobs.filter (fun k => k.id != id) ∧ t.mems = s.dev.mems ∧
      rd t (KS_FENCE j.pav j.tag) =
        (if bitOf j.flags 2 then (rd s.dev (KS_FENCE j.pav j.tag) + 1) % 2 ^ 32 else rd s.dev (KS_FENCE j.pav j.tag)) ∧
      SameRegs [KS_FENCE j.pav j.tag] s.dev t))

/-- O38. The end of a scrub zeroes every row and lifts the fence, a killed command then completes and its Glasshouse
is free; the end of a local clear zeroes the cluster's local memories. -/
def Obligations.ScrubEnds : Prop :=
  (∀ s g, g < 8 → rbit s.dev (GH_STATUS g) 0 = true → rbit s.dev (GH_STATUS g) 29 = false →
    rbit s.dev (KS_STATUS g) 1 = false → busyQueues s.dev = [] → Completes (.scrubComplete g) s (fun t =>
      (∀ x < 0x2000000, memRead 0 t.mems.dev (rowAddr g 0 + x) = 0) ∧ SameBytesOutside (rowAddr g 0) 0x2000000 s.dev t ∧
      rbit t (GH_STATUS g) 0 = false ∧ fenced t g = false ∧ SameRegs [GH_STATUS g] s.dev t)) ∧
  (∀ s g q c, g < 8 → rbit s.dev (GH_STATUS g) 0 = true → rbit s.dev (KS_STATUS g) 1 = false →
    ownerOf s.dev g = some q → cmdOf s.dev q = some c → c.ending = true → (∀ p ∈ ownedBy s.dev q, p = g) →
    Completes (.scrubComplete g) s (fun t => rbit t (GH_STATUS g) 29 = false ∧ fenced t g = false ∧ cmdOf t q = none)) ∧
  (∀ s g, g < 8 → rbit s.dev (KS_STATUS g) 1 = true → busyQueues s.dev = [] → Completes (.localClearComplete g) s (fun t =>
    (∀ c < 4, ∀ x < 0x20000, memRead 0 t.mems.dev (localAddr (4 * g + c) + x) = 0) ∧
    SameBytesOutside (localAddr (4 * g)) 0x100000 s.dev t ∧ rbit t (KS_STATUS g) 1 = false ∧
    SameRegs [KS_STATUS g] s.dev t))

/-! Kiosk threads (04 R95 to R119). -/

/-- O39. Threads: a start entry sets a thread's registers; ADDI, a double-word load and store, a row store, AMOADD, LR
and SC do what the base set says; ECALL and EBREAK are illegal; a load that waits receives its data; in Strict mode a
timed thread's DRAM store and a row store to the own Glasshouse become visible later; a fifth outstanding store, a
FENCE after a store and a KCALL wait (04 R103, R110). Log entries 32, 96 and 98. -/
def Obligations.ThreadInstructions : Prop :=
  (∀ s q i st e r p c k, stepOf s.dev q = some st → i < progThreadCount s.dev st.image st.prog →
    e = threadAddr s.dev st.image (progFirstThread s.dev st.image st.prog + i) →
    p = fieldOf (memNat s.dev e 1) 4 2 → c = fieldOf (memNat s.dev e 1) 1 0 → k = memNat s.dev (e + 1) 1 % 16 →
    st.segs.find? (fun r => r.seg == progFirstSeg s.dev st.image st.prog + memNat s.dev (e + 2) 2 &&
      !r.threadsStarted.contains i && beatReached s.dev (r.startBeat + memNat s.dev (e + 4) 2)) = some r →
    (threadOf s.dev p c k).running = false →
    owns s.dev q p = true → Completes (.threadStart q i) s (fun t =>
      (threadOf t p c k).running = true ∧ (threadOf t p c k).pc = memNat s.dev (e + 8) 4 ∧
      (threadOf t p c k).timed = bitOf (memNat s.dev (e + 1) 1) 7 ∧ (threadOf t p c k).queue = q ∧
      (∀ x, xreg (threadOf t p c k) x = if x = 10 then memNat s.dev (e + 12) 4 % 2 ^ 64
        else if x = 11 then localAddr (4 * p + c) % 2 ^ 64 else 0) ∧
      (threadOf t p c k).run = r.id ∧ (threadOf t p c k).calls = 0 ∧
      (∃ st', stepOf t q = some st' ∧ ∃ x ∈ st'.segs, x.id = r.id ∧ i ∈ x.threadsStarted) ∧ t.mems = s.dev.mems ∧ SameRegs [KS_THREADS p c] s.dev t)) ∧
  (∀ s p c ready k w len, IssuesWord s.dev p c ready k w len .plain →
    (iOp w = 0x13 → iF3 w = 0 → Completes (.kioskInstruction p c ready false) s (fun t =>
      WritesX (iRd w) (u64 ((xreg (threadOf s.dev p c k) (iRs1 w) : Int) + immI w)) (threadOf s.dev p c k) (threadOf t p c k) ∧
      WentOn len (threadOf s.dev p c k) (threadOf t p c k) ∧ t.mems = s.dev.mems ∧ SameRegs [KS_THREADS p c] s.dev t)) ∧
    (iOp w = 0x73 → iF3 w = 0 → c < 4 → rbit s.dev (KS_EXC_INFO p) 31 = false →
      Completes (.kioskInstruction p c ready false) s (fun t => (threadOf t p c k).running = false ∧
        rd t (KS_EXC_INFO p) = 2 ^ 31 + c * 2 ^ 10 + k % 16 * 2 ^ 6 + 2 ∧
        rd t (KS_EXC_PC p) = (threadOf s.dev p c k).pc % 2 ^ 19 ∧ t.mems.dev = s.dev.mems.dev ∧
        SameRegs [KS_THREADS p c, KS_EXC_INFO p, KS_EXC_PC p] s.dev t))) ∧
  (∀ s p c ready k w len, IssuesWord s.dev p c ready k w len .mem → iF3 w = 3 →
    (iOp w = 0x03 → scalarCauses s.dev p c (threadOf s.dev p c k) false (loadAddr (threadOf s.dev p c k) w) 8 = [] →
      Completes (.kioskLoadStore p c ready .clean) s (fun t => WentOn len (threadOf s.dev p c k) (threadOf t p c k) ∧
        t.mems = s.dev.mems ∧ SameRegs [KS_THREADS p c] s.dev t ∧
        (ownLocal s.dev p c (loadAddr (threadOf s.dev p c k) w) = true →
          WritesX (iRd w) (memNat s.dev (loadAddr (threadOf s.dev p c k) w) 8) (threadOf s.dev p c k) (threadOf t p c k)) ∧
        (ownLocal s.dev p c (loadAddr (threadOf s.dev p c k) w) = false → (threadOf t p c k).wait =
          .load w (loadDue s.dev p c (threadOf s.dev p c k) (accessRanges (threadOf s.dev p c k) w))))) ∧
    (iOp w = 0x23 → scalarCauses s.dev p c (threadOf s.dev p c k) true (storeAddr (threadOf s.dev p c k) w) 8 = [] →
      regionOf s.dev (storeAddr (threadOf s.dev p c k) w) = .dram →
      (timedStrict s.dev (threadOf s.dev p c k) = true → Completes (.kioskLoadStore p c ready .clean) s (fun t =>
        t.mems.dev = s.dev.mems.dev ∧ t.comp.ice = s.dev.comp.ice ++ [{ sender := .thread p c k, queue := (threadOf s.dev p c k).queue, id := s.dev.comp.nextJob, due := s.dev.clock.beat + 20, write := some [(storeAddr (threadOf s.dev p c k) w, leBytes 8 (xreg (threadOf s.dev p c k) (iRs2 w)))] }] ∧
        WentOn len (threadOf s.dev p c k) (threadOf t p c k))) ∧
      (timedStrict s.dev (threadOf s.dev p c k) = false → Completes (.kioskLoadStore p c ready .clean) s (fun t =>
        memBytes t (storeAddr (threadOf s.dev p c k) w) 8 = leBytes 8 (xreg (threadOf s.dev p c k) (iRs2 w)) ∧
        SameBytesOutside (storeAddr (threadOf s.dev p c k) w) 8 s.dev t ∧
        WentOn len (threadOf s.dev p c k) (threadOf t p c k) ∧ SameRegs [KS_THREADS p c] s.dev t)))) ∧
  (∀ s p c ready k w len vd off, IssuesWord s.dev p c ready k w len .row → iOp w = 0x27 →
    (vecAccess w (threadOf s.dev p c k)).isSome = true → rowForm w (threadOf s.dev p c k) = some vd →
    regionOf s.dev (xreg (threadOf s.dev p c k) (iRs1 w)) = .glass p off → off % 512 = 0 →
    reachable s.dev (threadOf s.dev p c k).queue p (xreg (threadOf s.dev p c k) (iRs1 w)) 512 true = true →
    (stepStrict s.dev (threadOf s.dev p c k).queue = false → Completes (.rowLoadStore p c ready false) s (fun t =>
      rowBytes t p (off / 512) = groupBytes (threadOf s.dev p c k) vd ∧
      SameBytesOutside (rowAddr p (off / 512)) 512 s.dev t ∧ WentOn len (threadOf s.dev p c k) (threadOf t p c k))) ∧
    (stepStrict s.dev (threadOf s.dev p c k).queue = true → Completes (.rowLoadStore p c ready false) s (fun t =>
      t.mems = s.dev.mems ∧ t.comp.held = s.dev.comp.held ++ [{ sender := .thread p c k, dom := 16 + p, glass := p, row := off / 512, data := groupBytes (threadOf s.dev p c k) vd, queue := (threadOf s.dev p c k).queue, id := s.dev.comp.nextJob, beat := s.dev.clock.beat }] ∧
      WentOn len (threadOf s.dev p c k) (threadOf t p c k)))) ∧
  (∀ s p c k w len, k < 16 → fetchAt s.dev p c (threadOf s.dev p c k).pc = .instr w len →
    (4 ≤ (storesOf s.dev (.thread p c k)).length → iOp w = 0x23 ∨ iOp w = 0x27 →
      Completes (.kioskLoadStore p c (2 ^ k) .clean) s (fun t => t = s.dev) ∧
      Completes (.rowLoadStore p c (2 ^ k) false) s (fun t => t = s.dev)) ∧
    (storesOf s.dev (.thread p c k) ≠ [] → iOp w = 0x0F → iF3 w = 0 → bitOf w 24 = true →
      Completes (.kioskInstruction p c (2 ^ k) false) s (fun t => t = s.dev)) ∧
    (storesOf s.dev (.thread p c k) ≠ [] → iOp w = 0x0B → iF7 w = 0 → iF3 w = 0 →
      Completes (.kcall p c ⟨(2 ^ k), .clean⟩) s (fun t => t = s.dev))) ∧
  (∀ s p c ready k w len a th, IssuesWord s.dev p c ready k w len .amo → iF3 w = 3 → th = threadOf s.dev p c k →
    a = xreg th (iRs1 w) → regionOf s.dev a = .dram →
    (fieldOf w 31 27 = 0 → scalarCauses s.dev p c th true a 8 = [] → Completes (.kioskAmo p c ready .clean) s (fun t =>
      memBytes t a 8 = leBytes 8 (memNat s.dev a 8 + xreg th (iRs2 w) % 2 ^ 64) ∧ SameBytesOutside a 8 s.dev t ∧
      WritesX (iRd w) (u64 (signedOf 64 (memNat s.dev a 8))) th (threadOf t p c k) ∧ WentOn len th (threadOf t p c k))) ∧
    (fieldOf w 31 27 = 2 → iRs2 w = 0 → scalarCauses s.dev p c th false a 8 = [] →
      Completes (.kioskAmo p c ready .clean) s (fun t => t.mems.dev = s.dev.mems.dev ∧
        t.mems.resv.filter (fun r => r.1 == p * 64 + c * 16 + k) = [(p * 64 + c * 16 + k, a / 64 * 64)] ∧
        WritesX (iRd w) (u64 (signedOf 64 (memNat s.dev a 8))) th (threadOf t p c k))) ∧
    (fieldOf w 31 27 = 3 → scalarCauses s.dev p c th true a 8 = [] → Completes (.kioskAmo p c ready .clean) s (fun t =>
      (∀ r ∈ t.mems.resv, r.1 ≠ p * 64 + c * 16 + k) ∧ WentOn len th (threadOf t p c k) ∧
      ((p * 64 + c * 16 + k, a / 64 * 64) ∈ s.dev.mems.resv → WritesX (iRd w) 0 th (threadOf t p c k) ∧
        memBytes t a 8 = leBytes 8 (xreg th (iRs2 w) % 2 ^ 64) ∧ SameBytesOutside a 8 s.dev t) ∧
      ((p * 64 + c * 16 + k, a / 64 * 64) ∉ s.dev.mems.resv → WritesX (iRd w) 1 th (threadOf t p c k) ∧
        t.mems.dev = s.dev.mems.dev)))) ∧
  (∀ s p c k w due, (threadOf s.dev p c k).wait = .load w due → due ≤ s.dev.clock.beat → iOp w = 0x03 → iF3 w = 3 →
    regionOf s.dev (loadAddr (threadOf s.dev p c k) w) = .dram → Completes (.loadReply p c k .clean false) s (fun t =>
      (threadOf t p c k).wait = .none ∧ (threadOf t p c k).pc = (threadOf s.dev p c k).pc ∧ t.mems = s.dev.mems ∧
      WritesX (iRd w) (memNat s.dev (loadAddr (threadOf s.dev p c k) w) 8) (threadOf s.dev p c k) (threadOf t p c k))) ∧
  (∀ s p c k, Completes (.reservationTimeout p c k) s (fun t => (∀ r ∈ t.mems.resv, r.1 ≠ p * 64 + c * 16 + k) ∧
    (∀ r ∈ s.dev.mems.resv, r.1 ≠ p * 64 + c * 16 + k → r ∈ t.mems.resv) ∧
    t = { s.dev with mems := { s.dev.mems with resv := t.mems.resv } }))

/-- O40. The custom instructions: accepted and refused pavilion calls, waiting for a fence and its end, credits, the
device fence, and the exit of a thread. Log entries 33 and 89. -/
def Obligations.ThreadCalls : Prop :=
  (∀ s p c ready k w len th a st, IssuesWord s.dev p c ready k w len (.custom 0) → th = threadOf s.dev p c k →
    a = xreg th (iRs1 w) → ownLocal s.dev p c a = true → reachable s.dev th.queue p a 32 false = true → a % 32 = 0 →
    stepOf s.dev th.queue = some st →
    (xreg th (iRs2 w) % 4 = 1 → (st.strict = false ∨ th.timed = true) →
      (moverCall s.dev p c k th.queue 0 th (memBytes s.dev a 32)).1 = [] → Completes (.kcall p c ⟨ready, .clean⟩) s (fun t =>
        WritesX (iRd w) 0 th (threadOf t p c k) ∧ (threadOf t p c k).calls = th.calls + 1 ∧
        t.comp.jobs = s.dev.comp.jobs ++ [{ (moverCall s.dev p c k th.queue 0 th (memBytes s.dev a 32)).2 with
          id := s.dev.comp.nextJob }] ∧ t.mems = s.dev.mems ∧ SameRegs [KS_THREADS p c] s.dev t)) ∧
    (xreg th (iRs2 w) % 4 = 0 → st.strict = false →
      (segmentCall s.dev th.queue st (p, c, k, th.id) (memBytes s.dev a 32)).1 = [] → Completes (.kcall p c ⟨ready, .clean⟩) s (fun t =>
        WritesX (iRd w) 0 th (threadOf t p c k) ∧ (threadOf t p c k).calls = th.calls + 1 ∧
        stepOf t th.queue =
          some { st with calls := st.calls ++ [(segmentCall s.dev th.queue st (p, c, k, th.id) (memBytes s.dev a 32)).2] })) ∧
    (xreg th (iRs2 w) % 4 = 3 → (st.strict = false ∨ th.timed = true) → Completes (.kcall p c ⟨ready, .clean⟩) s (fun t =>
      WritesX (iRd w) 1 th (threadOf t p c k) ∧ (threadOf t p c k).calls = th.calls ∧ t.comp.jobs = s.dev.comp.jobs ∧
      stepOf t th.queue = some st))) ∧
  (∀ s p c ready k w len th, IssuesWord s.dev p c ready k w len (.custom 1) → th = threadOf s.dev p c k →
    xreg th (iRs1 w) ≤ 1023 → Completes (.kwait p c ready) s (fun t => WentOn len th (threadOf t p c k) ∧
      t.mems = s.dev.mems ∧ SameRegs [KS_THREADS p c] s.dev t ∧
      (fenceReached s.dev p (xreg th (iRs1 w)) (xreg th (iRs2 w) % 2 ^ 32) = true →
        WritesX (iRd w) (rd s.dev (KS_FENCE p (xreg th (iRs1 w)))) th (threadOf t p c k)) ∧
      (fenceReached s.dev p (xreg th (iRs1 w)) (xreg th (iRs2 w) % 2 ^ 32) = false →
        (threadOf t p c k).wait = .fence (xreg th (iRs1 w)) (xreg th (iRs2 w) % 2 ^ 32) (iRd w)))) ∧
  (∀ s p c k n v x, (threadOf s.dev p c k).wait = .fence n v x → fenceReached s.dev p n v = true →
    Completes (.kwaitComplete p c k) s (fun t => (threadOf t p c k).wait = .none ∧ t.mems = s.dev.mems ∧
      WritesX x (rd s.dev (KS_FENCE p n)) (threadOf s.dev p c k) (threadOf t p c k) ∧ SameRegs [KS_THREADS p c] s.dev t)) ∧
  (∀ s p c ready k w len th g n strict, IssuesWord s.dev p c ready k w len (.custom 2) → th = threadOf s.dev p c k →
    p < 8 → c < 4 → g = xreg th (iRs1 w) → n = xreg th (iRs2 w) → strict = ((stepOf s.dev th.queue).map (·.strict)).getD false →
    (∀ code, kcredCode s.dev p th.queue th strict g n = some code → Completes (.kcred p c ready) s (fun t =>
      WritesX (iRd w) code th (threadOf t p c k) ∧ t.comp.drawn = s.dev.comp.drawn ∧ SameRegs [KS_THREADS p c] s.dev t)) ∧
    (kcredCode s.dev p th.queue th strict g n = none → strict = false →
      (canAcquire s.dev g p n = true → Completes (.kcred p c ready) s (fun t => WritesX (iRd w) 0 th (threadOf t p c k) ∧
        poolAcq t g p = (poolAcq s.dev g p + n) % 2 ^ 32)) ∧
      (canAcquire s.dev g p n = false → Completes (.kcred p c ready) s (fun t =>
        (threadOf t p c k).wait = .credit g n (iRd w) ∧ poolAcq t g p = poolAcq s.dev g p)))) ∧
  (∀ s p c k g n x, (threadOf s.dev p c k).wait = .credit g n x → canAcquire s.dev g p n = true → p < 8 → c < 4 → g < 8 →
    Completes (.kcredGranted p c k) s (fun t => (threadOf t p c k).wait = .none ∧
      WritesX x 0 (threadOf s.dev p c k) (threadOf t p c k) ∧ poolAcq t g p = (poolAcq s.dev g p + n) % 2 ^ 32)) ∧
  (∀ s p c ready k w len th, IssuesWord s.dev p c ready k w len (.custom 3) → th = threadOf s.dev p c k →
    Completes (.kdfence p c ready) s (fun t => WentOn len th (threadOf t p c k) ∧
      (th.calls = 0 → (threadOf t p c k).wait = th.wait) ∧ (th.calls ≠ 0 → (threadOf t p c k).wait = .calls) ∧
      t.mems = s.dev.mems)) ∧
  (∀ s p c k, (threadOf s.dev p c k).wait = .calls → (threadOf s.dev p c k).calls = 0 →
    Completes (.kdfenceComplete p c k) s (fun t => threadOf t p c k = { threadOf s.dev p c k with wait := .none } ∧
      t.mems = s.dev.mems)) ∧
  (∀ s p c ready k w len th, IssuesWord s.dev p c ready k w len (.custom 4) → th = threadOf s.dev p c k →
    Completes (.kexit p c ready) s (fun t => (threadOf t p c k).running = false ∧ t.mems.dev = s.dev.mems.dev ∧
      (xreg th (iRs1 w) = 0 → t.cloak = s.dev.cloak ∧ SameRegs [KS_THREADS p c] s.dev t) ∧
      (xreg th (iRs1 w) ≠ 0 → rd t (KS_EXIT_LAST p) = xreg th (iRs1 w) % 2 ^ 32 ∧
        ∀ m, cmdOf s.dev th.queue = some m → cmdOf t th.queue = some { m with flagged := true })))

/-- O41. The Kiosk watchdog, the code-set loader, and the reports of a thread on its inputs. -/
def Obligations.ClusterServices : Prop :=
  (∀ s p, p < pavCount s.dev → (clusterOf s.dev p).wdogStopped = false → Completes (.kioskWatchdogRefresh p) s (fun t =>
    (clusterOf t p).wdogCount = (clusterOf s.dev p).wdogCount + 1 ∧
    t = { s.dev with comp := { s.dev.comp with clusters := t.comp.clusters } })) ∧
  (∀ s p c k, p < pavCount s.dev → (clusterOf s.dev p).wdogStopped = false → k < 16 → threadReady s.dev p c 0xFFFF k = true →
    MinorAlone s.dev (16 + p) → Completes (.kioskWatchdogTimeout p c) s (fun t => (clusterOf t p).wdogStopped = true ∧
      t.belv.status.getLsbD (16 + p) = true ∧ t.mems.dev = s.dev.mems.dev)) ∧
  (∀ s p q st i, ownerOf s.dev p = some q → stepOf s.dev q = some st → codeSetFor s.dev st p = some i →
    codeReady s.dev st p = false → (clusterOf s.dev p).loading = none → Completes (.codeSetLoad p) s (fun t =>
      (clusterOf t p).loading = some (q, st.image, imageIdAt s.dev st.image, i) ∧ (clusterOf t p).codeSet = none ∧
      rbit t (KS_STATUS p) 2 = true ∧ t.mems = s.dev.mems ∧ SameRegs [KS_STATUS p] s.dev t)) ∧
  (∀ s p q img id i, (clusterOf s.dev p).loading = some (q, img, id, i) → Completes (.codeSetLoadComplete p) s (fun t =>
    (clusterOf t p).loading = none ∧ (clusterOf t p).codeSet = some (id, i) ∧ rbit t (KS_STATUS p) 2 = false ∧
    t.mems.dev = s.dev.mems.dev ∧ SameRegs [KS_STATUS p] s.dev t ∧
    ∀ x < memNat s.dev (codeAddr s.dev img i + 44) 4, memRead 0 t.mems.code (p * 0x100000 + 0x40000 + x) =
      memRead 0 s.dev.mems.dev (secAddr s.dev img 4 + memNat s.dev (codeAddr s.dev img i + 40) 4 + x))) ∧
  (∀ s p slot q m, ownerOf s.dev p = some q → cmdOf s.dev q = some m → Completes (.inputCorruptReport p slot) s (fun t =>
    t = { s.dev with cloak := t.cloak } ∧ cmdOf t q = some { m with corrupt := true, corruptSlot := if m.corruptWrites = 0 then slot % 2 ^ 16 else m.corruptSlot, corruptWrites := min (m.corruptWrites + 1) (2 ^ 32 - 1) })) ∧
  (∀ s p v q, ownerOf s.dev p = some q → p < 8 → MinorAlone s.dev 66 → Completes (.e2eReport p v) s (fun t =>
    t.belv.status.getLsbD 66 = true ∧ rbit t BV_EPISODE 31 = true ∧ fld t BV_EPISODE 22 16 = 66 ∧
    cmdOf t q = cmdOf s.dev q ∧ t.mems.dev = s.dev.mems.dev))

/-! The key-value pool (07 R183, R184, R200, R201, R207, R213). -/

/-- O42. Enabling where the ranges are good starts initialisation, else it is rejected; initialisation frees every
page and empties the tree; disabling works without sequences; a key word is written only while the tree is empty. Log
entry 42: the free list's order is free. -/
def Obligations.KvPool : Prop :=
  (∀ s v, HostOk s.dev → rbit s.dev CK_KV_CTRL 0 = false → Completes (.kvEnable v) s (fun t =>
    OnlyRegs [CK_KV_CTRL, CK_KV_STATUS] s.dev t ∧ rbit t CK_KV_CTRL 0 = kvRangesOk s.dev ∧
    (kvRangesOk s.dev = true → rbit t CK_KV_STATUS 1 = true ∧ rbit t CK_KV_STATUS 2 = rbit s.dev CK_KV_STATUS 2) ∧
    (kvRangesOk s.dev = false → rbit t CK_KV_STATUS 2 = true ∧ rbit t CK_KV_STATUS 1 = rbit s.dev CK_KV_STATUS 1))) ∧
  (∀ s v, HostOk s.dev → rbit s.dev CK_KV_CTRL 0 = true → anySequence s.dev = false → servingQueued s.dev = false →
    Completes (.kvDisable v) s (fun t => OnlyRegs [CK_KV_CTRL, CK_KV_STATUS] s.dev t ∧ rbit t CK_KV_CTRL 0 = false ∧
      kvReady t = false ∧ rbit t CK_KV_STATUS 1 = false)) ∧
  (∀ s v, HostOk s.dev → rbit s.dev CK_KV_CTRL 0 = true → anySequence s.dev = true →
    Completes (.kvDisable v) s (fun t => rbit t CK_KV_CTRL 0 = true ∧ rbit t CK_KV_STATUS 2 = true ∧
      kvReady t = kvReady s.dev)) ∧
  (∀ s, rbit s.dev CK_KV_STATUS 1 = true → kvPages s.dev ≤ 2621440 → Completes .kvInitComplete s (fun t =>
    freePages t = kvPages s.dev ∧ freeSwap t = rd s.dev CK_KV_SWAP_SLOTS ∧ rd t CK_PFX_NODES = 0 ∧ kvReady t = true ∧
    rbit t CK_KV_STATUS 1 = false ∧ t.serve = {} ∧ (∀ k < 1024, recFlags t k = 0) ∧
    (∀ n < kvPages s.dev, pageCount t n = 0) ∧
    SameRegs [CK_KV_FREE_PAGES, CK_KV_SWAP_FREE, CK_PFX_NODES, CK_KV_STATUS] s.dev t)) ∧
  (∀ s n v, HostOk s.dev → n < 4 → Completes (.prefixKeyWrite n v) s (fun t =>
    OnlyRegs [CK_PFX_KEY n, CK_KV_STATUS] s.dev t ∧
    (rd s.dev CK_PFX_NODES = 0 → rd t (CK_PFX_KEY n) = v.toNat ∧ rd t CK_KV_STATUS = rd s.dev CK_KV_STATUS) ∧
    (rd s.dev CK_PFX_NODES ≠ 0 → rd t (CK_PFX_KEY n) = rd s.dev (CK_PFX_KEY n) ∧ rbit t CK_KV_STATUS 2 = true)))

/-- O43. A key walk writes one row per token of the chunk, a value walk one row per value element, once its fence is
reached in a Throughput step; in a Strict step a walk issues at its AC whatever the fence, and its rows are held until
their beats (07 R201). The walk's end, once its last row is visible, advances the fence it names; a boundary retires
the sequence of a waiting SEQ_RETIRE and completes it. Log entries 35 and 86. -/
def Obligations.Walks : Prop :=
  (∀ s p q r run, nextWalk s.dev p = some (q, r) → runOn s.dev p = some run → (pavOf s.dev p).walking = none →
    stepStrict s.dev q = false → (bitOf r.flags 0 = false ∨ fenceReached s.dev p r.fence r.value = true) →
    (r.op = 0 → r.dest + r.chunkTokens ≤ 65536 → Completes (.keyWalk p {}) s (fun t =>
      (∀ k < r.chunkTokens, rowBytes t p (r.dest + k) = sliceBytes
        (tokenBytes s.dev r (sequenceRow s.dev p r) false (r.chunk * r.chunkTokens + k)) 0 512) ∧
      SameBytesOutside (rowAddr p r.dest) (512 * r.chunkTokens) s.dev t ∧
      (pavOf t p).walkNext = (pavOf s.dev p).walkNext + 1 ∧
      (pavOf t p).walking = some (if bitOf r.flags 1 then some r.fence else none) ∧ t.regs = s.dev.regs)) ∧
    (r.op = 1 → r.dest + r.kb / r.eb ≤ 65536 → Completes (.valueWalk p {}) s (fun t =>
      (∀ j < r.kb / r.eb, rowBytes t p (r.dest + j) = sliceBytes ((List.range r.chunkTokens).flatMap (fun k =>
        sliceBytes (tokenBytes s.dev r (sequenceRow s.dev p r) true (r.chunk * r.chunkTokens + k)) (j * r.eb) r.eb)) 0 512) ∧
      SameBytesOutside (rowAddr p r.dest) (512 * (r.kb / r.eb)) s.dev t ∧ t.regs = s.dev.regs))) ∧
  (∀ s p q r run, nextWalk s.dev p = some (q, r) → runOn s.dev p = some run → (pavOf s.dev p).walking = none →
    stepStrict s.dev q = true → ((cmdOf s.dev q).map (·.strictLost)).getD false = false →
    nowTicks s.dev = acTick run.startTick r.ac → r.op = 0 → Completes (.keyWalk p {}) s (fun t =>
      t.mems = s.dev.mems ∧ t.regs = s.dev.regs ∧ (pavOf t p).walkNext = (pavOf s.dev p).walkNext + 1 ∧
      ∃ rows : List HeldRow, t.comp.held = s.dev.comp.held ++ rows ∧ rows.length = r.chunkTokens ∧
        ∀ k (h : k < rows.length), rows[k].glass = p ∧ rows[k].row = r.dest + k ∧ rows[k].due = walkDue s.dev r k ∧
          rows[k].beat = s.dev.clock.beat ∧
          rows[k].data = tokenBytes s.dev r (sequenceRow s.dev p r) false (r.chunk * r.chunkTokens + k))) ∧
  (∀ s p f, (pavOf s.dev p).walking = some f → (∀ h ∈ s.dev.comp.held, h.sender ≠ .walker p) → Completes (.walkComplete p) s (fun t => (pavOf t p).walking = none ∧
    t.mems = s.dev.mems ∧ (f = none → t.regs = s.dev.regs) ∧
    (∀ n, f = some n → rd t (KS_FENCE p n) = (rd s.dev (KS_FENCE p n) + 1) % 2 ^ 32 ∧
      SameRegs [KS_FENCE p n] s.dev t))) ∧
  (∀ s q c k, s.dev.serve.serving = none → s.dev.serve.waiting = [q] → cmdOf s.dev q = some c →
    leField c.desc 0 1 = 0x11 → k = leField c.desc 12 2 → slotHolds s.dev k (leField c.desc 8 4) = true →
    Completes .stepBoundary s (fun t => (sbEntry t k).state = 0 ∧ cmdOf t q = none ∧ t.serve.waiting = [] ∧
      bitOf (recFlags t k) 0 = false))

/-! Cameras and the Drape (09 R257 to R293). -/

/-- O44. Packets of an enabled channel: a frame start opens a frame and counts it, a line of the stream's data type
advances it, one of another type is dropped and counted, embedded data is stored, a corrected header of a short packet
counts, a frame end or the end of high-speed mode closes a complete frame. -/
def Obligations.CameraPackets : Prop :=
  (∀ s r vc c, csiEnabled s.dev r vc = true → c = 4 * r + vc →
    (∀ x, rbit s.dev (DR_STREAM_CTRL c) 0 = true → openFrame s.dev c = none → (camStream s.dev c).wanted = none →
      (camStream s.dev c).desc = some x → sdReplay x = false → rbit s.dev (DR_STREAM_CTRL c) 1 = false →
      storeBusy s.dev c ((rd s.dev (DR_FRAME_COUNT c) + 1) % 2 ^ 32) = false → Completes (.frameStart r vc .clean) s (fun t =>
        rd t (DR_FRAME_COUNT c) = (rd s.dev (DR_FRAME_COUNT c) + 1) % 2 ^ 32 ∧ rbit t (DR_STREAM_STATUS c) 0 = true ∧
        t.mems = s.dev.mems ∧ SameRegs [DR_FRAME_COUNT c, DR_STREAM_STATUS c] s.dev t ∧
        ∃ f, openFrame t c = some f ∧ f.count = (rd s.dev (DR_FRAME_COUNT c) + 1) % 2 ^ 32 ∧ f.desc = x ∧ f.lines = 0 ∧
          f.ns = nowNs s.dev ∧ f.frac = rd s.dev CT_FRAC ∧ f.slot = rd s.dev DR_SLOT ∧
          f.unauth = (headState s.dev c != 2))) ∧
    (∀ f dt codes, rbit s.dev (DR_STREAM_CTRL c) 0 = true → openFrame s.dev c = some f →
      (dt = leField f.desc 1 1 → f.lines < sdHeight f.desc → codes.length = sdWidth f.desc →
        Completes (.linePacket r vc dt .clean false codes) s (fun t => t.regs = s.dev.regs ∧
          (openFrame t c).map (·.lines) = some (f.lines + 1) ∧ t.mems.host = s.dev.mems.host)) ∧
      (dt ≠ leField f.desc 1 1 → Completes (.linePacket r vc dt .clean false codes) s (fun t =>
        rd t (CSI_DT_DROP r) = min (rd s.dev (CSI_DT_DROP r) + 1) 0xFFFFFFFF ∧ SameRegs [CSI_DT_DROP r] s.dev t ∧
        openFrame t c = some f ∧ t.mems = s.dev.mems))) ∧
    (∀ f bytes, rbit s.dev (DR_STREAM_CTRL c) 0 = true → openFrame s.dev c = some f → sdEmbed f.desc = true →
      f.embedded + bytes.length ≤ sdEmbedBytes f.desc → Completes (.embeddedDataPacket r vc .clean false bytes) s (fun t =>
        memBytes t (sdEmbedDst f.desc + f.embedded) bytes.length = bytes ∧
        SameBytesOutside (sdEmbedDst f.desc + f.embedded) bytes.length s.dev t ∧
        (openFrame t c).map (·.embedded) = some (f.embedded + bytes.length) ∧ t.regs = s.dev.regs)) ∧
    Completes (.shortPacket r vc .corrected) s (fun t =>
      rd t (CSI_ECC_CORR r) = min (rd s.dev (CSI_ECC_CORR r) + 1) 0xFFFFFFFF ∧ SameRegs [CSI_ECC_CORR r] s.dev t ∧
      openFrame t c = openFrame s.dev c ∧ t.mems = s.dev.mems) ∧
    (∀ f, openFrame s.dev c = some f → f.lines = sdHeight f.desc → Completes (.frameEnd r vc .clean) s (fun t =>
      openFrame t c = none ∧ rbit t (DR_STREAM_STATUS c) 0 = false ∧ t.mems = s.dev.mems ∧
      SameRegs [DR_STREAM_STATUS c] s.dev t))) ∧
  (∀ s r, r < 8 → (∀ vc < 4, ∀ f, openFrame s.dev (4 * r + vc) = some f → f.lines = sdHeight f.desc) →
    Completes (.hsExit r) s (fun t => (∀ vc < 4, openFrame t (4 * r + vc) = none) ∧ t.mems = s.dev.mems ∧
      SameRegs ((List.range 4).map (fun vc => DR_STREAM_STATUS (4 * r + vc))) s.dev t))

/-- O45. The registers of a stream; a stripe of the only frame of an engine is written with its tag, or waits where
its next row into a Glasshouse has no credit; once HOLD_US microseconds have passed, and not before, its view goes to
FALLBACK (09 R274); a set that times out is recorded; a corrupt sample of the replay ring is taken as a corrupt frame.
Log entries 62 and 63. -/
def Obligations.DrapeFrames : Prop :=
  (∀ s c v, HostOk s.dev → c < 32 → Completes (.streamDescWrite c v) s (fun t =>
    (camStream t c).wanted = some (rd s.dev (DR_STREAM_DESC_LO c) + v.toNat % 2 ^ 16 * 2 ^ 32) ∧
    rbit t (DR_STREAM_STATUS c) 1 = true ∧ SameRegs [DR_STREAM_STATUS c] s.dev t ∧ t.mems = s.dev.mems) ∧
    Completes (.replayTailWrite c v) s (fun t => rd t (DR_REPLAY_TAIL c) = v.toNat % 2 ^ 12 ∧
      OnlyRegs [DR_REPLAY_TAIL c] s.dev t) ∧
    (rbit s.dev (DR_STREAM_CTRL c) 0 = false → Completes (.streamEnable c v) s (fun t =>
      rbit t (DR_STREAM_CTRL c) 0 = true ∧ rd t (DR_FRAME_COUNT c) = 0 ∧ (headOf t c).opSince = some s.dev.clock.beat ∧
      SameRegs [DR_STREAM_CTRL c, DR_FRAME_COUNT c] s.dev t ∧ t.mems = s.dev.mems))) ∧
  (∀ s c f w k, c < 32 → s.dev.drape.streams.map (·.1) = [c] → (camStream s.dev c).frames = [f] → sdViews f.desc = 1 →
    w = viewDesc s.dev f.desc 0 → k = f.next.getD 0 0 → stripeReady s.dev f 0 = true → intoGlass f 0 w = false →
    inSets s.dev c = false → f.closed = false → ∀ meets, Completes (.stripeWrite ⟨c / 16, meets⟩) s (fun t => t.regs = s.dev.regs ∧
      (∃ g, (camStream t c).frames = [g] ∧ g.next.getD 0 0 = k + 1 ∧ g.flags = f.flags ||| tagFlags s.dev c 0 f) ∧
      (openDram s.dev (tagAddr f w k) 32 = true → ∃ crc, memBytes t (tagAddr f w k) 32 =
        sliceBytes (tagBytes s.dev c 0 k (tagFlags s.dev c 0 f) crc f) 0 32))) ∧
  (∀ s c f w n, c < 32 → s.dev.drape.streams.map (·.1) = [c] → (camStream s.dev c).frames = [f] → sdViews f.desc = 1 →
    w = viewDesc s.dev f.desc 0 → stripeReady s.dev f 0 = true → intoGlass f 0 w = true →
    rowCredit s.dev c (viewGlass w) = false → Completes (.stripeWrite ⟨c / 16, []⟩) s (fun t =>
      t = { s.dev with drape := t.drape } ∧ ∃ g, (camStream t c).frames = [g] ∧ g.next = f.next ∧ g.rows = f.rows ∧
        g.redirected = f.redirected ∧ (f.waits = [] → g.waits = [(0, s.dev.clock.beat)]) ∧
        (f.waits = [(0, n)] → g.waits = [(0, n)]))) ∧
  (∀ s c v, (∀ f b n, (camStream s.dev c).frames.find? (fun f => stripeReady s.dev f v && stripeBlocked s.dev c f v) = some f →
      tabFind v f.waits = some b → n = leField (viewDesc s.dev f.desc v) 42 2 → b + n * 25 ≤ s.dev.clock.beat →
      Completes (.holdTimeout c v) s (fun t => t = { s.dev with drape := t.drape } ∧
        ∀ x ∈ (camStream t c).frames, x.order = f.order → v ∈ x.redirected)) ∧
    ((∀ f ∈ (camStream s.dev c).frames, ∀ b, tabFind v f.waits = some b →
        s.dev.clock.beat < b + leField (viewDesc s.dev f.desc v) 42 2 * 25) →
      Completes (.holdTimeout c v) s (fun t => t = s.dev))) ∧
  (∀ s slot x a, frameSetOf s.dev slot = some x → ¬ passedBy (nowNs s.dev) x.ns < (fld s.dev DR_SET_CFG 15 0 * 1000 : Nat) →
    a = rd s.dev DR_SET_RING_LO + fld s.dev DR_SET_RING_HI 15 0 * 2 ^ 32 + rd s.dev DR_SET_HEAD * 16 →
    openDram s.dev a 16 = true → Completes (.setTimeout slot) s (fun t => frameSetOf t slot = none ∧
      memBytes t a 16 = leBytes 4 x.slot ++ leBytes 4 x.present ++ leBytes 4 x.flagged ++ leBytes 4 x.ns ∧
      SameBytesOutside a 16 s.dev t ∧
      rd t DR_SET_HEAD = (rd s.dev DR_SET_HEAD + 1) % max 1 (rd s.dev DR_SET_RING_LEN) % 2 ^ 32 ∧
      rd t (CK_SEM (fld s.dev DR_SET_CFG 27 16)) = (rd s.dev (CK_SEM (fld s.dev DR_SET_CFG 27 16)) + 1) % 2 ^ 32 ∧
      SameRegs [DR_SET_HEAD, CK_SEM (fld s.dev DR_SET_CFG 27 16)] s.dev t)) ∧
  (∀ s c x n r h, c < 32 → rbit s.dev (DR_STREAM_CTRL c) 0 = true → rbit s.dev (DR_STREAM_CTRL c) 1 = false →
    (camStream s.dev c).frames = [] → (camStream s.dev c).wanted = none → (camStream s.dev c).taken = [] →
    (camStream s.dev c).desc = some x → sdReplay x = true → n = sdEntries x → 2 ≤ n →
    rd s.dev (DR_REPLAY_TAIL c) % n ≠ rd s.dev (DR_REPLAY_HEAD c) % n →
    r = memBytes s.dev (sdRing x + rd s.dev (DR_REPLAY_HEAD c) % n * 96) 96 → h = memBytes s.dev (leField r 0 8) 64 →
    fieldOf (leField h 0 8) 62 0 = leField r 8 8 → bitOf (leField h 0 8) 63 = true →
    Completes (.replayReadyPoll c 0) s (fun t =>
      rd t (DR_FRAME_COUNT c) = (rd s.dev (DR_FRAME_COUNT c) + 1) % 2 ^ 32 ∧
      rd t (DR_REPLAY_HEAD c) = (rd s.dev (DR_REPLAY_HEAD c) + 1) % n % 2 ^ 32 ∧
      ∃ f, (camStream t c).frames = [f] ∧ f.corrupt = true ∧ f.closed = true ∧ f.replay = some r ∧ f.desc = x))

/-- O46. Sensor heads: a head that does not answer is absent; a record that fails a check makes HEAD_STATE FAILED with
its cause, a good one is challenged; the response decides; a response that does not come fails; the life counters go
on while the serial holds; a changed serial returns the head to PENDING; a lock asks for rechecks. Log entries 8 and
65. -/
def Obligations.SensorHeads : Prop :=
  (∀ s c, c < 32 → lodgeUp s.dev = true → Completes (.headAuthentication c none) s (fun t => headState t c = 0 ∧
    (headOf t c).challenge = none ∧ t.mems.host = s.dev.mems.host ∧ t.fuses = s.dev.fuses)) ∧
  (∀ s c r h ok, c < 32 → lodgeUp s.dev = true → MinorAlone s.dev 67 → h = sliceBytes r 0 0x280 →
    ok = (sliceBytes h 0 4 == ascii "WHRD" && leField h 4 2 == 1 && leField h 0x10 4 == crc32c (sliceBytes h 0x20 0x90) &&
      certValid s.dev h && leField h 0x120 8 == leField h 8 8) →
    Completes (.headAuthentication c (some r)) s (fun t => (headOf t c).record = h ∧
      (headOf t c).challenge.isSome = ok ∧
      headState t c = (if ok then (if headState s.dev c = 2 then 2 else 1) else 3) ∧
      (ok = false → t.belv.status.getLsbD 67 = true ∧
        (sliceBytes h 0 4 ≠ ascii "WHRD" → fld t (DR_STREAM_STATUS c) 11 8 = 1)))) ∧
  (∀ s c x sig, c < 32 → lodgeUp s.dev = true → MinorAlone s.dev 67 → (headOf s.dev c).challenge = some x →
    Completes (.headResponse c sig) s (fun t => (headOf t c).challenge = none ∧ headState t c =
      if edVerify (sliceBytes (headOf s.dev c).record 0x100 32)
        (ascii "WHCH" ++ x ++ sliceBytes (headOf s.dev c).record 8 8) (sliceBytes sig 0 64) then 2 else 3) ∧
    Completes (.headResponseTimeout c) s (fun t => (headOf t c).challenge = none ∧ headState t c = 3 ∧
      fld t (DR_STREAM_STATUS c) 11 8 = 5)) ∧
  (∀ s c x, c < 32 → lodgeUp s.dev = true → headState s.dev c = 2 → (headOf s.dev c).serial = some x →
    (rbit (settleQuarters c s.dev) (DR_STREAM_STATUS c) 6 = false → Completes (.lifeUpdate c (some x)) s (fun t =>
      headOf t c = lifeWrite (headOf (settleQuarters c s.dev) c) ∧ headState t c = 2)) ∧
    (∀ y, y ≠ x → Completes (.lifeUpdate c (some y)) s (fun t => headState t c = 1 ∧
      rbit t (DR_STREAM_STATUS c) 5 = true))) ∧
  (∀ s c temp, c < 32 → lodgeUp s.dev = true → headState s.dev c = 2 → (headOf s.dev c).cold = true →
    signedOf 16 (leField (headOf s.dev c).record 0x1CC 2) ≤ temp → Completes (.temperaturePoll c temp) s (fun t =>
      (headOf t c).thermal = min ((headOf s.dev c).thermal + 1) (2 ^ 32 - 1) ∧ (headOf t c).cold = false ∧
      headState t c = 2)) ∧
  (∀ s r, isReady s.dev = true → r < 8 → rbit s.dev (CSI_CTRL r) 0 = true → rbit s.dev (CSI_STATUS r) 0 = false →
    Completes (.lockedRise r) s (fun t => rbit t (CSI_STATUS r) 0 = true ∧
      (∀ v < 4, (headOf t (4 * r + v)).recheck = true) ∧ SameRegs [CSI_STATUS r] s.dev t ∧ t.mems = s.dev.mems)) ∧
  (∀ s c x, c < 32 → lodgeUp s.dev = true → (headOf s.dev c).recheck = true → (headOf s.dev c).serial = some x →
    Completes (.serialRecheck c (some x)) s (fun t => headOf t c = { headOf s.dev c with recheck := false } ∧
      t.regs = s.dev.regs ∧ t.mems = s.dev.mems) ∧
    ∀ y, y ≠ x → Completes (.serialRecheck c (some y)) s (fun t => headState t c = 1 ∧ (headOf t c).recheck = false ∧
      (headOf t c).meshed = false ∧ rbit t (DR_STREAM_STATUS c) 5 = true))

/-! The Cloche (10 R294 to R313). -/

/-- O47. Enabling starts the passes at CL_CYCLE_START; a disable waits for the end of a pass, which stops them;
boundary k occurs once the counter reaches it and starts the converters and transfers it triggers (11 R322, R328); a
pass ends 2,048 cycles after its start, not before, and serves the boundaries latched at its start; over no armed loop
it shows the safe values, over a fresh armed loop its result, each head and stage read in its own cycles; a stale run
raises source 58. How the counter of a cycle is taken is the model's choice (Assumption 50). Log entry 50: how a pass
of 2,048 cycles is one command. -/
def Obligations.ClochePasses : Prop :=
  (∀ s v, HostOk s.dev → clocheRunning s.dev = false → rbit s.dev CL_CTRL 0 = false → Completes (.clocheEnable v) s (fun t =>
    rbit t CL_CTRL 0 = true ∧ clocheRunning t = true ∧ rd t CL_PASS_COUNT = 0 ∧ t.cloche.next = rd s.dev CL_CYCLE_START ∧
    t.cloche.k = 0 ∧ t.cloche.occurred = [] ∧ t.cloche.due = [] ∧ t.cloche.passStart = nowTicks s.dev ∧ t.mems = s.dev.mems ∧ SameRegs [CL_CTRL, CL_STATUS, CL_PASS_COUNT] s.dev t)) ∧
  (∀ s v, HostOk s.dev → clocheRunning s.dev = true → Completes (.clocheDisable v) s (fun t =>
    t = { s.dev with cloche := { s.dev.cloche with
      updates := s.dev.cloche.updates ++ [.write CL_CTRL (putBit v.toNat 0 false)] } })) ∧
  (∀ s, clocheRunning s.dev = true → s.dev.cloche.k ≠ 0 → 0 ≤ passedBy (nowNs s.dev) s.dev.cloche.next →
    passedBy (nowNs s.dev) (s.dev.cloche.next + s.dev.cloche.cycleNs / s.dev.cloche.sub) < 0 →
    Completes .subPeriodBoundary s (fun t => t.cloche.occurred = s.dev.cloche.occurred ++ [s.dev.cloche.k] ∧
      t.cloche.next = (s.dev.cloche.next + s.dev.cloche.cycleNs / s.dev.cloche.sub) % 2 ^ 32 ∧
      t.cloche.k = (s.dev.cloche.k + 1) % s.dev.cloche.sub ∧ t.mems = s.dev.mems ∧
      SameRegs ((List.range 2).map (fun a => SN_ADC_OVR a) ++ (List.range 4).map (fun m => SN_SPI_DROP m)) s.dev t ∧
      (∀ a < 2, rbit s.dev SN_CTRL a = true → rbit s.dev SN_CTRL 2 = false → fld s.dev (SN_ADC_CFG a) 1 0 = 1 →
        (adcOf s.dev a).running = false → adcOf t a = { running := true, slot := 0 }) ∧
      (∀ m < 4, ∀ k < 4, rbit s.dev SN_CTRL (16 + m) = true → rbit s.dev (SN_SPI_XFER m k) 31 = true →
        fld s.dev (SN_SPI_XFER m k) 29 28 = 0 → (∀ j < 4, j ≠ k → fld s.dev (SN_SPI_XFER m j) 29 28 ≠ 0) →
        (spiOf s.dev m).running = none → (spiOf s.dev m).waiting = [] → (spiOf t m).running = some k))) ∧
  (∀ s errs, s.dev.cloche.passStart + 5120 > nowTicks s.dev → Completes (.clochePass errs) s (fun t => t = s.dev)) ∧
  (∀ s, passOver s.dev = true → s.dev.cloche.slots = [] → (∀ f < 16, rbit s.dev (CL_FRAME_CFG f) 31 = false) →
    (s.dev.cloche.updates = [] → Completes (.clochePass []) s (fun t =>
      rd t CL_PASS_COUNT = (rd s.dev CL_PASS_COUNT + 1) % 2 ^ 32 ∧ t.cloche.occurred = [] ∧
      t.cloche.due = s.dev.cloche.occurred ∧ t.cloche.passStart = nowTicks s.dev ∧
      (∀ o < 32, fld t (CL_OUT o) 15 0 = fld s.dev (CL_SAFE o) 15 0 ∧ rbit t (CL_OUT o) 30 = true) ∧
      SameRegs (CL_PASS_COUNT :: (List.range 32).map (fun o => CL_OUT o)) s.dev t ∧ t.mems = s.dev.mems)) ∧
    (∀ w, bitOf w 0 = false → s.dev.cloche.updates = [.write CL_CTRL w] → Completes (.clochePass []) s (fun t =>
      clocheRunning t = false ∧ rbit t CL_CTRL 0 = false ∧ t.cloche.updates = []))) ∧
  (∀ s n x k e, n < 64 → passOver s.dev = true → s.dev.cloche.slots = [(n, x)] → slotArmed s.dev n = true →
    s.dev.cloche.due = [k] → k % loopDiv x.record = 0 → s.dev.cloche.updates = [] →
    (∀ f < 16, rbit s.dev (CL_FRAME_CFG f) 31 = false) → loopOut x.record < 32 →
    loopStale (readAt (headCycle n) s.dev) x.record = false → e = loopEval s.dev n x → Completes (.clochePass []) s (fun t =>
      (slotOf t n).result = some e.result ∧ (slotOf t n).staleRun = 0 ∧
      rbit t (if n < 32 then CL_STALE_LO else CL_STALE_HI) (n % 32) = false ∧
      rbit t (if n < 32 then CL_SAT_LO else CL_SAT_HI) (n % 32) = e.sat ∧
      fld t (CL_OUT (loopOut x.record)) 15 0 = patternOf 16 e.result.1 ∧
      rbit t (CL_OUT (loopOut x.record)) 30 = false ∧ t.mems = s.dev.mems)) ∧
  (∀ s n, n < 64 → (slotOf s.dev n).staleDue = true → MinorAlone s.dev 58 → Completes (.staleLimit n) s (fun t =>
    (slotOf t n).staleDue = false ∧ Latched 58 t ∧ t.mems = s.dev.mems))

/-- O48. A frame is enabled with its alive counter at zero; a pass emits an enabled frame with alive counter and CRC
in its last three bytes; a finished frame goes to its Ethernet queue, where it replaces a newer queued one, or to its
CAN buffer. Log entry 54. -/
def Obligations.ClocheFrames : Prop :=
  (∀ s f v, HostOk s.dev → f < 16 → clocheRunning s.dev = false → rbit s.dev (CL_FRAME_CFG f) 31 = false →
    Completes (.frameEnable f v) s (fun t => rbit t (CL_FRAME_CFG f) 31 = true ∧ rd t (CL_FRAME_CNT f) = 0 ∧
      OnlyRegs [CL_FRAME_CFG f, CL_FRAME_CNT f] s.dev t)) ∧
  (∀ s f k, f < 16 → passOver s.dev = true → s.dev.cloche.slots = [] → s.dev.cloche.due = [k] →
    s.dev.cloche.updates = [] → rbit s.dev (CL_FRAME_CFG f) 31 = true →
    (∀ g < 16, g ≠ f → rbit s.dev (CL_FRAME_CFG g) 31 = false) → k % fld s.dev (CL_FRAME_CFG f) 24 17 = 0 →
    frameConfigOk s.dev f = true → f ∉ s.dev.cloche.badFrames → Completes (.clochePass []) s (fun t =>
      fld t (CL_FRAME_CNT f) 7 0 = (fld s.dev (CL_FRAME_CNT f) 7 0 + 1) % 256 ∧ t.mems = s.dev.mems ∧
      ∃ x, t.cloche.frames = s.dev.cloche.frames ++ [x] ∧ x.frame = f ∧ x.bytes.length = frameLen s.dev f ∧
        x.ethernet = rbit s.dev (CL_FRAME_CFG f) 30 ∧ x.dest = fld s.dev (CL_FRAME_CFG f) 29 27 ∧
        leField x.bytes (frameLen s.dev f - 3) 1 = fld s.dev (CL_FRAME_CNT f) 7 0 ∧
        beNat (sliceBytes x.bytes (frameLen s.dev f - 2) 2) =
          crc16 0xFFFF (leBytes 2 (fld s.dev (CL_FRAME_ID f) 15 0) ++ x.bytes.take (frameLen s.dev f - 2)))) ∧
  (∀ s n f, s.dev.cloche.frames.find? (fun f => f.frame == n) = some f →
    (f.ethernet = true → (ethOf s.dev f.dest).cloche.length < 2 → Completes (.frameDelivery n) s (fun t =>
      (ethOf t f.dest).cloche = (ethOf s.dev f.dest).cloche ++ [f.bytes] ∧ t.cloche.frames = s.dev.cloche.frames.erase f ∧
      t.regs = s.dev.regs ∧ t.mems = s.dev.mems)) ∧
    (∀ a b, f.ethernet = true → (ethOf s.dev f.dest).cloche = [a, b] → Completes (.frameDelivery n) s (fun t =>
      (ethOf t f.dest).cloche = [a, f.bytes] ∧
      rd t CL_TX_REPLACED = min (rd s.dev CL_TX_REPLACED + 1) 0xFFFFFFFF ∧ SameRegs [CL_TX_REPLACED] s.dev t)) ∧
    (f.ethernet = false → f.dest < 8 → f.buf < 3 → txState s.dev f.dest f.buf ≠ 1 → txState s.dev f.dest f.buf ≠ 2 →
      Completes (.frameDelivery n) s (fun t => rd t (CAN_RAM f.dest (txWord f.buf)) = f.canId % 2 ^ 32 ∧
        txState t f.dest f.buf = (if txElementOk t f.dest f.buf then 1 else 6) ∧
        t.cloche.frames = s.dev.cloche.frames.erase f ∧ t.mems = s.dev.mems ∧
        SameRegs ([CAN_TXB_STAT f.dest f.buf, CAN_TXREQ f.dest] ++
          (List.range 20).map (fun i => CAN_RAM f.dest (txWord f.buf + i))) s.dev t)))

/-! The sensing front end (11 R318 to R331). -/

/-- O49. Converters: continuous mode starts an idle converter, a TT_OUT pulse starts one that selects it and is
counted at a busy one (the sub-period boundary does so in another statement); a slot ends with the rounded mean of its
conversions, each floor(V * 65,536 / 1.8 V) clamped to 65,535 (11 R321) where the converter shows no deviation, fed to
every routed entry; a route is adopted or refused, its entry invalid at once. Log entries 55 and 91: which triggers
are rows, and the deviation that a converter shows. -/
def Obligations.Converters : Prop :=
  (∀ s a, a < 2 → rbit s.dev SN_CTRL a = true → rbit s.dev SN_CTRL 2 = false →
    (fld s.dev (SN_ADC_CFG a) 1 0 = 0 → (adcOf s.dev a).running = false → Completes (.adcTrigger a) s (fun t =>
      t = { s.dev with sense := t.sense } ∧ adcOf t a = { running := true, slot := 0 })) ∧
    (∀ n < 4, fld s.dev (SN_ADC_CFG a) 1 0 = 2 → fld s.dev (SN_ADC_CFG a) 3 2 = n → ttEdgeDue s.dev n = true →
      Completes (.ttOutEdge n) s (fun t =>
        ((adcOf s.dev a).running = false → adcOf t a = { running := true, slot := 0 }) ∧
        ((adcOf s.dev a).running = true → adcOf t a = adcOf s.dev a ∧
          rd t (SN_ADC_OVR a) = min (rd s.dev (SN_ADC_OVR a) + 1) 0xFFFFFFFF)))) ∧
  (∀ s a v, a < 2 → (adcOf s.dev a).running = true → (adcOf s.dev a).slot < 16 →
    fld s.dev (SN_ADC_SEQ a (adcOf s.dev a).slot) 6 4 = 0 →
    Completes (.adcSlotComplete a [{ inputs := List.replicate 16 v }]) s (fun t =>
      (rd t (SN_ADC_LAST a (adcOf s.dev a).slot) : Int) = max 0 (min 65535 (v * 65536 / 1800000000)))) ∧
  (∀ s a i samples raw, a < 2 → i < 16 → (adcOf s.dev a).running = true → (adcOf s.dev a).slot = i →
    raw = adcMean (fld s.dev (SN_ADC_SEQ a i) 3 0) samples (fld s.dev (SN_ADC_SEQ a i) 6 4) →
    Completes (.adcSlotComplete a samples) s (fun t =>
      rd t (SN_ADC_LAST a i) = raw ∧ Fed 1 (a * 16 + i) raw s.dev t ∧
      (i < fld s.dev (SN_ADC_CFG a) 11 8 → adcOf t a = { running := true, slot := i + 1 }) ∧
      (fld s.dev (SN_ADC_CFG a) 11 8 ≤ i → rbit s.dev SN_CTRL 2 = false → fld s.dev (SN_ADC_CFG a) 1 0 ≠ 0 → adcOf t a = {}) ∧
      t.mems = s.dev.mems ∧ SameRegs (SN_ADC_LAST a i :: SN_ADC_OVR 0 :: SN_ADC_OVR 1 :: clipRegs) s.dev t)) ∧
  (∀ s n v, HostOk s.dev → n < 128 → Completes (.routeWrite n v) s (fun t =>
    (inputOf t n).valid = false ∧ (inputOf t n).stamp = nowNs s.dev ∧ t.mems = s.dev.mems ∧
    SameRegs [SN_ROUTE n, SN_STATUS] s.dev t ∧
    ((bitOf v.toNat 31 = false ∨ routeOk (fieldOf v.toNat 15 12) (fieldOf v.toNat 11 0) = true) →
      rbit t (SN_ROUTE n) 31 = bitOf v.toNat 31 ∧ fld t (SN_ROUTE n) 15 0 = fieldOf v.toNat 15 0 ∧
      rd t SN_STATUS = rd s.dev SN_STATUS) ∧
    (bitOf v.toNat 31 = true → routeOk (fieldOf v.toNat 15 12) (fieldOf v.toNat 11 0) = false →
      rd t (SN_ROUTE n) = rd s.dev (SN_ROUTE n) ∧ rbit t SN_STATUS 0 = true)))

/-- O50. SENT, SPI and capture: a good frame feeds its fast channels, a bad one is counted; a silent receiver
invalidates its entries; a transfer starts on an idle master, is dropped where it is already under way, and ends with
its fields; an edge counts and gives the period; a silent capture input reads the longest period. Log entries 40, 56
and 91. -/
def Obligations.Receivers : Prop :=
  (∀ s j cal0 pulses lens cal ticks data, j < 8 → rbit s.dev SN_CTRL (8 + j) = true → lens = sentLengths cal0 pulses →
    cal = lens.headD 0 → cal ≠ 0 → ticks = (if lens.length = fld s.dev (SN_SENT_CFG j) 13 11 + 4 then
      lens.tail.take (fld s.dev (SN_SENT_CFG j) 13 11 + 2) else lens.tail).map (sentTicks cal) →
    data = ((ticks.map (fun t => t - 12)).drop 1).take (fld s.dev (SN_SENT_CFG j) 13 11) →
    (sentFrameOk s.dev j cal ticks = true → fld s.dev (SN_SENT_CFG j) 21 20 = 0 → Completes (.sentFrame j cal0 pulses) s (fun t =>
      rd t (SN_SENT_STATUS j) = (ticks.map (fun t => t - 12)).headD 0 ∧ (sentOf t j).lastCal = some cal ∧
      (sentOf t j).since = nowTicks s.dev ∧ (sentOf t j).expired = false ∧ t.mems = s.dev.mems ∧
      (data.take (fld s.dev (SN_SENT_CFG j) 16 14) ≠ [] →
        Fed 2 j (nibblesValue (data.take (fld s.dev (SN_SENT_CFG j) 16 14))) s.dev t) ∧
      SameRegs (SN_SENT_STATUS j :: SN_SENT_FC1 j :: SN_SENT_FC2 j :: clipRegs) s.dev t)) ∧
    (sentFrameOk s.dev j cal ticks = false → Completes (.sentFrame j cal0 pulses) s (fun t =>
      rd t (SN_SENT_ERR j) = min (rd s.dev (SN_SENT_ERR j) + 1) 0xFFFFFFFF ∧ SameRegs [SN_SENT_ERR j] s.dev t ∧
      t.cloche = s.dev.cloche ∧ t.mems = s.dev.mems))) ∧
  (∀ s j, j < 8 → rbit s.dev SN_CTRL (8 + j) = true → fld s.dev (SN_SENT_TIMEOUT j) 15 0 ≠ 0 →
    (sentOf s.dev j).expired = false → MinorAlone s.dev 71 →
    500 * fld s.dev (SN_SENT_TIMEOUT j) 15 0 ≤ nowTicks s.dev - (sentOf s.dev j).since → Completes (.sentTimeout j) s (fun t =>
      rbit t (SN_SENT_STATUS j) 4 = true ∧ (sentOf t j).expired = true ∧ Latched 71 t ∧
      ∀ n ∈ routedEntries s.dev 2 j ++ routedEntries s.dev 3 j, (inputOf t n).valid = false ∧ (inputOf t n).stamp = nowNs s.dev)) ∧
  (∀ s m k, m < 4 → k < 4 → rbit s.dev SN_CTRL (16 + m) = true → rbit s.dev (SN_SPI_XFER m k) 31 = true →
    fld s.dev (SN_SPI_XFER m k) 29 28 = 1 →
    ((spiOf s.dev m).running = none → (spiOf s.dev m).waiting = [] → Completes (.spiTrigger m k) s (fun t =>
      t = { s.dev with sense := t.sense } ∧ (spiOf t m).running = some k ∧ (spiOf t m).waiting = [] ∧
      (spiOf t m).cs = some (fld s.dev (SN_SPI_XFER m k) 30 30))) ∧
    ((spiOf s.dev m).running = some k → Completes (.spiTrigger m k) s (fun t =>
      rd t (SN_SPI_DROP m) = min (rd s.dev (SN_SPI_DROP m) + 1) 0xFFFFFFFF ∧ OnlyRegs [SN_SPI_DROP m] s.dev t))) ∧
  (∀ s m k rx, m < 4 → (spiOf s.dev m).running = some k → k < 4 → (spiOf s.dev m).waiting = [] →
    (k < 3 → fld s.dev (SN_SPI_XFER m (k + 1)) 29 28 ≠ 3) → fld s.dev (SN_SPI_XFER m k) 15 8 = 0 →
    Completes (.spiTransferComplete m rx) s (fun t => (spiOf t m).running = none ∧ (spiOf t m).cs = none ∧
      t.mems = s.dev.mems ∧
      ∀ f < 16, rbit s.dev (SN_SPI_FIELD m f) 31 = true → fld s.dev (SN_SPI_FIELD m f) 15 14 = k →
        spiFieldFits s.dev m (rd s.dev (SN_SPI_FIELD m f)) = true →
        rd t (SN_SPI_VAL m f) = patternOf 32 (spiField (rd s.dev (SN_SPI_FIELD m f)) (sliceBytes rx 0 (spiLen s.dev m k))) ∧
        Fed 5 (m * 16 + f) (spiField (rd s.dev (SN_SPI_FIELD m f)) (sliceBytes rx 0 (spiLen s.dev m k))) s.dev t)) ∧
  (∀ s c rising level, c < 8 → rbit s.dev SN_CTRL (24 + c) = true →
    edgeQualifies (fld s.dev (SN_CAP_CFG c) 1 0) (fld s.dev (SN_CAP_CFG c) 31 24) rising level = true →
    Completes (.captureEdge c rising level) s (fun t => rd t (SN_CAP_COUNT c) = (rd s.dev (SN_CAP_COUNT c) + 1) % 2 ^ 32 ∧
      (capOf t c).prev = some (nowNs s.dev) ∧ (capOf t c).since = some (nowTicks s.dev) ∧ t.mems = s.dev.mems ∧
      (∀ p, (capOf s.dev c).prev = some p →
        rd t (SN_CAP_PERIOD c) = min ((nowNs s.dev + 2 ^ 32 - p) % 2 ^ 32) 0x7FFFFFFF) ∧
      ((capOf s.dev c).prev = none → rd t (SN_CAP_PERIOD c) = rd s.dev (SN_CAP_PERIOD c)) ∧
      SameRegs (SN_CAP_COUNT c :: SN_CAP_PERIOD c :: clipRegs) s.dev t)) ∧
  (∀ s c b, c < 8 → (capOf s.dev c).since = some b → rbit s.dev SN_CTRL (24 + c) = true →
    500000 * fld s.dev (SN_CAP_CFG c) 23 8 ≤ nowTicks s.dev - b → Completes (.captureTimeout c) s (fun t =>
      rd t (SN_CAP_PERIOD c) = 0x7FFFFFFF ∧ capOf t c = {} ∧ Fed 6 c 0x7FFFFFFF s.dev t ∧ Fed 7 c 0 s.dev t ∧
      SameRegs (SN_CAP_PERIOD c :: clipRegs) s.dev t))

/-! The CAN FD controllers (12 R333 to R356). -/

/-- A received frame lies in receive FIFO `n` of controller `c`, its CTRL word `ctrl`, its time stamp `ns`. -/
def Sys2Proof.Machine.InFifo (c n : Nat) (f : CanFrame) (ctrl ns : Nat) (d t : Device) : Prop :=
  let at_ := (if n = 0 then 0x120 else 0x3A0) + 20 * ((fld d (rxqStat c n) 4 0 + fld d (rxqStat c n) 13 8) % 32)
  rd t (CAN_RAM c at_) = f.id % 2 ^ 32 ∧ rd t (CAN_RAM c (at_ + 1)) = ctrl % 2 ^ 32 ∧ rd t (CAN_RAM c (at_ + 2)) = ns % 2 ^ 32 ∧
    fld t (rxqStat c n) 13 8 = fld d (rxqStat c n) 13 8 + 1 ∧ rbit t (CAN_IR c) (3 * n) = true ∧
    ∀ w < 2048, ¬ (at_ ≤ w ∧ w < at_ + 20) → rd t (CAN_RAM c w) = rd d (CAN_RAM c w)

/-- O51. A controller is enabled where its bit timing is usable; a mode or disable takes effect at bus idle; a
received frame is stored by the first matching filter or the default, or lost at a full FIFO; elements are released;
errors count; a controller that waits for 11 recessive bits takes no part in a frame. Log entries 41, 60 and 92. -/
def Obligations.CanReceive : Prop :=
  (∀ s c v, HostOk s.dev → c < 8 → rbit s.dev (CAN_CTRL c) 0 = false → (canOf s.dev c).running = false →
    bitOf v.toNat 7 = false → Completes (.canEnable c v) s (fun t => (canOf t c).running = timingOk s.dev c ∧
      rbit t (CAN_CTRL c) 0 = timingOk s.dev c ∧ (canOf t c).mode = fieldOf v.toNat 3 2 ∧
      (timingOk s.dev c = false → rbit t (CAN_STATUS c) 10 = true) ∧
      SameRegs [CAN_CTRL c, CAN_STATUS c] s.dev t ∧ t.mems = s.dev.mems)) ∧
  (∀ s c, c < 8 → (canOf s.dev c).running = true → (canOf s.dev c).attempt = none → Completes (.canModeChange c) s (fun t =>
    (canOf t c).mode = fld s.dev (CAN_CTRL c) 3 2 ∧ (canOf t c).running = rbit s.dev (CAN_CTRL c) 0 ∧
    (rbit s.dev (CAN_CTRL c) 0 = true → t.regs = s.dev.regs) ∧
    (rbit s.dev (CAN_CTRL c) 0 = false → rbit t (CAN_STATUS c) 0 = false ∧
      ∀ b < 3, txPending t c b = false ∧ (txPending s.dev c b = true → txState t c b = 5)))) ∧
  (∀ s c f ago bads k, c < 8 → (canOf s.dev c).running = true → canWaits s.dev c ago = true →
    Completes (.canFrameReceived c f ago bads k) s (fun t => t = s.dev)) ∧
  (∀ s c f ago ns, c < 8 → (canOf s.dev c).running = true → (canOf s.dev c).mode = 0 → (canOf s.dev c).rxErr = 0 →
    canWaits s.dev c ago = false → rbit s.dev (CAN_STATUS c) 3 = false → rbit s.dev (CAN_TT_STATUS c) 0 = false →
    ns = canStamp s.dev ago / 2 ^ 32 →
    ((List.range 128).find? (fun j => filterMatches s.dev c j f.id) = none →
      (∀ n < 2, fld s.dev (CAN_RX_CFG c) 1 0 = n → fld s.dev (rxqStat c n) 13 8 < 32 →
        Completes (.canFrameReceived c f ago [] 0) s (fun t => InFifo c n f (rxCtrl f 0 true false) ns s.dev t ∧
          rbit t (CAN_STATUS c) 0 = true ∧ t.mems = s.dev.mems)) ∧
      (2 ≤ fld s.dev (CAN_RX_CFG c) 1 0 → Completes (.canFrameReceived c f ago [] 0) s (fun t =>
        rbit t (CAN_STATUS c) 0 = true ∧ SameRegs [CAN_STATUS c] s.dev t ∧
        canOf t c = { canOf s.dev c with waitFrom := none }))) ∧
    (∀ j, (List.range 128).find? (fun j => filterMatches s.dev c j f.id) = some j →
      (∀ n < 2, fld s.dev (CAN_RAM c (2 * j + 1)) 31 30 = n → fld s.dev (rxqStat c n) 13 8 < 32 →
        Completes (.canFrameReceived c f ago [] 0) s (fun t => InFifo c n f (rxCtrl f j false false) ns s.dev t)) ∧
      (∀ n < 2, fld s.dev (CAN_RAM c (2 * j + 1)) 31 30 = n → fld s.dev (rxqStat c n) 13 8 = 32 →
        Completes (.canFrameReceived c f ago [] 0) s (fun t =>
          fld t (rxqStat c n) 31 24 = min 255 (fld s.dev (rxqStat c n) 31 24 + 1) ∧
          rbit t (CAN_IR c) (3 * n + 2) = true ∧ ∀ w < 2048, rd t (CAN_RAM c w) = rd s.dev (CAN_RAM c w))) ∧
      (fld s.dev (CAN_RAM c (2 * j + 1)) 31 30 = 2 → rbit s.dev (CAN_HP_STATUS c) 0 = false →
        Completes (.canFrameReceived c f ago [] 0) s (fun t => rbit t (CAN_HP_STATUS c) 0 = true ∧
          rd t (CAN_RAM c 0x100) = f.id % 2 ^ 32 ∧ rd t (CAN_RAM c 0x102) = ns % 2 ^ 32 ∧ rbit t (CAN_IR c) 6 = true)))) ∧
  (∀ s c v, HostOk s.dev → c < 8 → bitOf v.toNat 0 = true → Completes (.hpBufferRelease c v) s (fun t =>
    rbit t (CAN_HP_STATUS c) 0 = false ∧ OnlyRegs [CAN_HP_STATUS c] s.dev t)) ∧
  (∀ s c n v k, HostOk s.dev → c < 8 → n < 2 → k = fieldOf v.toNat 5 0 → Completes (.rxFifoRelease c n v) s (fun t =>
    fld t (rxqStat c n) 31 24 = 0 ∧ OnlyRegs [rxqStat c n, CAN_STATUS c] s.dev t ∧
    (1 ≤ k → k ≤ fld s.dev (rxqStat c n) 13 8 → fld t (rxqStat c n) 13 8 = fld s.dev (rxqStat c n) 13 8 - k ∧
      fld t (rxqStat c n) 4 0 = (fld s.dev (rxqStat c n) 4 0 + k) % 32 ∧ rd t (CAN_STATUS c) = rd s.dev (CAN_STATUS c)) ∧
    ((k = 0 ∨ fld s.dev (rxqStat c n) 13 8 < k) → fld t (rxqStat c n) 13 8 = fld s.dev (rxqStat c n) 13 8 ∧
      rbit t (CAN_STATUS c) 10 = true))) ∧
  (∀ s c, c < 8 → (canOf s.dev c).running = true → rbit s.dev (CAN_STATUS c) 3 = false →
    (∀ lec, lec < 8 → (canOf s.dev c).mode = 0 → Completes (.canErrorDetected c (.bus lec false)) s (fun t =>
      fld t (CAN_STATUS c) 8 6 = lec ∧ (canOf t c).rxErr = min 136 ((canOf s.dev c).rxErr + 1) ∧
      (canOf t c).txErr = (canOf s.dev c).txErr ∧ t.mems = s.dev.mems)) ∧
    (∀ lec eight, lec < 8 → ((canOf s.dev c).mode = 1 ∨ (canOf s.dev c).mode = 2) →
      Completes (.canErrorDetected c (.bus lec eight)) s (fun t => fld t (CAN_STATUS c) 8 6 = lec ∧
        rbit t (CAN_STATUS c) 0 = false ∧ canOf t c = { canOf s.dev c with waitFrom := some (nowTicks s.dev) } ∧
        SameRegs [CAN_STATUS c] s.dev t)) ∧
    (rbit s.dev (CAN_CTRL c) 6 = false → Completes (.canErrorDetected c .resBit) s (fun t =>
      rbit t (CAN_STATUS c) 5 = true ∧ rbit t (CAN_STATUS c) 0 = false ∧ rbit t (CAN_IR c) 17 = true ∧
      canOf t c = { canOf s.dev c with waitFrom := some (nowTicks s.dev) })))

/-- O52. A request checks its element; a cancellation ends a waiting buffer and waits for one on the bus; the choice
at bus idle sends the due reference or the ready buffer; an attempt ends in success, lost arbitration or an error, a
reference attempt past its instant as withdrawn (Assumption 92); bus-off recovery; the time master's enable, instants
and windows. Log entries 41, 60 and 92. -/
def Obligations.CanTransmit : Prop :=
  (∀ s c b v, HostOk s.dev → c < 8 → b < 3 → bitsSet v.toNat 3 = [b] →
    (clocheOwns s.dev c b = false → txPending s.dev c b = false → Completes (.txRequest c v) s (fun t =>
      txState t c b = (if txElementOk s.dev c b then 1 else 6) ∧ txPending t c b = txElementOk s.dev c b ∧
      OnlyRegs [CAN_TXB_STAT c b, CAN_TXREQ c] s.dev t)) ∧
    (clocheOwns s.dev c b = true → Completes (.txRequest c v) s (fun t => rbit t (CAN_STATUS c) 11 = true ∧
      OnlyRegs [CAN_STATUS c] s.dev t)) ∧
    (clocheOwns s.dev c b = false → txState s.dev c b = 1 → Completes (.txCancel c v) s (fun t => txState t c b = 5 ∧
      txPending t c b = false ∧ rbit t (CAN_IR c) 9 = true ∧ t.mems = s.dev.mems)) ∧
    (clocheOwns s.dev c b = false → txState s.dev c b = 2 → Completes (.txCancel c v) s (fun t =>
      b ∈ (canOf t c).cancelling ∧ t.regs = s.dev.regs))) ∧
  (∀ s c, c < 8 → (canOf s.dev c).running = true → (canOf s.dev c).attempt = none → (canOf s.dev c).mode = 0 →
    rbit s.dev (CAN_STATUS c) 3 = false → canWaits s.dev c 0 = false →
    (∀ n, (canOf s.dev c).refDue = some n → Completes (.txChoice c [] 0) s (fun t => (canOf t c).attempt = some {
      source := .reference, frame := referenceFrame s.dev c n, stamp := canStamp s.dev 0 / 2 ^ 32,
      frac := canStamp s.dev 0 % 2 ^ 32, k := n } ∧
      SameRegs [CAN_STATUS c] s.dev t)) ∧
    (∀ b < 3, (canOf s.dev c).refDue = none → (canOf s.dev c).badWords = [] → txState s.dev c b = 1 →
      windowOpen s.dev c b = true → (∀ x < 3, x ≠ b → txState s.dev c x ≠ 1) → Completes (.txChoice c [] 0) s (fun t =>
        txState t c b = 2 ∧ SameRegs [CAN_STATUS c, CAN_TXB_STAT c b, CAN_TXREQ c] s.dev t ∧ (canOf t c).attempt = some {
          source := .buffer b, frame := txFrame s.dev c b, stamp := canStamp s.dev 0 / 2 ^ 32,
          frac := canStamp s.dev 0 % 2 ^ 32, k := 0 }))) ∧
  (∀ s c b a, c < 8 → b < 3 → (canOf s.dev c).attempt = some a → a.source = .buffer b → (canOf s.dev c).mode = 0 →
    tabFind (c * 4 + b) s.dev.cloche.waiting = none →
    ((canOf s.dev c).txErr = 0 → Completes (.txEnd c .success) s (fun t =>
      (canOf t c).sent = (canOf s.dev c).sent ++ [a.frame] ∧ (canOf t c).attempt = none ∧ txState t c b = 3 ∧
      rd t (CAN_TXB_STAMP c b) = a.stamp % 2 ^ 32 ∧ rbit t (CAN_IR c) 8 = true ∧ t.mems = s.dev.mems)) ∧
    (b ∉ (canOf s.dev c).cancelling → rbit s.dev (CAN_CTRL c) 5 = false → Completes (.txEnd c .lost) s (fun t =>
      (canOf t c).attempt = none ∧ (canOf t c).sent = (canOf s.dev c).sent ∧ txState t c b = 1)) ∧
    (∀ lec, lec < 8 → lec ≠ 3 → (canOf s.dev c).txErr < 248 → Completes (.txEnd c (.error lec)) s (fun t =>
      (canOf t c).attempt = none ∧ fld t (CAN_STATUS c) 8 6 = lec ∧ (canOf t c).txErr = (canOf s.dev c).txErr + 8))) ∧
  (∀ s c a, c < 8 → (canOf s.dev c).attempt = some a → a.source = .reference → (canOf s.dev c).mode = 0 →
    (canOf s.dev c).txErr = 0 → (canOf s.dev c).refDue = some a.k → Completes (.txEnd c .success) s (fun t =>
      rd t (CAN_TT_MARK c) = a.stamp % 2 ^ 32 ∧ (canOf t c).refDue = none ∧ (canOf t c).marked = true ∧
      (canOf t c).opened = [] ∧ rbit t (CAN_IR c) 14 = true)) ∧
  (∀ s c a, c < 8 → (canOf s.dev c).attempt = some a → a.source = .reference → rbit s.dev (CAN_TT_STATUS c) 0 = true →
    ((canOf s.dev c).refDue = some a.k → Completes (.txEnd c .lost) s (fun t => t = { s.dev with can := t.can } ∧
      canOf t c = { canOf s.dev c with attempt := none, cancelling := [] })) ∧
    ((canOf s.dev c).refDue ≠ some a.k → fld s.dev (CAN_TT_CFG c) 15 8 = 0 → Completes (.txEnd c .lost) s (fun t =>
      (canOf t c).attempt = none ∧ (canOf t c).refDue = (canOf s.dev c).refDue ∧ rbit t (CAN_IR c) 15 = true ∧
      rd t (CAN_TT_MISS c) = min (rd s.dev (CAN_TT_MISS c) + 1) 0xFFFFFFFF))) ∧
  (∀ s c, c < 8 → rbit s.dev (CAN_STATUS c) 3 = true →
    (∀ v, HostOk s.dev → bitOf v.toNat 4 = false → bitOf v.toNat 0 = rbit s.dev (CAN_CTRL c) 0 →
      Completes (.boRestart c v) s (fun t => (canOf t c).recovering = true ∧ SameRegs [CAN_CTRL c] s.dev t)) ∧
    ((canOf s.dev c).recovering = true → Completes (.busOffRecoveryEnd c) s (fun t => rbit t (CAN_STATUS c) 3 = false ∧
      rbit t (CAN_STATUS c) 0 = true ∧ (canOf t c).recovering = false ∧ rd t (CAN_ERRCNT c) = 0 ∧
      (canOf t c).txErr = 0 ∧ (canOf t c).rxErr = 0 ∧ rbit t (CAN_IR c) 13 = true))) ∧
  (∀ s c v, HostOk s.dev → c < 8 → rbit s.dev (CAN_TT_CFG c) 31 = false →
    (rbit s.dev CAN_TT_MASTER 3 = false → fld s.dev (CAN_CTRL c) 3 2 = 0 → Completes (.ttEnable c v) s (fun t =>
      rbit t (CAN_TT_CFG c) 31 = true ∧ rbit t (CAN_TT_STATUS c) 0 = true ∧ rd t CAN_TT_MASTER = 8 + c ∧
      (canOf t c).refNext = rd s.dev (CAN_TT_START c) ∧ (canOf t c).refK = 0 ∧
      SameRegs [CAN_TT_CFG c, CAN_TT_STATUS c, CAN_TT_MASTER] s.dev t)) ∧
    ((rbit s.dev CAN_TT_MASTER 3 = true ∧ fld s.dev CAN_TT_MASTER 2 0 ≠ c ∨ fld s.dev (CAN_CTRL c) 3 2 ≠ 0) → Completes (.ttEnable c v) s (fun t => rbit t (CAN_TT_CFG c) 31 = false ∧
      rbit t (CAN_STATUS c) 10 = true ∧ t.can = s.dev.can))) ∧
  (∀ s c k, c < 8 → rbit s.dev (CAN_TT_STATUS c) 0 = true → k = canOf s.dev c → k.running = true →
    0 ≤ passedBy (nowNs s.dev) k.refNext → passedBy (nowNs s.dev) (k.refNext + rd s.dev (CAN_TT_CYCLE_NS c)) < 0 →
    (k.refDue = none → Completes (.referenceInstant c) s (fun t => (canOf t c).refDue = some k.refK ∧
      (canOf t c).refK = k.refK + 1 ∧ (canOf t c).refNext = (k.refNext + rd s.dev (CAN_TT_CYCLE_NS c)) % 2 ^ 32 ∧
      (canOf t c).marked = false ∧ (canOf t c).opened = [] ∧ SameRegs [] s.dev t)) ∧
    (∀ a, k.attempt = some a → a.source = .reference → Completes (.referenceInstant c) s (fun t =>
      (canOf t c).refDue = some k.refK ∧ (canOf t c).attempt = some a ∧ SameRegs [] s.dev t)) ∧
    (∀ n, k.refDue = some n → k.attempt = none → fld s.dev (CAN_TT_CFG c) 15 8 = 0 →
      Completes (.referenceInstant c) s (fun t => (canOf t c).refDue = some k.refK ∧ rbit t (CAN_IR c) 15 = true ∧
        rd t (CAN_TT_MISS c) = min (rd s.dev (CAN_TT_MISS c) + 1) 0xFFFFFFFF))) ∧
  (∀ s c b, c < 8 → b < 3 → rbit s.dev (CAN_TT_STATUS c) 0 = true → rbit s.dev (CAN_TXB_WIN c b) 31 = true →
    (canOf s.dev c).marked = true → ((fld s.dev (CAN_TXB_WIN c b) 16 0 * 1000 : Nat) : Int) ≤ sinceMark s.dev c →
    Completes (.txWindowOpen c b) s (fun t => t = { s.dev with can := t.can } ∧ b ∈ (canOf t c).opened))

/-! The Clocktower (13 R357 to R369). -/

/-- O53. At a wrap the counter goes on by the increment, the wrap counts and the next base takes over; a step, a load
and an accepted offset wait for the next tick; a base is committed; the servo resets; a PPS edge is stamped, its loss
reported. Log entry 58. -/
def Obligations.Clocktower : Prop :=
  (∀ s, wrapsNext s.dev = true → s.dev.clock.tick < 20 → s.dev.belv.sysclkLost = false → s.dev.tower.copyDiff = 0 → s.dev.tower.steps = [] → s.dev.tower.offsets = [] →
    s.dev.tower.loadDue = false → rbit s.dev CT_STATUS 1 = true → Completes .nsWrap s (fun t =>
      counterOf t + 2 ^ 64 = counterOf s.dev + incrOf s.dev ∧ rd t CT_WRAPS = (rd s.dev CT_WRAPS + 1) % 2 ^ 32 ∧
      rbit t CT_STATUS 0 = true ∧ rbit t CT_STATUS 1 = false ∧ t.tower.cur = s.dev.tower.next ∧
      nowTicks t % (2 ^ 64 * 20) = (nowTicks s.dev + 1) % (2 ^ 64 * 20) ∧ t.mems = s.dev.mems ∧
      SameRegs [CT_NS, CT_FRAC, CT_WRAPS, CT_STATUS] s.dev t)) ∧
  (∀ s v, HostOk s.dev → Completes (.counterStep v) s (fun t =>
    t = { s.dev with tower := { s.dev.tower with steps := s.dev.tower.steps ++ [signedOf 32 v.toNat] } })) ∧
  (∀ s v, HostOk s.dev → Completes (.nextBaseCommit v) s (fun t => rd t CT_NEXT_SEC_HI = fieldOf v.toNat 15 0 ∧
    SameRegs [CT_NEXT_SEC_HI, CT_STATUS] s.dev t ∧
    (rd s.dev CT_NEXT_NS < 10 ^ 9 → rbit t CT_STATUS 1 = true ∧ t.tower.next.ns = rd s.dev CT_NEXT_NS ∧
      t.tower.next.sec = rd s.dev CT_NEXT_SEC_LO + fieldOf v.toNat 15 0 * 2 ^ 32) ∧
    (10 ^ 9 ≤ rd s.dev CT_NEXT_NS → rbit t CT_STATUS 6 = true ∧ t.tower = s.dev.tower))) ∧
  (∀ s v, HostOk s.dev → Completes (.loadNow v) s (fun t => t.tower.loadDue = (s.dev.tower.loadDue || rbit s.dev CT_STATUS 1) ∧
    SameRegs [CT_CTRL] s.dev t ∧ t.mems = s.dev.mems)) ∧
  (∀ s v, HostOk s.dev → rbit s.dev CT_SERVO_CTRL 2 = false →
    ((rbit s.dev CT_SERVO_CTRL 0 = true ∧ (signedOf 32 v.toNat).natAbs ≤ rd s.dev CT_SERVO_LIMIT) →
      Completes (.servoOffset v) s (fun t => t = { s.dev with tower := { s.dev.tower with
        offsets := s.dev.tower.offsets ++ [signedOf 32 v.toNat] } })) ∧
    ((rbit s.dev CT_SERVO_CTRL 0 = false ∨ rd s.dev CT_SERVO_LIMIT < (signedOf 32 v.toNat).natAbs) →
      Completes (.servoOffset v) s (fun t => rbit t CT_STATUS 5 = true ∧ OnlyRegs [CT_STATUS] s.dev t))) ∧
  (∀ s v, HostOk s.dev → Completes (.servoReset v) s (fun t => t.tower.servoI = 0 ∧ t.tower.servoC = 0 ∧
    rd t CT_SERVO_C = 0 ∧ SameRegs [CT_SERVO_CTRL, CT_SERVO_C] s.dev t)) ∧
  (∀ s, rbit s.dev CT_SERVO_CTRL 2 = false → Completes .ppsEdge s (fun t => rd t CT_PPS_NS = nowNs s.dev ∧
    rd t CT_PPS_FRAC = rd s.dev CT_FRAC ∧ rbit t CT_STATUS 7 = false ∧ t.tower.ppsSince = s.dev.clock.beat ∧
    signedOf 32 (rd t CT_PPS_OFS) % 1000000000 = ((s.dev.tower.cur.ns + nowNs s.dev) % 1000000000 : Nat) ∧
    SameRegs [CT_PPS_NS, CT_PPS_FRAC, CT_PPS_OFS, CT_STATUS] s.dev t)) ∧
  (∀ s, rbit s.dev CT_CTRL 1 = true → rbit s.dev CT_STATUS 7 = false → 37500000 ≤ s.dev.clock.beat - s.dev.tower.ppsSince →
    MinorAlone s.dev 61 → Completes .ppsLost s (fun t => rbit t CT_STATUS 7 = true ∧ Latched 61 t ∧ t.mems = s.dev.mems))

/-- O54. A time-triggered output is enabled within its limits, its due edge schedules the next, its pulse ends after
its width; a capture stamps or counts as lost; Ethernet tails, frames sent and received, link changes. Log entries 59
and 61. -/
def Obligations.OutputsAndEthernet : Prop :=
  (∀ s n v, HostOk s.dev → n < 4 → rbit s.dev (CT_TT_CFG n) 31 = false → Completes (.ttOutEnable n v) s (fun t =>
    rbit t (CT_TT_CFG n) 31 = ttLimitsOk s.dev n ∧ SameRegs [CT_TT_CFG n, CT_STATUS] s.dev t ∧
    (ttLimitsOk s.dev n = true → (ttOf t n).next = some (rd s.dev (CT_TT_START n))) ∧
    (ttLimitsOk s.dev n = false → rbit t CT_STATUS 6 = true ∧ t.tower = s.dev.tower))) ∧
  (∀ s n x p, n < 4 → (ttOf s.dev n).next = some x → ttEdgeDue s.dev n = true → p = rd s.dev (CT_TT_PERIOD n) → p ≠ 0 →
    passedBy (nowNs s.dev) (x + p) < 0 → Completes (.ttOutEdge n) s (fun t => (ttOf t n).next = some ((x + p) % 2 ^ 32) ∧
      (ttOf t n).since = some (nowTicks s.dev) ∧ rd t (CT_TT_MISS n) = rd s.dev (CT_TT_MISS n))) ∧
  (∀ s n b, n < 4 → (ttOf s.dev n).since = some b → rd s.dev (CT_TT_WIDTH n) ≤ (nowTicks s.dev - b) * 2 →
    rd s.dev (CT_TT_PERIOD n) ≠ 0 → Completes (.ttOutPulseEnd n) s (fun t =>
      t = { s.dev with tower := t.tower } ∧ (ttOf t n).since = none ∧ (ttOf t n).next = (ttOf s.dev n).next)) ∧
  (∀ s n rising level, n < 4 →
    edgeQualifies (fld s.dev (CT_CAP_CFG n) 1 0) (fld s.dev (CT_CAP_CFG n) 9 2) rising level = true →
    (rbit s.dev (CT_CAP_STAT n) 31 = false → Completes (.ttCapture n rising level) s (fun t =>
      rd t (CT_CAP_NS n) = nowNs s.dev ∧ rd t (CT_CAP_FRAC n) = rd s.dev CT_FRAC ∧ rbit t (CT_CAP_STAT n) 31 = true ∧
      OnlyRegs [CT_CAP_NS n, CT_CAP_FRAC n, CT_CAP_STAT n] s.dev t)) ∧
    (rbit s.dev (CT_CAP_STAT n) 31 = true → Completes (.ttCapture n rising level) s (fun t =>
      fld t (CT_CAP_STAT n) 15 0 = min 65535 (fld s.dev (CT_CAP_STAT n) 15 0 + 1) ∧
      rd t (CT_CAP_NS n) = rd s.dev (CT_CAP_NS n) ∧ OnlyRegs [CT_CAP_STAT n] s.dev t))) ∧
  (∀ s p q v, HostOk s.dev → p < 4 → q < 7 → Completes (.ethTxTail p q v) s (fun t =>
    rd t (ETH_TXQ_TAIL p q) = fieldOf v.toNat 11 0 ∧ OnlyRegs [ETH_TXQ_TAIL p q] s.dev t)) ∧
  (∀ s p q v, HostOk s.dev → p < 4 → q < 64 → Completes (.ethRxTail p q v) s (fun t =>
    rd t (ETH_RXQ_TAIL p q) = fieldOf v.toNat 11 0 ∧ OnlyRegs [ETH_RXQ_TAIL p q] s.dev t)) ∧
  (∀ s p f fs, p < 4 → rbit s.dev (ETH_CTRL p) 0 = true → rbit s.dev (ETH_STATUS p) 0 = true →
    (ethOf s.dev p).cloche = f :: fs → Completes (.ethFrameSent p false) s (fun t => (ethOf t p).cloche = fs ∧
      (ethOf t p).sent = (ethOf s.dev p).sent ++ [f ++ leBytes 4 (frameFcs f)] ∧
      rd t (ETH_TX_FRAMES p) = min (rd s.dev (ETH_TX_FRAMES p) + 1) 0xFFFFFFFF ∧ SameRegs [ETH_TX_FRAMES p] s.dev t ∧
      t.mems = s.dev.mems)) ∧
  (∀ s p body frame q at_ buf room, p < 4 → rbit s.dev (ETH_CTRL p) 0 = true → rbit s.dev (ETH_STATUS p) 0 = true →
    frame = body ++ leBytes 4 (frameFcs body) → 60 ≤ body.length → frame.length ≤ rd s.dev (ETH_MAX_LEN p) →
    (∀ r < 32, ruleMatches s.dev p r body = false) → q = fld s.dev (ETH_RX_CFG p) 5 0 →
    ethRingReady s.dev (ETH_RXQ_BASE_LO p q) = true → at_ = ethHeadAt s.dev (ETH_RXQ_BASE_LO p q) →
    openDram s.dev at_ 32 = true → buf = memNat s.dev at_ 8 → room = memNat s.dev (at_ + 8) 4 → body.length ≤ room →
    buf % 64 = 0 → room % 64 = 0 → 128 ≤ room → room ≤ 16384 → openDram s.dev buf room = true →
    overlaps buf room at_ 32 = false → Completes (.ethFrameReceived p frame false) s (fun t =>
      memBytes t buf body.length = body ∧ memNat t (at_ + 12) 2 = body.length ∧ memNat t (at_ + 31) 1 = 1 ∧
      memNat t (at_ + 16) 4 = (nowNs s.dev + 2 ^ 32 - rd s.dev (ETH_RX_LAT p)) % 2 ^ 32 ∧
      rd t (ETH_RX_FRAMES p) = min (rd s.dev (ETH_RX_FRAMES p) + 1) 0xFFFFFFFF ∧
      rd t (ETH_RXQ_BASE_LO p q + 16) = (rd s.dev (ETH_RXQ_BASE_LO p q + 16) + 1) % ethRingSize s.dev (ETH_RXQ_BASE_LO p q))) ∧
  (∀ s p up rate, p < 4 → rate < 4 → rbit s.dev (ETH_CTRL p) 1 = false → Completes (.ethLinkChange p up rate) s (fun t =>
    rbit t (ETH_STATUS p) 0 = up ∧ fld t (ETH_STATUS p) 2 1 = rate ∧ OnlyRegs [ETH_STATUS p] s.dev t))

/-! Belvedere (14 R380 to R401). -/

/-- O55. An assertion is latched, opens an episode and is logged; an episode closes below Critical; the status word, a
stopped pavilion, the lock and the pulse on ALIVE; golden windows, results and deferrals; signature records. Log
entries 39, 48, 72, 78 and 95. -/
def Obligations.BelvedereRows : Prop :=
  (∀ s src queues pavs detail k, s.dev.lodge.stage ≠ .reset → sourceExists s.dev src = true → src < 86 → MinorAlone s.dev src →
    k = rd s.dev BV_LOG_HEAD → k < 2048 → Completes (.faultAssertion src queues pavs detail) s (fun t => Latched src t ∧
      rbit t BV_EPISODE 31 = true ∧ fld t BV_EPISODE 30 29 = 1 ∧ fld t BV_EPISODE 22 16 = src ∧
      rd t (BV_LOG k 3) = src + 2 ^ 8 + 2 * 2 ^ 16 ∧
      rd t (BV_LOG k 6) + rd t (BV_LOG k 7) * 2 ^ 32 = detailOf (faultCause src (detail % 2 ^ 8) s.dev) src (detail % 2 ^ 64) % 2 ^ 64 ∧
      rd t BV_LOG_HEAD = (k + 1) % 2048 ∧
      t.mems = s.dev.mems ∧ t.cloak = s.dev.cloak ∧ t.comp = s.dev.comp)) ∧
  (∀ s, rbit s.dev BV_EPISODE 31 = true → fld s.dev BV_EPISODE 30 29 < 3 → reactionPending s.dev = false →
    Completes .episodeClose s (fun t => rbit t BV_EPISODE 31 = false ∧ t.belv = { s.dev.belv with errors := [] } ∧
      SameRegs [BV_EPISODE] s.dev t)) ∧
  (∀ s w v, HostOk s.dev → w < 4 → Completes (.statusClear w v) s (fun t =>
    (∀ j < 128, t.belv.status.getLsbD j = (s.dev.belv.status.getLsbD j && !(j / 32 == w && v.getLsbD (j % 32)))) ∧
    t = { s.dev with belv := { s.dev.belv with status := t.belv.status } })) ∧
  (∀ s v p, HostOk s.dev → bitsSet v.toNat (pavCount s.dev) = [p] →
    ((pavOf s.dev p).golden = none → (pavState s.dev p = 1 ∨ pavState s.dev p = 3) → Completes (.pavilionRelease v) s (fun t =>
      pavState t p = 0 ∧ (pavOf t p).releasePending = false ∧ SameRegs [BV_PAV_STATE] s.dev t ∧ t.mems = s.dev.mems ∧
      ∀ x < 8, x ≠ p → pavState t x = pavState s.dev x)) ∧
    (∀ g, (pavOf s.dev p).golden = some g → Completes (.pavilionRelease v) s (fun t =>
      (pavOf t p).releasePending = true ∧ t.regs = s.dev.regs))) ∧
  (∀ s, HostOk s.dev → Completes .lock s (fun t => rbit t BV_LOCK 0 = true ∧ OnlyRegs [BV_LOCK] s.dev t)) ∧
  (∀ s off v, belvLocked off = true → rbit s.dev BV_LOCK 0 = true → Completes (.registerWrite off ⟨v, .host⟩) s (fun t => t = s.dev)) ∧
  (∀ s, Completes .aliveToggle s (fun t => t = { s.dev with belv := { s.dev.belv with
    alive := if healthy s.dev then !s.dev.belv.alive else s.dev.belv.alive } })) ∧
  (∀ s pc, s.dev.lodge.stage ≠ .reset → severityOf s.dev 78 = 3 → rbit s.dev BV_EPISODE 31 = false → s.dev.belv.safe = .none →
    Completes (.belvedereWatchdogExpiry pc) s (fun t => Latched 78 t ∧ rbit t BV_EPISODE 31 = true ∧
      fld t BV_EPISODE 30 29 = 3 ∧ healthy t = false ∧ t.mems = s.dev.mems)) ∧
  (∀ s p, p < 8 → isReady s.dev = true → p < pavCount s.dev → (pavOf s.dev p).goldenDue = false →
    (pavOf s.dev p).goldenSince + fld s.dev BV_GOLD_CFG 13 0 * 25000 ≤ s.dev.clock.beat → Completes (.goldenDue p) s (fun t =>
      (pavOf t p).goldenDue = true ∧
      (pavOf t p).goldenSince = (pavOf s.dev p).goldenSince + fld s.dev BV_GOLD_CFG 13 0 * 25000 ∧ t.regs = s.dev.regs)) ∧
  (∀ s p q k x e r, p < 8 → (pavOf s.dev p).run = some (q, k) → stepOf s.dev q = some x → nextGolden s.dev p = some e →
    runOn s.dev p = some r → goldenTime s.dev p x r = true →
    bitOf (segGolden s.dev x.image k) p = true → (pavOf s.dev p).golden = none → (pavOf s.dev p).goldenDue = true →
    Completes (.goldenSlotStart p) s (fun t => (pavOf t p).golden = some { entry := e, slot := some (q, k) } ∧
      t.regs = s.dev.regs ∧ ∀ r < goldenIn s.dev e,
        rowBytes t p (63488 + r) = memBytes s.dev (goldenAddr s.dev e + 64 + r * 512) 512)) ∧
  (∀ s p g, p < 8 → (pavOf s.dev p).golden = some g → g.slot.isSome = true → goldenMicro s.dev g.entry = 0 →
    pavState s.dev p = 0 → s.dev.belv.suspects = [] → (pavOf s.dev p).releasePending = false →
    (goldenSignature s.dev p g.entry = goldenExpect s.dev g.entry → Completes (.goldenResult ⟨p, {}⟩) s (fun t =>
      (pavOf t p).golden = none ∧ (pavOf t p).goldenDue = false ∧ (pavOf t p).goldenNext = g.entry + 1 ∧
      fld t BV_GOLD_DEFER (3 * p + 2) (3 * p) = 0 ∧ SameRegs [BV_GOLD_DEFER] s.dev t ∧ t.mems = s.dev.mems)) ∧
    (goldenSignature s.dev p g.entry ≠ goldenExpect s.dev g.entry → MinorAlone s.dev 76 → Completes (.goldenResult ⟨p, {}⟩) s (fun t =>
      (pavOf t p).golden = none ∧ Latched 76 t ∧
      rd t BV_GOLD_FAIL = min (rd s.dev BV_GOLD_FAIL + 1) 0xFFFFFFFF ∧ pavState t p = 0 ∧ t.mems = s.dev.mems))) ∧
  (∀ s p g, p < 8 → (pavOf s.dev p).golden = some g → g.slot.isSome = true → (pavOf s.dev p).releasePending = false →
    fld s.dev BV_GOLD_DEFER (3 * p + 2) (3 * p) < 2 → Completes (.goldenSlotEnd p) s (fun t => (pavOf t p).golden = none ∧
      ((pavOf t p).goldenDue = true ↔ pavState s.dev p = 1) ∧
      fld t BV_GOLD_DEFER (3 * p + 2) (3 * p) = fld s.dev BV_GOLD_DEFER (3 * p + 2) (3 * p) + 1 ∧
      SameRegs [BV_GOLD_DEFER] s.dev t ∧ t.mems = s.dev.mems)) ∧
  (∀ s v, HostOk s.dev → Completes (.digestArm v) s (fun t => OnlyRegs [BV_WDIGEST_STATUS] s.dev t ∧
    rbit t BV_WDIGEST_STATUS 0 =
      (if bitOf v.toNat 0 && !regionOk s.dev then rbit s.dev BV_WDIGEST_STATUS 0 else bitOf v.toNat 0))) ∧
  (∀ s r rest, s.dev.comp.sigWire = r :: rest → Completes (.signatureRecord none) s (fun t =>
    t.comp.sigWire = rest ∧ t.belv.sigs = s.dev.belv.sigs ++ [r] ∧ t.regs = s.dev.regs ∧ t.mems = s.dev.mems) ∧
    (MinorAlone s.dev 82 → Completes (.signatureRecord (some 0)) s (fun t => t.comp.sigWire = rest ∧
      t.belv.sigs = s.dev.belv.sigs ∧ Latched 82 t ∧ t.mems = s.dev.mems)))

/-! Starts and restarts (16 R432 to R436, 14 R389 to R392). -/

/-- The oldest request has its response, with `status`, and DONE; LD_RING_HEAD and RESP follow. -/
def Sys2Proof.Machine.Answered (status : Nat) (d t : Device) : Prop :=
  memNat t (ringHeadAddr d + 64) 4 = status ∧ memNat t (ringHeadAddr d + 127) 1 = 1 ∧
    rd t LD_RING_HEAD = (rd d LD_RING_HEAD + 1) % ldRingSize d ∧ rbit t LD_EVENT 0 = true

/-- O56. A cold boot releases the device with the set it boots, or goes to recovery; Ready follows the self-test; a
Critical episode leads to a safe-state restart that keeps DRAM; the Lodge goes down and returns; overload ends. Log
entries 10, 70 and 77. -/
def Obligations.Starts : Prop :=
  (∀ s x, (∀ b < 3, b ∈ s.dev.pins.banks) → s.dev.pins.sysResetN = true → s.dev.pins.perstN = true →
    s.dev.pins.thermTrip = false → s.dev.belv.sysclkLost = false → scanHolds s.dev.pins.tap.ir = false →
    s.dev.lodge.stage = .reset → x = loadFuses (powerGood s.dev) → Completes .coldBoot s (fun t =>
      t.chip.loaded = true ∧ t.chip.pavMask = fieldOf s.dev.fuses.sku 7 0 ∧ t.chip.ihMask = fieldOf s.dev.fuses.sku 19 8 ∧
      t.pins.pwrGood = true ∧ t.mems = s.dev.mems ∧ t.fuses = s.dev.fuses ∧
      (bootSlot x = none → t.lodge.stage = .recovery) ∧
      (∀ k alt, bootSlot x = some (k, alt) → t.lodge.stage = .released ∧ t.link.configReady = true ∧ t.clock = {} ∧ counterOf t = 0 ∧
        rbit t LD_STATUS 4 = alt ∧ t.lodge.bcb = slotBcb (flashSlot x k)))) ∧
  (∀ s, s.dev.pins.perstN = false → Completes .coldBoot s (fun t => t = { s.dev with pins := t.pins })) ∧
  (∀ s failed x r, s.dev.lodge.stage = .released → s.dev.belv.safe = .none →
    x = installLibrary (flashSlot s.dev (runSlot s.dev)) s.dev.lodge.bcb (retainedWrite 0 0 (retainedCopy (runSlot s.dev) 0
      { s.dev with mems := { s.dev.mems with dev := [], code := [], resv := [] } })) → r = selfTest failed x →
    Completes (.coldBootReady failed) s (fun t => isReady t = r.isNone ∧ rbit t BV_SELFTEST 31 = r.isNone ∧
      (r = none → t.lodge.stage = .running ∧ t.belv.aliveOn = true ∧ t.belv.canGate = false ∧ rbit t DEV_EVENT 0 = true) ∧
      (r ≠ none → t.belv.safe ≠ .none ∧ t.belv.canGate = true ∧ t.belv.aliveOn = false))) ∧
  (∀ s, rbit s.dev BV_EPISODE 31 = true → fld s.dev BV_EPISODE 30 29 = 3 → s.dev.belv.safe = .none →
    Completes .safeStateEntry s (fun t => t.belv.safe ≠ .none ∧ t.belv.canGate = true ∧ t.belv.aliveOn = false ∧
      isReady t = false ∧ rd t BV_RESTARTS = min (rd s.dev BV_RESTARTS + 1) 0xFFFFFFFF ∧
      t.cloak.interrupted = inFlight s.dev ∧ t.comp = {} ∧ t.link = s.dev.link ∧ t.mems.host = s.dev.mems.host ∧
      t.mems.flash = s.dev.mems.flash ∧ (∀ a < dramBytes s.dev, memRead 0 t.mems.dev a = memRead 0 s.dev.mems.dev a) ∧
      ∀ o, regRetained o = false → o ∉ [BV_WDIGEST_STATUS, DEV_STATUS] → rd t o = (regReset o).toNat)) ∧
  (∀ s, ¬ (rbit s.dev BV_EPISODE 31 = true ∧ fld s.dev BV_EPISODE 30 29 = 3) →
    Completes .safeStateEntry s (fun t => t = s.dev)) ∧
  (∀ s failed ecc x, s.dev.belv.safe = .restarting → resetReleased s.dev = true → x = loadFuses (safeReset s.dev) →
    Completes (.safeStateReady failed ecc) s (fun t => (restartSet x = none → t.lodge.stage = .recovery ∧ isReady t = false) ∧
      ∀ f, restartSet x = some f → isReady t = (selfTest failed (f x)).isNone ∧
        (selfTest failed (f x) = none → t.belv.safe = .none ∧ t.belv.canGate = false ∧ t.cloak.interrupted = []))) ∧
  (∀ s pc, isReady s.dev = true → rbit s.dev DEV_STATUS 4 = false → s.dev.lodge.began = [] →
    (MinorAlone s.dev 46 → Completes (.lodgeFault pc) s (fun t => rbit t DEV_STATUS 4 = true ∧ t.lodge.restarting = true ∧
      t.lodge.session = none ∧ t.lodge.began = [s.dev.clock.beat] ∧ t.lodge.taken = (ringRequest s.dev).isSome ∧
      Latched 46 t ∧ t.mems = s.dev.mems)) ∧
    (MinorAlone s.dev 45 → Completes .lodgeWatchdogTimeout s (fun t => rbit t DEV_STATUS 4 = true ∧
      t.lodge.restarting = true ∧ Latched 45 t ∧ t.mems = s.dev.mems))) ∧
  (∀ s x, isReady s.dev = true → s.dev.lodge.restarting = true → rbit s.dev DEV_STATUS 4 = true →
    s.dev.lodge.liveDue = false → MinorAlone s.dev 46 → x = copySlot s.dev (fld s.dev LD_STATUS 2 2) →
    Completes .lodgeRestartComplete s (fun t => t.lodge.restarting = false ∧
      (bcbImage (slotBcb x) 1 = none → t.lodge.dead = true ∧ rbit t DEV_STATUS 4 = true ∧ Latched 46 t) ∧
      (∀ e, bcbImage (slotBcb x) 1 = some e → sha512 (x (entryOffset e) (entryLength e)) = entryDigest e →
        rbit t DEV_STATUS 4 = false ∧ fld t LD_RESTARTS 7 0 = (fld s.dev LD_RESTARTS 7 0 + 1) % 256 ∧
        t.lodge.taken = false ∧
        (s.dev.lodge.taken = true → s.dev.lodge.telemetry = none → s.dev.lodge.events = [] → rbit s.dev LD_RING_CFG 31 = true →
          rd s.dev LD_RING_HEAD % ldRingSize s.dev ≠ rd s.dev LD_RING_TAIL % ldRingSize s.dev →
          (rd s.dev LD_RING_HEAD + 1) % ldRingSize s.dev = rd s.dev LD_RING_TAIL % ldRingSize s.dev →
          Answered ldRestart s.dev t)))) ∧
  (∀ s, lodgeUp s.dev = true →
    (s.dev.lodge.backlogBeat + 250000 ≤ s.dev.clock.beat → Completes .lodgeOverloadEnd s (fun t =>
      rbit t LD_STATUS 8 = false ∧ rbit t LD_STATUS 7 = false ∧ OnlyRegs [LD_STATUS] s.dev t)) ∧
    (s.dev.clock.beat < s.dev.lodge.backlogBeat + 250000 → Completes .lodgeOverloadEnd s (fun t => t = s.dev)))

/-! The Lodge's services and Satchel (16 R435 to R446). -/

/-- The only request of the service ring is `q`, for service `code`, and the Lodge serves it. -/
abbrev Sys2Proof.Machine.Requested (d : Device) (code : Nat) (q : List Byte) : Prop :=
  ringRequest d = some q ∧ leField q 0 1 = code ∧ requestKnown q = true ∧ overloaded d = false ∧
    (rd d LD_RING_HEAD + 1) % ldRingSize d = rd d LD_RING_TAIL % ldRingSize d

/-- O57. The tail of the ring; each service answers with its effect or its refusal; a telemetry record (16 R435 to
R438). Log entry 66. -/
def Obligations.Services : Prop :=
  (∀ s v backlog, HostOk s.dev → rbit s.dev LD_RING_CFG 31 = false → backlog ≤ 5000 →
    Completes (.serviceRingTail v backlog) s (fun t => rd t LD_RING_TAIL = fieldOf v.toNat 7 0 ∧
      OnlyRegs [LD_RING_TAIL] s.dev t)) ∧
  (∀ s q, Requested s.dev 1 q → openDram s.dev (leField q 8 8) 192 = false →
    Completes .mesh s (fun t => Answered ldInvalid s.dev t)) ∧
  (∀ s q b dest k cols nodes, Requested s.dev 1 q → openDram s.dev (leField q 8 8) 192 = true →
    b = memBytes s.dev (leField q 8 8) 192 → leField b 108 1 = 16 ∨ leField b 108 1 = 32 →
    leField b 104 2 % leField b 108 1 = 0 → leField b 106 2 % leField b 108 1 = 0 → k = leField b 109 1 → k < 32 →
    leField b 110 2 = 0 → leField b 120 8 = 0 → dest = leField b 112 8 → dest % 8 = 0 →
    cols = leField b 104 2 / leField b 108 1 + 1 → nodes = cols * (leField b 106 2 / leField b 108 1 + 1) →
    openDram s.dev dest (8 * nodes) = true →
    (headState s.dev k ≠ 2 → Completes .mesh s (fun t => Answered ldRefused s.dev t)) ∧
    (headState s.dev k = 2 → overlaps dest (8 * nodes) (leField q 8 8 + 128) 64 = false →
      overlaps dest (8 * nodes) (ringHeadAddr s.dev + 64) 64 = false → Completes .mesh s (fun t => Answered ldOk s.dev t ∧
        (headOf t k).meshed = true ∧ ∀ j < nodes, memBytes t (dest + 8 * j) 8 = meshNodeBytes (meshValue
          (headOf s.dev k).record b (j % cols * leField b 108 1) (j / cols * leField b 108 1))))) ∧
  (∀ s q c n, Requested s.dev 2 q → c = leField q 8 8 → n = leField q 16 8 → c < 32 → 1 ≤ n → n ≤ 255 →
    Completes .clean s (fun t => Answered ldOk s.dev t ∧ (headOf t c).clean = min ((headOf s.dev c).clean + n) (2 ^ 32 - 1))) ∧
  (∀ s q dest, Requested s.dev 3 q → inDram s.dev (leField q 8 8) 32 = true → dest = leField q 16 8 → dest % 64 = 0 →
    openDram s.dev dest 6144 = true → overlaps dest 6144 (ringHeadAddr s.dev + 64) 64 = false →
    Completes .attest s (fun t => ∀ b, b = deviceBlock s.dev (leBytes 32 (Config.free s.dev.freeCtr)) "EF-ATT01"
        (attestBody s.dev (memBytes s.dev (leField q 8 8) 32)) →
      (b = none → Answered ldFailed s.dev t) ∧
      (b ≠ none → Answered ldOk s.dev t ∧ memBytes t dest 4 = ascii "WATR" ∧
        memBytes t (dest + 16) 32 = memBytes s.dev (leField q 8 8) 32 ∧
        memNat t (dest + 8) 8 = s.dev.fuses.dieId % 2 ^ 64))) ∧
  (∀ s q, Requested s.dev 4 q →
    (leField q 8 8 = 0 → fld s.dev LD_STATUS 13 12 ≠ 2 → Completes (.activateBoot 0) s (fun t => Answered ldRefused s.dev t)) ∧
    (leField q 8 8 = 1 → fld s.dev LD_STATUS 13 12 ≠ 2 → Completes (.activateLive 0) s (fun t => Answered ldRefused s.dev t)) ∧
    (fld s.dev LD_STATUS 13 12 = 2 → fuseCount s.dev.fuses ≤ bcbSvn (stagedBcb s.dev) → s.dev.gate.emergency = false →
      (leField q 8 8 = 0 → Completes (.activateBoot 0) s (fun t => Answered ldOk s.dev t ∧ fld t LD_STATUS 11 10 = 1 ∧
        t.lodge.activation = some {
          slot := idleSlot s.dev, live := false, generation := bcbGeneration (stagedBcb s.dev) })) ∧
      (leField q 8 8 = 1 → livePermitted s.dev = true → Completes (.activateLive 0) s (fun t => Answered ldOk s.dev t ∧
        fld t LD_STATUS 11 10 = 2 ∧ t.lodge.activation = some {
          slot := idleSlot s.dev, live := true, generation := bcbGeneration (stagedBcb s.dev) })))) ∧
  (∀ s q, Requested s.dev 5 q →
    (s.dev.gate.emergency = true → Completes (.fuseCommit none) s (fun t => Answered ldDeferred s.dev t ∧
      t.lodge.fuseDeferred = true ∧ t.fuses = s.dev.fuses)) ∧
    (s.dev.gate.emergency = false → commitRefused s.dev = true → Completes (.fuseCommit none) s (fun t =>
      Answered ldRefused s.dev t ∧ t.fuses = s.dev.fuses)) ∧
    (s.dev.gate.emergency = false → commitRefused s.dev = false → Completes (.fuseCommit none) s (fun t =>
      Answered ldOk s.dev t ∧ t.fuses = (commitBits s.dev.fuses s.dev.lodge.bcb).foldl (fun f b => blow b f) s.dev.fuses))) ∧
  (∀ s q ring n, Requested s.dev 6 q → ring = leField q 8 8 → n = leField q 16 8 → s.dev.lodge.events = [] →
    (ring = 0 → Completes .telemetry s (fun t => Answered ldOk s.dev t ∧ t.lodge.telemetry = none)) ∧
    (ring ≠ 0 → n ∈ [16, 64, 4096] → 10 ≤ leField q 24 8 → leField q 24 8 ≤ 10000 → openDram s.dev ring (64 + 32 * n) = true →
      Completes .telemetry s (fun t => Answered ldOk s.dev t ∧
        t.lodge.telemetry = some {
          base := ring, records := n, period := leField q 24 8, since := s.dev.clock.beat }))) ∧
  (∀ s x load w, s.dev.lodge.telemetry = some x → 1 ≤ x.records → x.records ≤ 4096 → lodgeUp s.dev = true →
    s.dev.lodge.events = [] → rbit s.dev LD_STATUS 7 = false → telemFull s.dev x = false →
    x.since + x.period * 25000 ≤ s.dev.clock.beat →
    w = memNat s.dev x.base 4 % x.records → Completes (.telemetrySample load 0) s (fun t =>
      memNat t (x.base + 64 + 32 * w) 1 = 1 ∧ memNat t (x.base + 64 + 32 * w + 4) 4 = s.dev.lodge.seq % 2 ^ 32 ∧
      memNat t (x.base + 64 + 32 * w + 20) 2 = load % 2 ^ 16 ∧ memNat t x.base 4 = (w + 1) % x.records ∧
      rbit t LD_EVENT 1 = true))

/-- O58. Satchel: hello, session, data, acknowledgement, end and activation; pending activations go on; an emergency
clears (16 R439 to R444). Log entries 69 and 71. -/
def Obligations.SatchelRows : Prop :=
  (∀ s pkt id seq, satchelOn s.dev = true → id = leField pkt 8 4 → seq = leField pkt 12 4 →
    (satchelGood pkt = false → Completes (.satchelHello pkt) s (fun t =>
      rd t LD_SATCHEL_ERR = min (rd s.dev LD_SATCHEL_ERR + 1) 0xFFFFFFFF ∧ OnlyRegs [LD_SATCHEL_ERR] s.dev t)) ∧
    (satchelGood pkt = true → leField pkt 5 1 = 1 → Completes (.satchelHello pkt) s (fun t =>
      t = { s.dev with regs := t.regs, eth := t.eth, lodge := { s.dev.lodge with
        satchelOut := s.dev.lodge.satchelOut ++ [satchelPacket 2 id seq (infoPayload s.dev)] } } ∧
      rd t ETH_MGMT_TX_FRAMES = min (rd s.dev ETH_MGMT_TX_FRAMES + 1) 0xFFFFFFFF ∧
      (ethOf t 4).txStamp = some (nowNs s.dev, rd s.dev CT_FRAC) ∧ SameRegs [ETH_MGMT_TX_FRAMES] s.dev t)) ∧
    (∀ peer total new, satchelGood pkt = true → leField pkt 5 1 = 3 → pkt.length = 28 → total = leField pkt 24 4 →
      total % 4096 = 0 → total ≤ 0x800000 → s.dev.lodge.session = none → s.dev.lodge.activation = none →
      new = Config.free s.dev.freeCtr % 2 ^ 32 → Completes (.satchelBegin peer pkt) s (fun t =>
        t.lodge.session = some { id := new, peer := peer, total := total, last := s.dev.clock.beat } ∧
        fld t LD_STATUS 13 12 = 1 ∧ rbit t LD_STATUS 1 = true ∧ SameRegs [LD_STATUS, ETH_MGMT_TX_FRAMES] s.dev t ∧
        (∀ x < total, memRead 0xFF t.mems.flash (slotBase (idleSlot s.dev) + x) = 0xFF) ∧
        t.lodge.satchelOut = s.dev.lodge.satchelOut ++ [satchelPacket 4 new seq (leBytes 4 new ++ leBytes 1 0)])) ∧
    (∀ peer x, satchelGood pkt = true → leField pkt 5 1 = 3 → s.dev.lodge.session = some x →
      s.dev.clock.beat - x.last < 250000000 → Completes (.satchelBegin peer pkt) s (fun t =>
        t = { s.dev with regs := t.regs, eth := t.eth, lodge := { s.dev.lodge with
          satchelOut := s.dev.lodge.satchelOut ++ [satchelPacket 4 id seq (leBytes 4 id ++ leBytes 1 6)] } } ∧
        SameRegs [ETH_MGMT_TX_FRAMES] s.dev t)) ∧
    (∀ peer x off n, satchelGood pkt = true → leField pkt 5 1 = 5 → s.dev.lodge.session = some x → x.peer = peer → x.id = id →
      rbit s.dev LD_STATUS 8 = false → pkt.length = 28 + n → 1 ≤ n → n ≤ 1024 → off = leField pkt 24 4 → x.got = [] →
      off + n ≤ x.total → x.unacked < 63 → Completes (.satchelData peer 0 pkt) s (fun t =>
        (∀ j < n, memRead 0xFF t.mems.flash (slotBase (idleSlot s.dev) + off + j) =
          pkt.getD (28 + j) 0 &&& memRead 0xFF s.dev.mems.flash (slotBase (idleSlot s.dev) + off + j)) ∧
        t.lodge.session = some { x with
          got := [(off, off + n)], unacked := x.unacked + 1, last := s.dev.clock.beat, acked := false } ∧
        t.regs = s.dev.regs ∧ t.mems.dev = s.dev.mems.dev)) ∧
    (∀ peer x, satchelGood pkt = true → leField pkt 5 1 = 7 → s.dev.lodge.session = some x → x.peer = peer → x.id = id →
      (Completes (.satchelEnd peer true pkt) s (fun t => t.lodge.session = none ∧ fld t LD_STATUS 13 12 = 0 ∧
        rbit t LD_STATUS 1 = false ∧ SameRegs [LD_STATUS, ETH_MGMT_TX_FRAMES] s.dev t ∧
        t.lodge.satchelOut = s.dev.lodge.satchelOut ++ [satchelPacket 8 id seq (leBytes 1 5)])) ∧
      (s.dev.lodge.stage ≠ .recovery →
        sha512 (flashBytes s.dev (slotBase (idleSlot s.dev)) x.total) = sliceBytes pkt 24 64 →
        Completes (.satchelEnd peer false pkt) s (fun t => t.lodge.session = none ∧
          fld t LD_STATUS 13 12 =
            (if slotCheck s.dev.lodge.checked (flashSlot s.dev (idleSlot s.dev)) = none then 2 else 0) ∧
          t.lodge.satchelOut = s.dev.lodge.satchelOut ++ [satchelPacket 8 id seq
            (leBytes 1 (resultOf (slotCheck s.dev.lodge.checked (flashSlot s.dev (idleSlot s.dev)))))]))) ∧
    (satchelGood pkt = true → leField pkt 5 1 = 9 →
      (bcbFlag s.dev 1 = false → Completes (.satchelActivate 0 pkt) s (fun t =>
        t = { s.dev with regs := t.regs, eth := t.eth, lodge := { s.dev.lodge with
          satchelOut := s.dev.lodge.satchelOut ++ [satchelPacket 10 id seq (leBytes 1 ldRefused)] } } ∧
        SameRegs [ETH_MGMT_TX_FRAMES] s.dev t)) ∧
      (bcbFlag s.dev 1 = true → s.dev.lodge.stage ≠ .recovery → leField pkt 24 1 = 0 → fld s.dev LD_STATUS 13 12 = 2 →
        fuseCount s.dev.fuses ≤ bcbSvn (stagedBcb s.dev) → s.dev.gate.emergency = false →
        Completes (.satchelActivate 0 pkt) s (fun t => fld t LD_STATUS 11 10 = 1 ∧
          t.lodge.activation = some { slot := idleSlot s.dev, live := false, generation := bcbGeneration (stagedBcb s.dev) } ∧
          t.lodge.satchelOut = s.dev.lodge.satchelOut ++ [satchelPacket 10 id seq (leBytes 1 ldOk)])))) ∧
  (∀ s x, s.dev.lodge.session = some x → satchelOn s.dev = true → x.acked = false → 125000 ≤ s.dev.clock.beat - x.last →
    Completes .satchelAckTimer s (fun t => t.lodge.session = some { x with acked := true, unacked := 0 } ∧
      t.lodge.satchelOut.length = s.dev.lodge.satchelOut.length + 1 ∧
      t = { s.dev with lodge := t.lodge, regs := t.regs, eth := t.eth } ∧ SameRegs [ETH_MGMT_TX_FRAMES] s.dev t)) ∧
  (∀ s a, lodgeUp s.dev = true → s.dev.gate.emergency = false → s.dev.lodge.activation = some a → a.phase = 2 →
    s.dev.lodge.liveDue = false → Completes (.activationResume 1) s (fun t =>
      t.lodge.activation = some { a with phase := 3 } ∧ t.regs = s.dev.regs ∧ t.mems.dev = s.dev.mems.dev ∧
      memRead 0xFF t.mems.flash (recordAddr + 11) = 0)) ∧
  (∀ s n failAt b, s.dev.gate.quietSince = some b → s.dev.gate.emergency = true → 2500000 ≤ totalBeats s.dev - b →
    (lodgeUp s.dev = true → s.dev.lodge.activation = none → s.dev.lodge.fuseDeferred = false →
      Completes (.emergencyClear n failAt) s (fun t =>
        t = { s.dev with regs := t.regs, gate := { s.dev.gate with emergency := false, quietSince := none } } ∧
        rbit t LD_STATUS 9 = false ∧ SameRegs [LD_STATUS] s.dev t)) ∧
    (lodgeUp s.dev = false → Completes (.emergencyClear n failAt) s (fun t =>
      t = { s.dev with gate := { s.dev.gate with emergency := false, quietSince := none } })))

/-! The Gatehouse and the pins (17 R449 to R471; 18 R478 to R492). -/

/-- O59. An epoch takes requests, which show at once, and grants, which apply later; emergencies halve the limit;
limits in range are written; the rail moves by its target; clocks and supplies raise their sources; the pins reset the
device; the TAP's instructions capture, and the pin-controlling ones reset it. Log entries 73 to 76. -/
def Obligations.GatehouseAndPins : Prop :=
  (∀ s temps reqs base, gateRuns s.dev = true → s.dev.clock.beat % 250 = 0 → s.dev.gate.epochBeat ≠ some s.dev.clock.beat →
    (∀ n < 24, 0 ≤ temps.getD n 0 ∧ temps.getD n 0 ≤ 1600) → s.dev.gate.sensors = [] → rbit s.dev GT_STATUS 2 = false →
    Completes (.epochBoundary temps reqs [] base) s (fun t => rd t GT_EPOCH = (rd s.dev GT_EPOCH + 1) % 2 ^ 32 ∧
      rd t GT_PKG_POWER = base % 2 ^ 11 ∧ t.gate.epochBeat = some s.dev.clock.beat ∧ t.gate.applyDue = true ∧
      t.mems = s.dev.mems ∧ t.belv = s.dev.belv ∧ ∀ r < 30, requesterPresent s.dev r = true →
        fld t (GT_GRANT r) 10 0 = fld s.dev (GT_GRANT r) 10 0 ∧
        fld t (GT_GRANT r) 26 16 = requestOf s.dev r (reqs.getD r 0) ∧
        (requesterIdle s.dev r = true → fld t (GT_GRANT r) 26 16 = 0) ∧
        (8 ≤ r → r < 20 → fld t (GT_GRANT r) 26 16 = 2 ∨ fld t (GT_GRANT r) 26 16 = 31) ∧
        (r = 29 → fld t (GT_GRANT r) 26 16 = min (reqs.getD r 0) 44))) ∧
  (∀ s b, s.dev.gate.epochBeat = some b → s.dev.gate.applyDue = true → b * 20 + 250 ≤ s.dev.clock.beat * 20 + s.dev.clock.tick →
    Completes .grantApply s (fun t => t.gate.applyDue = false ∧ SameRegs ((List.range 30).map (fun r => GT_GRANT r)) s.dev t ∧
      ∀ r < 30, requesterPresent s.dev r = true → fld t (GT_GRANT r) 10 0 = (requesterOf s.dev r).next % 2 ^ 11)) ∧
  (∀ s, gateRuns s.dev = true → rbit s.dev GT_STATUS 3 = false → strictMode s.dev = false → MinorAlone s.dev 63 →
    Completes .supplyAlert s (fun t => rbit t GT_STATUS 3 = true ∧ rbit t GT_STATUS 1 = false ∧ t.gate.emergency = true ∧
      rd t GT_EFF_LIMIT = s.dev.gate.limit / 2 % 2 ^ 32 ∧ t.pins.alertN = false ∧ Latched 63 t ∧ t.mems = s.dev.mems)) ∧
  (∀ s, rbit s.dev GT_STATUS 2 = false → s.dev.gate.emergency = true → Completes .supplyAlertExit s (fun t =>
    rbit t GT_STATUS 3 = false ∧ t.pins.alertN = true ∧ t.gate.quietSince = some (totalBeats s.dev - 2500) ∧
    rd t GT_EFF_LIMIT = s.dev.gate.pEff % 2 ^ 32 ∧ SameRegs [GT_STATUS, GT_EFF_LIMIT] s.dev t)) ∧
  (∀ s v x, HostOk s.dev → x = fieldOf v.toNat 10 0 →
    Completes (.powerLimitWrite v) s (fun t => OnlyRegs [GT_LIMIT, GT_STATUS] s.dev t ∧
      (320 ≤ x → x ≤ 1040 → rd t GT_LIMIT = x ∧ rd t GT_STATUS = rd s.dev GT_STATUS) ∧
      (x < 320 ∨ 1040 < x → rd t GT_LIMIT = rd s.dev GT_LIMIT ∧ rbit t GT_STATUS 7 = true)) ∧
    Completes (.reserveWrite v) s (fun t => OnlyRegs [GT_RESERVE, GT_STATUS] s.dev t ∧
      (144 ≤ x → x ≤ 400 → rd t GT_RESERVE = x ∧ rd t GT_STATUS = rd s.dev GT_STATUS) ∧
      (x < 144 ∨ 400 < x → rd t GT_RESERVE = rd s.dev GT_RESERVE ∧ rbit t GT_STATUS 7 = true)) ∧
    (strictRunning s.dev = false → Completes (.strictGrantWrite true v) s (fun t =>
      fld t GT_STRICT_IO 7 0 = fieldOf v.toNat 7 0 ∧ OnlyRegs [GT_STRICT_IO] s.dev t) ∧
      Completes (.strictGrantWrite false v) s (fun t => fld t GT_STRICT_DRAPE 7 0 = fieldOf v.toNat 7 0 ∧
        OnlyRegs [GT_STRICT_DRAPE] s.dev t)) ∧
    (strictRunning s.dev = true → ∀ io, Completes (.strictGrantWrite io v) s (fun t => rbit t GT_STATUS 7 = true ∧
      OnlyRegs [GT_STATUS] s.dev t))) ∧
  (∀ s mv x, gateRuns s.dev = true → s.dev.gate.avsTarget = none → s.dev.gate.avsStopped = false → avsDue s.dev = true →
    x = (if rbit s.dev GT_CTRL 1 then railStep (mv + 15) else 720) → x ≠ s.dev.gate.millivolts →
    (s.dev.gate.rising = [] → Completes (.avsEvaluation mv) s (fun t => t = { s.dev with gate := {
      s.dev.gate with avsTarget := some x, avsFailures := 0, avsEpochs := 0, riseAt := none } })) ∧
    (s.dev.gate.rising ≠ [] → s.dev.gate.millivolts < x → Completes (.avsEvaluation mv) s (fun t => t = { s.dev with gate := {
      s.dev.gate with avsTarget := some x, avsFailures := 0, avsEpochs := 0, riseAt := some x } }))) ∧
  (∀ s mv, avsDue s.dev = false → Completes (.avsEvaluation mv) s (fun t => t = s.dev)) ∧
  (∀ s x n, s.dev.gate.avsTarget = some x → s.dev.gate.riseAt = some x → s.dev.gate.rising = [(n, 0)] → n < 48 →
    Completes .avsAck s (fun t => rd t (GT_FREQ n) = 0 ∧ OnlyRegs [GT_FREQ n] { s.dev with gate := t.gate } t ∧
      t.gate = { s.dev.gate with millivolts := x, avsTarget := none, avsFailures := 0, rising := [], riseAt := none })) ∧
  (∀ s x, s.dev.gate.avsTarget = some x →
    ((∀ v, s.dev.gate.riseAt = some v → x < v) → Completes .avsAck s (fun t =>
      t = { s.dev with gate := { s.dev.gate with millivolts := x, avsTarget := none, avsFailures := 0 } })) ∧
    (s.dev.gate.avsFailures < 2 → Completes .avsTimeout s (fun t =>
      t = { s.dev with gate := { s.dev.gate with avsFailures := s.dev.gate.avsFailures + 1 } })) ∧
    (2 ≤ s.dev.gate.avsFailures → Completes .avsTimeout s (fun t =>
      t = { s.dev with gate := {
        s.dev.gate with avsTarget := none, avsFailures := 0, avsStopped := true, rising := [], riseAt := none } }))) ∧
  (∀ s mv x, gateRuns s.dev = true → rbit s.dev GT_CTRL 1 = true → s.dev.gate.avsStopped = false →
    x = railStep (max (max mv (s.dev.gate.avsTarget.getD 0)) (s.dev.gate.millivolts + 5)) → x ≠ s.dev.gate.millivolts → Completes (.speedMonitorFail mv) s (fun t =>
      t = { s.dev with gate := { s.dev.gate with avsTarget := some x, avsFailures := 0 } })) ∧
  (∀ s absent n rail, s.dev.lodge.stage ≠ .reset →
    (MinorAlone s.dev 72 → Completes (.sysclkLoss absent) s (fun t => Latched 72 t ∧
      t.belv.sysclkLost = (absent || s.dev.belv.sysclkLost) ∧ t.mems = s.dev.mems)) ∧
    (MinorAlone s.dev 73 → domainPresent s.dev n = true → Completes (.pllUnlock n) s (fun t => Latched 73 t ∧
      t.mems = s.dev.mems)) ∧
    (MinorAlone s.dev 84 → s.dev.pins.pwrGood = true → (rail = 1 ∨ rail = 2) →
      Completes (.railOutOfTolerance rail) s (fun t => Latched 84 t ∧ t.mems = s.dev.mems))) ∧
  (∀ s, Completes .sysclkRestored s (fun t => t = { s.dev with belv := { s.dev.belv with sysclkLost := false } }) ∧
    Completes .powerLoss s (fun t => t.pins.pwrGood = false ∧ t.pins.banks = [] ∧ t.gate = {} ∧ t.regs = [] ∧
      t.mems.dev = [] ∧ t.fuses = s.dev.fuses ∧ t.mems.flash = s.dev.mems.flash) ∧
    Completes (.systemReset true) s (fun t => t.pins = { s.dev.pins with sysResetN := false } ∧ t.regs = [] ∧
      t.mems.dev = [] ∧ t.fuses = s.dev.fuses ∧ t.mems.flash = s.dev.mems.flash ∧ t.mems.host = s.dev.mems.host) ∧
    Completes (.systemReset false) s (fun t => t = { s.dev with pins := { s.dev.pins with sysResetN := true } }) ∧
    (s.dev.pins.pwrGood = true → Completes .thermalTrip s (fun t => t.pins = { s.dev.pins with thermTrip := true } ∧
      t.regs = [] ∧ t.fuses = s.dev.fuses))) ∧
  (∀ s b, b < 3 → b ∉ s.dev.pins.banks → Completes (.bankInTolerance b) s (fun t =>
    t.pins.banks = s.dev.pins.banks ++ [b] ∧ (b = 0 → t.pins.tap.ir = 1) ∧ t = { s.dev with pins := t.pins })) ∧
  (∀ s pins cells op, tapPowered s.dev = true →
    Completes .tapReset s (fun t => t.pins.tap = { s.dev.pins.tap with ir := 1, captured := 0x10880A5D } ∧
      t = { s.dev with pins := t.pins }) ∧
    Completes (.samplePreload pins (some cells)) s (fun t => t = { s.dev with pins := t.pins } ∧ t.pins.tap = {
      s.dev.pins.tap with ir := 2, captured := pins % 2 ^ 304, boundary := cells % 2 ^ 304 }) ∧
    Completes (.extest pins (some cells)) s (fun t => t.regs = [] ∧ t.fuses = s.dev.fuses ∧ t.pins.tap = {
      s.dev.pins.tap with ir := 0, captured := pins % 2 ^ 304, boundary := cells % 2 ^ 304 }) ∧
    Completes (.extestPulse pins none) s (fun t => t.regs = [] ∧
      t.pins.tap = { s.dev.pins.tap with ir := 6, captured := pins % 2 ^ 304 }) ∧
    Completes (.extestTrain pins none) s (fun t => t.regs = [] ∧
      t.pins.tap = { s.dev.pins.tap with ir := 7, captured := pins % 2 ^ 304 }) ∧
    Completes .clamp s (fun t => t.regs = [] ∧ t.pins.tap.ir = 4) ∧
    Completes .highz s (fun t => t.regs = [] ∧ t.pins.tap.ir = 5) ∧
    (op < 256 → op ∉ [0, 1, 2, 4, 5, 6, 7] → Completes (.bypass op) s (fun t => t.pins.tap.ir = op ∧
      t = { s.dev with pins := t.pins })))

/-- O60. 18 R489: IDCODE selects the identification register, which reads 0x1088_0A5D on every member: version 1, part
0x0880, manufacturer 0x52E, a one. -/
def Obligations.TapIdentification : Prop :=
  (∀ s, tapPowered s.dev = true → Completes .idcode s (fun t => t.pins.tap.captured = 0x10880A5D ∧
    fieldOf t.pins.tap.captured 31 28 = 1 ∧ fieldOf t.pins.tap.captured 27 12 = 0x0880 ∧
    fieldOf t.pins.tap.captured 11 1 = 0x52E ∧ bitOf t.pins.tap.captured 0 = true ∧
    t.pins.tap = { s.dev.pins.tap with ir := 1, captured := 0x10880A5D } ∧ t = { s.dev with pins := t.pins })) ∧
  (∀ s, tapPowered s.dev = false → Completes .idcode s (fun t => t = s.dev))
end

