-- ==== Sys2Proof/Laws/Mem.lean ====
section
/-! SUPPORT. Laws of sparse tables and of byte memories: read after write, and the canonical form. -/
namespace Sys2Proof.Machine

variable {α : Type}

@[simp] theorem tabFind_put_same (k : Nat) (v : α) (t : List (Nat × α)) : tabFind k (tabPut k v t) = some v := by
  induction t with
  | nil => simp [tabPut, tabFind]
  | cons c t ih =>
    obtain ⟨j, w⟩ := c
    simp only [tabPut]
    split
    · simp [tabFind]
    · split
      · simp [tabFind]
      · simp [tabFind, *]

@[simp] theorem tabFind_put_other {j k : Nat} (h : j ≠ k) (v : α) (t : List (Nat × α)) :
    tabFind j (tabPut k v t) = tabFind j t := by
  induction t with
  | nil => simp [tabPut, tabFind, Ne.symm h]
  | cons c t ih =>
    obtain ⟨i, w⟩ := c
    simp only [tabPut]
    split
    · simp [tabFind, Ne.symm h]
    · split
      · subst_vars; simp [tabFind, Ne.symm h]
      · simp [tabFind, ih]

@[simp] theorem tabFind_erase_same (k : Nat) (t : List (Nat × α)) : tabFind k (tabErase k t) = none := by
  induction t with
  | nil => rfl
  | cons c t ih =>
    obtain ⟨j, w⟩ := c
    simp only [tabErase]
    split
    · exact ih
    · simp [tabFind, *]

@[simp] theorem tabFind_erase_other {j k : Nat} (h : j ≠ k) (t : List (Nat × α)) :
    tabFind j (tabErase k t) = tabFind j t := by
  induction t with
  | nil => rfl
  | cons c t ih =>
    obtain ⟨i, w⟩ := c
    simp only [tabErase]
    split
    · subst_vars; simp [tabFind, ih, Ne.symm h]
    · simp [tabFind, ih]

@[simp] theorem tabGet_set_same [DecidableEq α] (dflt : α) (t : List (Nat × α)) (k : Nat) (v : α) :
    tabGet dflt (tabSet dflt t k v) k = v := by
  unfold tabGet tabSet
  split <;> simp [*]

@[simp] theorem tabGet_set_other [DecidableEq α] (dflt e : α) (t : List (Nat × α)) {j k : Nat} (h : j ≠ k) (v : α) :
    tabGet e (tabSet dflt t k v) j = tabGet e t j := by
  unfold tabGet tabSet
  split <;> simp [h]

@[simp] theorem tabGet_put_same (dflt : α) (t : List (Nat × α)) (k : Nat) (v : α) :
    tabGet dflt (tabPut k v t) k = v := by simp [tabGet]

@[simp] theorem tabGet_put_other (dflt : α) (t : List (Nat × α)) {j k : Nat} (h : j ≠ k) (v : α) :
    tabGet dflt (tabPut k v t) j = tabGet dflt t j := by simp [tabGet, h]

/-! The canonical form. -/

/-- Every listed key is at least `lo`. -/
theorem tabRising_cons {j : Nat} {w : α} {t : List (Nat × α)} :
    tabRising ((j, w) :: t) = true ↔ (∀ c ∈ t, j < c.1) ∧ tabRising t = true := by
  induction t generalizing j w with
  | nil => simp [tabRising]
  | cons c t ih =>
    obtain ⟨k, v⟩ := c
    simp only [tabRising, Bool.and_eq_true, decide_eq_true_eq, List.mem_cons, forall_eq_or_imp]
    constructor
    · rintro ⟨h, r⟩
      exact ⟨⟨h, fun c hc => Nat.lt_trans h ((ih.1 r).1 c hc)⟩, r⟩
    · rintro ⟨⟨h, -⟩, r⟩
      exact ⟨h, r⟩

theorem mem_tabPut {k : Nat} {v : α} {t : List (Nat × α)} {c : Nat × α} (h : c ∈ tabPut k v t) : c = (k, v) ∨ c ∈ t := by
  induction t with
  | nil => simpa [tabPut] using h
  | cons d t ih =>
    obtain ⟨j, w⟩ := d
    simp only [tabPut] at h
    split at h
    · simpa using h
    · split at h
      · rcases List.mem_cons.1 h with h | h <;> simp [h]
      · rcases List.mem_cons.1 h with h | h
        · simp [h]
        · rcases ih h with h | h <;> simp [h]

theorem mem_tabErase {k : Nat} {t : List (Nat × α)} {c : Nat × α} (h : c ∈ tabErase k t) : c ∈ t := by
  induction t with
  | nil => exact h
  | cons d t ih =>
    obtain ⟨j, w⟩ := d
    simp only [tabErase] at h
    split at h
    · exact List.mem_cons_of_mem _ (ih h)
    · rcases List.mem_cons.1 h with h | h
      · simp [h]
      · exact List.mem_cons_of_mem _ (ih h)

theorem tabRising_put (k : Nat) (v : α) {t : List (Nat × α)} (h : tabRising t = true) : tabRising (tabPut k v t) = true := by
  induction t with
  | nil => rfl
  | cons d t ih =>
    obtain ⟨j, w⟩ := d
    have r := tabRising_cons.1 h
    simp only [tabPut]
    split
    · rename_i lt
      refine tabRising_cons.2 ⟨?_, h⟩
      rintro c hc
      rcases List.mem_cons.1 hc with hc | hc
      · simpa [hc] using lt
      · exact Nat.lt_trans lt (r.1 c hc)
    · split
      · rename_i e
        subst e
        exact tabRising_cons.2 r
      · refine tabRising_cons.2 ⟨fun c hc => ?_, ih r.2⟩
        rcases mem_tabPut hc with hc | hc
        · simp only [hc]; omega
        · exact r.1 c hc

theorem tabRising_erase (k : Nat) {t : List (Nat × α)} (h : tabRising t = true) : tabRising (tabErase k t) = true := by
  induction t with
  | nil => rfl
  | cons d t ih =>
    obtain ⟨j, w⟩ := d
    have r := tabRising_cons.1 h
    simp only [tabErase]
    split
    · exact ih r.2
    · exact tabRising_cons.2 ⟨fun c hc => r.1 c (mem_tabErase hc), ih r.2⟩

theorem tabRising_filter (p : Nat × α → Bool) {t : List (Nat × α)} (h : tabRising t = true) :
    tabRising (t.filter p) = true := by
  induction t with
  | nil => rfl
  | cons d t ih =>
    obtain ⟨j, w⟩ := d
    have r := tabRising_cons.1 h
    simp only [List.filter_cons]
    split
    · exact tabRising_cons.2 ⟨fun c hc => r.1 c (List.mem_filter.1 hc).1, ih r.2⟩
    · exact ih r.2

/-- Writing a byte keeps the canonical form. -/
theorem memWrite_wf (dflt : Byte) (m : Memory) (a : Nat) (b : Byte) (h : m.wf dflt = true) :
    (memWrite dflt m a b).wf dflt = true := by
  simp only [Memory.wf, Bool.and_eq_true, List.all_eq_true] at h ⊢
  unfold memWrite tabSet
  split
  · exact ⟨tabRising_erase a h.1, fun c hc => h.2 c (mem_tabErase hc)⟩
  · refine ⟨tabRising_put a b h.1, fun c hc => ?_⟩
    rcases mem_tabPut hc with hc | hc
    · simpa [hc] using ‹¬ b = dflt›
    · exact h.2 c hc

/-- Writing bytes keeps the canonical form. -/
theorem memWriteN_wf (dflt : Byte) (bs : List Byte) (m : Memory) (a : Nat) (h : m.wf dflt = true) :
    (memWriteN dflt m a bs).wf dflt = true := by
  induction bs generalizing m a with
  | nil => exact h
  | cons b bs ih => exact ih _ _ (memWrite_wf dflt m a b h)

/-- Clearing a range keeps the canonical form. -/
theorem memClear_wf (dflt : Byte) (m : Memory) (lo hi : Nat) (h : m.wf dflt = true) :
    (memClear m lo hi).wf dflt = true := by
  simp only [Memory.wf, Bool.and_eq_true, List.all_eq_true] at h ⊢
  exact ⟨tabRising_filter _ h.1, fun c hc => h.2 c (List.mem_filter.1 hc).1⟩

/-- The empty memory is canonical. -/
theorem nil_wf (dflt : Byte) : Memory.wf dflt [] = true := rfl

/-! Read after write. -/

@[simp] theorem memRead_write_same (dflt : Byte) (m : Memory) (a : Nat) (b : Byte) :
    memRead dflt (memWrite dflt m a b) a = b := by simp [memRead, memWrite]

@[simp] theorem memRead_write_other (dflt : Byte) (m : Memory) {a c : Nat} (b : Byte) (h : c ≠ a) :
    memRead dflt (memWrite dflt m a b) c = memRead dflt m c := by simp [memRead, memWrite, h]

/-- A byte outside the written range reads as before. -/
theorem memRead_writeN_outside (dflt : Byte) (bs : List Byte) (m : Memory) (a c : Nat) (h : c < a ∨ a + bs.length ≤ c) :
    memRead dflt (memWriteN dflt m a bs) c = memRead dflt m c := by
  induction bs generalizing m a with
  | nil => rfl
  | cons b bs ih =>
    simp only [List.length_cons] at h
    rw [memWriteN, ih _ _ (by omega), memRead_write_other]
    omega

/-- A byte of the written range reads as the byte written. -/
theorem memRead_writeN_inside (dflt : Byte) (bs : List Byte) (m : Memory) (a i : Nat) (h : i < bs.length) :
    memRead dflt (memWriteN dflt m a bs) (a + i) = bs[i] := by
  induction bs generalizing m a i with
  | nil => simp at h
  | cons b bs ih =>
    cases i with
    | zero => rw [memWriteN, memRead_writeN_outside _ _ _ _ _ (by omega)]; simp
    | succ i =>
      have := ih (memWrite dflt m a b) (a + 1) i (by simpa using h)
      rw [memWriteN, show a + (i + 1) = a + 1 + i by omega, this]
      rfl

/-- A cleared range reads as the default, the rest as before. -/
theorem memRead_clear (dflt : Byte) (m : Memory) (lo hi a : Nat) :
    memRead dflt (memClear m lo hi) a = if lo ≤ a ∧ a < hi then dflt else memRead dflt m a := by
  induction m with
  | nil => simp [memClear, memRead, tabGet, tabFind]
  | cons c m ih =>
    obtain ⟨j, w⟩ := c
    simp only [memClear, memRead, tabGet, List.filter_cons] at ih ⊢
    by_cases hj : j = a
    · subst hj
      by_cases hr : lo ≤ j ∧ j < hi
      · have : (decide (j < lo) || decide (hi ≤ j)) = false := by simp; omega
        simp only [this, hr, and_self, if_true] at ih ⊢
        simpa [hr] using ih
      · have : (decide (j < lo) || decide (hi ≤ j)) = true := by simp; omega
        simp only [this, if_true, tabFind, if_neg hr, Option.getD_some]
    · split
      · simpa [tabFind, hj] using ih
      · simpa [tabFind, hj] using ih

end Sys2Proof.Machine
end

