-- ==== Sys2Proof/Laws/State.lean ====
section
/-! SUPPORT. What the shared operations change: one lemma per field of Device and operation, and the register reads. -/
namespace Sys2Proof.Machine

/-! The primitive operations, field by field. -/

@[simp] theorem wr_mems (off v : Nat) (d : Device) : (wr off v d).mems = d.mems := rfl
@[simp] theorem wr_chip (off v : Nat) (d : Device) : (wr off v d).chip = d.chip := rfl
@[simp] theorem wr_clock (off v : Nat) (d : Device) : (wr off v d).clock = d.clock := rfl
@[simp] theorem wr_link (off v : Nat) (d : Device) : (wr off v d).link = d.link := rfl
@[simp] theorem wr_hostif (off v : Nat) (d : Device) : (wr off v d).hostif = d.hostif := rfl
@[simp] theorem wr_cloak (off v : Nat) (d : Device) : (wr off v d).cloak = d.cloak := rfl
@[simp] theorem wr_serve (off v : Nat) (d : Device) : (wr off v d).serve = d.serve := rfl
@[simp] theorem wr_comp (off v : Nat) (d : Device) : (wr off v d).comp = d.comp := rfl
@[simp] theorem wr_belv (off v : Nat) (d : Device) : (wr off v d).belv = d.belv := rfl
@[simp] theorem wr_gate (off v : Nat) (d : Device) : (wr off v d).gate = d.gate := rfl
@[simp] theorem wr_cloche (off v : Nat) (d : Device) : (wr off v d).cloche = d.cloche := rfl
@[simp] theorem wr_drape (off v : Nat) (d : Device) : (wr off v d).drape = d.drape := rfl
@[simp] theorem wr_sense (off v : Nat) (d : Device) : (wr off v d).sense = d.sense := rfl
@[simp] theorem wr_can (off v : Nat) (d : Device) : (wr off v d).can = d.can := rfl
@[simp] theorem wr_tower (off v : Nat) (d : Device) : (wr off v d).tower = d.tower := rfl
@[simp] theorem wr_eth (off v : Nat) (d : Device) : (wr off v d).eth = d.eth := rfl
@[simp] theorem wr_fuses (off v : Nat) (d : Device) : (wr off v d).fuses = d.fuses := rfl
@[simp] theorem wr_lodge (off v : Nat) (d : Device) : (wr off v d).lodge = d.lodge := rfl
@[simp] theorem wr_pins (off v : Nat) (d : Device) : (wr off v d).pins = d.pins := rfl
@[simp] theorem wr_freeCtr (off v : Nat) (d : Device) : (wr off v d).freeCtr = d.freeCtr := rfl

@[simp] theorem memPut_regs (a : Nat) (bs : List Byte) (d : Device) : (memPut a bs d).regs = d.regs := rfl
@[simp] theorem memPut_chip (a : Nat) (bs : List Byte) (d : Device) : (memPut a bs d).chip = d.chip := rfl
@[simp] theorem memPut_clock (a : Nat) (bs : List Byte) (d : Device) : (memPut a bs d).clock = d.clock := rfl
@[simp] theorem memPut_link (a : Nat) (bs : List Byte) (d : Device) : (memPut a bs d).link = d.link := rfl
@[simp] theorem memPut_hostif (a : Nat) (bs : List Byte) (d : Device) : (memPut a bs d).hostif = d.hostif := rfl
@[simp] theorem memPut_cloak (a : Nat) (bs : List Byte) (d : Device) : (memPut a bs d).cloak = d.cloak := rfl
@[simp] theorem memPut_serve (a : Nat) (bs : List Byte) (d : Device) : (memPut a bs d).serve = d.serve := rfl
@[simp] theorem memPut_comp (a : Nat) (bs : List Byte) (d : Device) : (memPut a bs d).comp = d.comp := rfl
@[simp] theorem memPut_belv (a : Nat) (bs : List Byte) (d : Device) : (memPut a bs d).belv = d.belv := rfl
@[simp] theorem memPut_gate (a : Nat) (bs : List Byte) (d : Device) : (memPut a bs d).gate = d.gate := rfl
@[simp] theorem memPut_cloche (a : Nat) (bs : List Byte) (d : Device) : (memPut a bs d).cloche = d.cloche := rfl
@[simp] theorem memPut_drape (a : Nat) (bs : List Byte) (d : Device) : (memPut a bs d).drape = d.drape := rfl
@[simp] theorem memPut_sense (a : Nat) (bs : List Byte) (d : Device) : (memPut a bs d).sense = d.sense := rfl
@[simp] theorem memPut_can (a : Nat) (bs : List Byte) (d : Device) : (memPut a bs d).can = d.can := rfl
@[simp] theorem memPut_tower (a : Nat) (bs : List Byte) (d : Device) : (memPut a bs d).tower = d.tower := rfl
@[simp] theorem memPut_eth (a : Nat) (bs : List Byte) (d : Device) : (memPut a bs d).eth = d.eth := rfl
@[simp] theorem memPut_fuses (a : Nat) (bs : List Byte) (d : Device) : (memPut a bs d).fuses = d.fuses := rfl
@[simp] theorem memPut_lodge (a : Nat) (bs : List Byte) (d : Device) : (memPut a bs d).lodge = d.lodge := rfl
@[simp] theorem memPut_pins (a : Nat) (bs : List Byte) (d : Device) : (memPut a bs d).pins = d.pins := rfl
@[simp] theorem memPut_freeCtr (a : Nat) (bs : List Byte) (d : Device) : (memPut a bs d).freeCtr = d.freeCtr := rfl

@[simp] theorem memZero_regs (a n : Nat) (d : Device) : (memZero a n d).regs = d.regs := rfl
@[simp] theorem memZero_chip (a n : Nat) (d : Device) : (memZero a n d).chip = d.chip := rfl
@[simp] theorem memZero_clock (a n : Nat) (d : Device) : (memZero a n d).clock = d.clock := rfl
@[simp] theorem memZero_link (a n : Nat) (d : Device) : (memZero a n d).link = d.link := rfl
@[simp] theorem memZero_hostif (a n : Nat) (d : Device) : (memZero a n d).hostif = d.hostif := rfl
@[simp] theorem memZero_cloak (a n : Nat) (d : Device) : (memZero a n d).cloak = d.cloak := rfl
@[simp] theorem memZero_serve (a n : Nat) (d : Device) : (memZero a n d).serve = d.serve := rfl
@[simp] theorem memZero_comp (a n : Nat) (d : Device) : (memZero a n d).comp = d.comp := rfl
@[simp] theorem memZero_belv (a n : Nat) (d : Device) : (memZero a n d).belv = d.belv := rfl
@[simp] theorem memZero_gate (a n : Nat) (d : Device) : (memZero a n d).gate = d.gate := rfl
@[simp] theorem memZero_cloche (a n : Nat) (d : Device) : (memZero a n d).cloche = d.cloche := rfl
@[simp] theorem memZero_drape (a n : Nat) (d : Device) : (memZero a n d).drape = d.drape := rfl
@[simp] theorem memZero_sense (a n : Nat) (d : Device) : (memZero a n d).sense = d.sense := rfl
@[simp] theorem memZero_can (a n : Nat) (d : Device) : (memZero a n d).can = d.can := rfl
@[simp] theorem memZero_tower (a n : Nat) (d : Device) : (memZero a n d).tower = d.tower := rfl
@[simp] theorem memZero_eth (a n : Nat) (d : Device) : (memZero a n d).eth = d.eth := rfl
@[simp] theorem memZero_fuses (a n : Nat) (d : Device) : (memZero a n d).fuses = d.fuses := rfl
@[simp] theorem memZero_lodge (a n : Nat) (d : Device) : (memZero a n d).lodge = d.lodge := rfl
@[simp] theorem memZero_pins (a n : Nat) (d : Device) : (memZero a n d).pins = d.pins := rfl
@[simp] theorem memZero_freeCtr (a n : Nat) (d : Device) : (memZero a n d).freeCtr = d.freeCtr := rfl

@[simp] theorem answerHost_regs (bs : List Byte) (d : Device) : (answerHost bs d).regs = d.regs := rfl
@[simp] theorem answerHost_mems (bs : List Byte) (d : Device) : (answerHost bs d).mems = d.mems := rfl
@[simp] theorem answerHost_chip (bs : List Byte) (d : Device) : (answerHost bs d).chip = d.chip := rfl
@[simp] theorem answerHost_clock (bs : List Byte) (d : Device) : (answerHost bs d).clock = d.clock := rfl
@[simp] theorem answerHost_link (bs : List Byte) (d : Device) : (answerHost bs d).link = d.link := rfl
@[simp] theorem answerHost_cloak (bs : List Byte) (d : Device) : (answerHost bs d).cloak = d.cloak := rfl
@[simp] theorem answerHost_serve (bs : List Byte) (d : Device) : (answerHost bs d).serve = d.serve := rfl
@[simp] theorem answerHost_comp (bs : List Byte) (d : Device) : (answerHost bs d).comp = d.comp := rfl
@[simp] theorem answerHost_belv (bs : List Byte) (d : Device) : (answerHost bs d).belv = d.belv := rfl
@[simp] theorem answerHost_gate (bs : List Byte) (d : Device) : (answerHost bs d).gate = d.gate := rfl
@[simp] theorem answerHost_cloche (bs : List Byte) (d : Device) : (answerHost bs d).cloche = d.cloche := rfl
@[simp] theorem answerHost_drape (bs : List Byte) (d : Device) : (answerHost bs d).drape = d.drape := rfl
@[simp] theorem answerHost_sense (bs : List Byte) (d : Device) : (answerHost bs d).sense = d.sense := rfl
@[simp] theorem answerHost_can (bs : List Byte) (d : Device) : (answerHost bs d).can = d.can := rfl
@[simp] theorem answerHost_tower (bs : List Byte) (d : Device) : (answerHost bs d).tower = d.tower := rfl
@[simp] theorem answerHost_eth (bs : List Byte) (d : Device) : (answerHost bs d).eth = d.eth := rfl
@[simp] theorem answerHost_fuses (bs : List Byte) (d : Device) : (answerHost bs d).fuses = d.fuses := rfl
@[simp] theorem answerHost_lodge (bs : List Byte) (d : Device) : (answerHost bs d).lodge = d.lodge := rfl
@[simp] theorem answerHost_pins (bs : List Byte) (d : Device) : (answerHost bs d).pins = d.pins := rfl
@[simp] theorem answerHost_freeCtr (bs : List Byte) (d : Device) : (answerHost bs d).freeCtr = d.freeCtr := rfl

@[simp] theorem nextFree_regs (d : Device) : (nextFree d).regs = d.regs := rfl
@[simp] theorem nextFree_mems (d : Device) : (nextFree d).mems = d.mems := rfl
@[simp] theorem nextFree_chip (d : Device) : (nextFree d).chip = d.chip := rfl
@[simp] theorem nextFree_clock (d : Device) : (nextFree d).clock = d.clock := rfl
@[simp] theorem nextFree_link (d : Device) : (nextFree d).link = d.link := rfl
@[simp] theorem nextFree_hostif (d : Device) : (nextFree d).hostif = d.hostif := rfl
@[simp] theorem nextFree_cloak (d : Device) : (nextFree d).cloak = d.cloak := rfl
@[simp] theorem nextFree_serve (d : Device) : (nextFree d).serve = d.serve := rfl
@[simp] theorem nextFree_comp (d : Device) : (nextFree d).comp = d.comp := rfl
@[simp] theorem nextFree_belv (d : Device) : (nextFree d).belv = d.belv := rfl
@[simp] theorem nextFree_gate (d : Device) : (nextFree d).gate = d.gate := rfl
@[simp] theorem nextFree_cloche (d : Device) : (nextFree d).cloche = d.cloche := rfl
@[simp] theorem nextFree_drape (d : Device) : (nextFree d).drape = d.drape := rfl
@[simp] theorem nextFree_sense (d : Device) : (nextFree d).sense = d.sense := rfl
@[simp] theorem nextFree_can (d : Device) : (nextFree d).can = d.can := rfl
@[simp] theorem nextFree_tower (d : Device) : (nextFree d).tower = d.tower := rfl
@[simp] theorem nextFree_eth (d : Device) : (nextFree d).eth = d.eth := rfl
@[simp] theorem nextFree_fuses (d : Device) : (nextFree d).fuses = d.fuses := rfl
@[simp] theorem nextFree_lodge (d : Device) : (nextFree d).lodge = d.lodge := rfl
@[simp] theorem nextFree_pins (d : Device) : (nextFree d).pins = d.pins := rfl

/-! Registers. -/

@[simp] theorem rd_wr_same (off v : Nat) (d : Device) : rd (wr off v d) off = v % 2 ^ 32 := by
  simp [rd, wr]

theorem rd_wr_other {off o : Nat} (h : o ≠ off) (v : Nat) (d : Device) : rd (wr off v d) o = rd d o := by
  simp [rd, wr, h]

/-- Reading a register after a write of another or of the same one. -/
theorem rd_wr (off o v : Nat) (d : Device) : rd (wr off v d) o = if o = off then v % 2 ^ 32 else rd d o := by
  split
  · subst_vars; simp
  · rename_i h; exact rd_wr_other h v d

/-- A register holds 32 bits. -/
theorem rd_lt (d : Device) (off : Nat) : rd d off < 2 ^ 32 := BitVec.isLt _

@[simp] theorem rd_memPut (a : Nat) (bs : List Byte) (d : Device) (o : Nat) : rd (memPut a bs d) o = rd d o := rfl
@[simp] theorem rd_memZero (a n : Nat) (d : Device) (o : Nat) : rd (memZero a n d) o = rd d o := rfl
@[simp] theorem rd_answerHost (bs : List Byte) (d : Device) (o : Nat) : rd (answerHost bs d) o = rd d o := rfl
@[simp] theorem rd_nextFree (d : Device) (o : Nat) : rd (nextFree d) o = rd d o := rfl

/-- Two devices with the same register store read alike. -/
theorem rd_congr {d e : Device} (h : e.regs = d.regs) (o : Nat) : rd e o = rd d o := by simp [rd, h]

/-- `setFld`, `setBit`, `orBits`, `countBy` and `addWrap` are writes of the device. -/
theorem setFld_eq (off hi lo v : Nat) (d : Device) : setFld off hi lo v d = wr off (putField (rd d off) hi lo v) d := rfl
theorem setBit_eq (off i : Nat) (b : Bool) (d : Device) : setBit off i b d = wr off (putBit (rd d off) i b) d := rfl
theorem orBits_eq (off mask : Nat) (d : Device) : orBits off mask d = wr off (rd d off ||| mask) d := rfl
theorem countBy_eq (off n : Nat) (d : Device) : countBy off n d = wr off (satAdd32 (rd d off) n) d := rfl
theorem countUp_eq (off : Nat) (d : Device) : countUp off d = wr off (satAdd32 (rd d off) 1) d := rfl
theorem addWrap_eq (off n : Nat) (d : Device) : addWrap off n d = wr off ((rd d off + n) % 2 ^ 32) d := rfl

/-- A write changes one register and nothing else. -/
theorem wr_only (off v : Nat) (d : Device) :
    wr off v d = { d with regs := (wr off v d).regs } ∧ ∀ o, o ≠ off → rd (wr off v d) o = rd d o :=
  ⟨rfl, fun _ h => rd_wr_other h v d⟩

/-! Device memory. -/

/-- A write of device memory: the bytes written, every other byte as before, the other memories untouched. -/
theorem memPut_bytes (a : Nat) (bs : List Byte) (d : Device) :
    (∀ i (h : i < bs.length), memRead 0 (memPut a bs d).mems.dev (a + i) = bs[i]) ∧
    (∀ x, ¬ (a ≤ x ∧ x < a + bs.length) → memRead 0 (memPut a bs d).mems.dev x = memRead 0 d.mems.dev x) ∧
    (memPut a bs d).mems.host = d.mems.host ∧ (memPut a bs d).mems.flash = d.mems.flash ∧
    (memPut a bs d).mems.code = d.mems.code := by
  refine ⟨fun i h => memRead_writeN_inside 0 bs _ a i h, fun x h => ?_, rfl, rfl, rfl⟩
  exact memRead_writeN_outside 0 bs _ a x (by omega)

end Sys2Proof.Machine
end

