-- ==== Sys2Proof/Tests/Slice0.lean ====
section
/-! SUPPORT. The model's own tests: ill-formed commands that WellFormed refuses, single steps against the spec's words, and
for every statement of Certificates/Slice0 a state that meets its hypotheses. -/
namespace Sys2Proof.Tests
open Sys2Proof.Machine
set_option Elab.async false

/-- A state with the registers `rs` as given. -/
def withRegs (rs : List (Nat × Nat)) (d : Device) : Device := forEach rs (fun r d => wr r.1 r.2 d) d

/-- A Ready device with its link in L0, and the registers `rs`. -/
def readyDev (rs : List (Nat × Nat)) : Device := withRegs ((DEV_STATUS, 1) :: rs) { link := { l0 := true, busMaster := true } }

/-- The state of `readyDev`. -/
def up (rs : List (Nat × Nat)) : State := { dev := readyDev rs }

/-- The state of `readyDev` after `f`. -/
def upw (rs : List (Nat × Nat)) (f : Device → Device) : State := { dev := f (readyDev rs) }

/-- `n` bytes with the fields (offset, length, value). -/
def bytesOf (n : Nat) (fs : List (Nat × Nat × Nat)) : List Byte :=
  fs.foldl (fun b f => overlay b f.1 (leBytes f.2.1 f.2.2)) (List.replicate n 0)

/-- A descriptor of 64 bytes. -/
def desc (fs : List (Nat × Nat × Nat)) : List Byte := bytesOf 64 fs

/-- Enabled queue 16: rings of 16 entries in device memory at 0x10000 and 0x20000, class RT. -/
def queueRegs : List (Nat × Nat) :=
  [(CK_Q_CFG 16, 0x40031), (CK_Q_SQ_BASE_LO 16, 0x10000), (CK_Q_CQ_BASE_LO 16, 0x20000)]

/-- Queue 16 with the head `x`. -/
def headed (x : List Byte) (rs : List (Nat × Nat)) (f : Device → Device) : State :=
  upw (queueRegs ++ rs) (fun d => f (setQueue 16 { head := some x, effClass := 0, baseClass := 0 } d))

/-- Queue 16 with a command in flight of descriptor `x`. -/
def running (x : List Byte) (rs : List (Nat × Nat)) (f : Device → Device) : State :=
  upw (queueRegs ++ rs) (fun d => f (setQueue 16 { cmd := some { desc := x, ticket := 16, cls := 0 }, effClass := 0, baseClass := 0 } d))

/-- The bytes at `a` with the fields (offset, length, value). -/
def putFields (a : Nat) (fs : List (Nat × Nat × Nat)) (d : Device) : Device :=
  forEach fs (fun f d => memPutNat (a + f.1) f.2.1 f.2.2 d) d

/-- Every feature accepted. -/
def allFeatures (d : Device) : Device := { d with hostif := { d.hostif with featAccepted := 0xFF } }

/-- An image of one step program of one listed segment of pavilion 0, whose stream of `n` instructions stands at offset
576, with the further fields `fs`. -/
def imageFields (n : Nat) (fs : List (Nat × Nat × Nat)) : List (Nat × Nat × Nat) :=
  [(6, 1, 1), (8, 1, 3), (96, 4, 256), (100, 4, 48), (104, 4, 320), (108, 4, 64), (136, 4, 512), (140, 4, 1024),
   (144, 4, 2048), (148, 4, 400), (160, 4, 2560), (164, 4, 64), (168, 4, 2688), (172, 4, 64), (184, 4, 2816), (188, 4, 64),
   (260, 2, 1), (262, 1, 1), (263, 1, 1), (320, 1, 1), (321, 1, 1), (378, 2, 0xFFFF), (364, 2, 1), (516, 4, 64),
   (520, 4, n)] ++ fs

/-- The memory that holds the image at 0x100000. -/
def imageMem (n : Nat) (fs : List (Nat × Nat × Nat)) : Memory :=
  (imageFields n fs).foldl (fun m f => memWriteN 0 m (0x100000 + f.1) (leBytes f.2.1 f.2.2)) []

/-- The image at 0x100000, loaded, in a memory that holds nothing else. -/
def withImage (n : Nat) (fs : List (Nat × Nat × Nat)) (d : Device) : Device :=
  { d with mems := { d.mems with dev := imageMem n fs }
           cloak := { d.cloak with images := [{ addr := 0x100000, imageId := 0, named := 0 }] } }

/-- The device with the step `r` of queue 16 on pavilion 0 and its image. -/
def stepping (r : StepRun) (n : Nat) (fs : List (Nat × Nat × Nat)) (d : Device) : Device :=
  { withImage n fs d with comp := { d.comp with steps := [(16, { r with image := 0x100000 })] } }

/-- The stream of pavilion 0 stands at its first instruction: OP, N, A, B as given, with the further fields `fs`. -/
def atMicro (op n a b : Nat) (fs : List (Nat × Nat × Nat)) (f : Device → Device) : State :=
  upw [] (fun d => f { withImage 2 ([(576, 1, op), (578, 2, n), (584, 4, a), (588, 4, b)] ++ fs) d with
    comp := { steps := [(16, { image := 0x100000, started := true, segs := [{ seg := 0, pavs := 1 }] })]
              pavs := [(0, { run := some (16, 0) })] } })

/-- The point of `atMicro`. -/
def microPoint (op n a b : Nat) : StreamPoint :=
  { q := 16, seg := 0, run := 0, startTick := 0, lost := false, img := 0x100000, strict := false, base := 0x100240
    ins := { op := op, flags := 0, n := n, ac := 0, a := a, b := b } }

/-- The key-value memory is ready: its control region at 0x20000000. -/
def kvRegs : List (Nat × Nat) := [(CK_KV_STATUS, 1), (CK_KV_CTRL, 3), (CK_KV_CTRL_BASE, 0x2000)]

/-- Slot `k` holds sequence `n`. -/
def holding (k n : Nat) (d : Device) : Device := setSbEntry k { state := 1, seqno := n } d

/-- A Cloche whose passes run. -/
def passing (d : Device) : Device := wr CL_STATUS 1 d

/-- The stream of pavilion 0 stands at a HEM of `n` items with the block `h`. -/
def atHem (n : Nat) (h : HemBlock) (f : Device → Device) : State :=
  atMicro 4 n 64 0 [(640, 1, h.fn), (641, 1, h.sub), (642, 1, h.fmt), (643, 1, h.ctrl), (644, 2, h.src), (646, 2, h.src2),
    (648, 2, h.dst), (652, 4, h.row), (656, 4, h.paramRow), (660, 2, h.tensor)] f

/-- A block without rows. -/
def hem0 (fn sub fmt : Nat) : HemBlock :=
  { fn := fn, sub := sub, fmt := fmt, ctrl := 0, src := 1, src2 := 2, dst := 63, row := 0xFFFFFFFF, paramRow := 0, tensor := 0
    elemBase := 0 }

/-- A step of queue 16 whose segment 0 runs, with one grant entry of the kind given: pool from 2 at Glasshouse 1. -/
def granting (kind : Nat) (f : Device → Device) : State :=
  upw [] (fun d => f (stepping { started := true, segs := [{ seg := 0, pavs := 1, grantsLeft := [0] }] } 2
    [(2688, 1, 2), (2689, 1, 1), (2690, 1, kind), (2696, 2, 64), (2698, 2, 16)] d))

/-- The step of `granting`. -/
def grantingStep : StepRun := { image := 0x100000, started := true, segs := [{ seg := 0, pavs := 1, grantsLeft := [0] }] }

/-- A Strict step of queue 16 whose segment 0 runs, with one crossing and one power entry. -/
def strictStep : StepRun := { image := 0x100000, started := true, strict := true, segs := [{ seg := 0, pavs := 1 }] }

/-- A descriptor of mover 1 of pavilion 0: a row of zeros to row 64 of Glasshouse 1. -/
def linkedJob : MoverJob :=
  { id := 4, pav := 0, mover := 1, dst := 0x10004008000, rows := 1, blocks := 1, queue := 16, flags := 3 }

/-- A Strict step with `linkedJob` and one link-slot entry from beat `first` on that carries it. -/
def linked (first : Nat) (d : Device) : Device :=
  let d := stepping { started := true, strict := true, segs := [{ seg := 0, pavs := 1 }] } 2
    [(152, 4, 2624), (156, 4, 16), (368, 2, 1), (2624, 1, 64), (2625, 1, 65), (2627, 1, 1), (2628, 4, first), (2632, 4, 10),
      (2636, 4, 1)] d
  { d with comp := { d.comp with jobs := [linkedJob] } }

/-- The state of `strictStep`. -/
def strictly (f : Device → Device) : State :=
  upw [(DEV_STATUS, 3)] (fun d => f (stepping { started := true, strict := true, segs := [{ seg := 0, pavs := 1 }] } 2
    [(370, 2, 1), (376, 2, 1), (2560, 1, 8), (2561, 1, 9), (2562, 2, 3), (2816, 1, 1), (2818, 2, 7)] d))

/-- A step with the buffer [0x4000, 0x8000), without an image. -/
def threadedStep : StepRun :=
  { image := 0x100000, started := true, bufs := [(0x4000, 0x4000)], segs := [{ seg := 0, pavs := 1 }] }

/-- Thread 0 of core 0 of cluster 0 is `th`, its queue 16 owns pavilion 0 and runs `threadedStep`. -/
def withThread (th : Thread) (code : Memory) (f : Device → Device) : State :=
  upw [(GH_STATUS 0, 0x20100000)] (fun d => f { d with
    comp := { steps := [(16, threadedStep)], clusters := [(0, { threads := [(0, th)] })] }, mems := { code := code } })

/-- The thread stands at the word `w` with the integer registers `xs`. -/
def threaded (w : Nat) (xs : List (Nat × DWord)) (f : Device → Device) : State :=
  withThread { running := true, queue := 16, x := xs } (memWriteN 0 [] 0 (leBytes 4 w)) f

/-- The thread waits. -/
def waiting (wt : ThreadWait) (xs : List (Nat × DWord)) (f : Device → Device) : State :=
  withThread { running := true, queue := 16, x := xs, wait := wt } [] f

/-- The word of a custom instruction of funct3 `k`: rd x5, rs1 x6, rs2 x7. -/
def customWord (k : Nat) : Nat := 7 * 2 ^ 20 + 6 * 2 ^ 15 + k * 2 ^ 12 + 5 * 2 ^ 7 + 0x0B

/-- The word of an AMO of funct5 `k` on double words: rd x5, rs1 x6, rs2 `r`. -/
def amoWord (k r : Nat) : Nat := k * 2 ^ 27 + r * 2 ^ 20 + 6 * 2 ^ 15 + 3 * 2 ^ 12 + 5 * 2 ^ 7 + 0x2F

/-- A stream descriptor of 128 bytes: RAW10, one view at 0x9000, 4 pixels of 2 lines, with the further fields `fs`. -/
def streamDesc (fs : List (Nat × Nat × Nat)) : List Byte :=
  bytesOf 128 ([(1, 1, 0x2B), (3, 1, 1), (4, 2, 4), (6, 2, 2), (24, 8, 0x9000)] ++ fs)

/-- Stream 5, on virtual channel 1 of receiver 1, as `t`, with the registers `rs`. -/
def camera (t : DrapeStream) (rs : List (Nat × Nat)) (f : Device → Device) : State :=
  upw ([(CSI_CTRL 1, 0x21), (DR_STREAM_CTRL 5, 1)] ++ rs) (fun d => f (modCam 5 (fun _ => t) d))

/-- The sensor head of stream 5 as `h`. -/
def head5 (h : SensorHead) (rs : List (Nat × Nat)) : State :=
  upw rs (modHead 5 (fun _ => h))

/-- The Cloche runs over the slots `sl`, at the end of a pass that serves the boundaries `os`, as the next one will. -/
def passes (sl : List (Nat × LoopSlot)) (os : List Nat) (rs : List (Nat × Nat)) : State :=
  upw ((CL_STATUS, 1) :: rs) (fun d => { d with
    cloche := { d.cloche with slots := sl, occurred := os, due := os }, clock := { beat := 256 } })

/-- A loop record: constant reference 100, one limiter from -50 to 50, output 3. -/
def limiterLoop : List Byte :=
  bytesOf 512 [(1, 1, 1), (2, 1, 1), (3, 1, 3), (8, 2, 100), (64, 1, 3), (68, 2, 0xFFCE), (70, 2, 50), (72, 1, 0xFF), (73, 1, 0xFF)]

/-- Controller 2 as `k`, with the registers `rs`. -/
def canned (k : Can) (rs : List (Nat × Nat)) : State := upw rs (fun d => { d with can := [(2, k)] })

/-- Word pair of a filter 7 of action `a` that matches identifier 0x123 exactly. -/
def filter7 (a : Nat) : List (Nat × Nat) := [(CAN_RAM 2 14, 0x40000123), (CAN_RAM 2 15, 0x7FF + a * 2 ^ 30)]

/-- A started device with the registers `rs`, after `f`. -/
def begun (rs : List (Nat × Nat)) (f : Device → Device) : State :=
  upw rs (fun d => f (modLodge (fun l => { l with stage := .running }) d))

/-- The device with one request `q` in a service ring of two entries at 0x8000, after `f`. -/
def requesting (q : List Byte) (rs : List (Nat × Nat)) (f : Device → Device) : State :=
  begun ([(LD_RING_CFG, 0x80000001), (LD_RING_BASE_LO, 0x8000), (LD_RING_TAIL, 1)] ++ rs) (fun d => f (memPut 0x8000 q d))

/-- A request of 64 bytes. -/
def request (code a b c : Nat) : List Byte := bytesOf 64 [(0, 1, code), (8, 8, a), (16, 8, b), (24, 8, c)]

/-- Satchel open on a running device, with the session `x`. -/
def satchels (x : Option Satchel) (flags : Nat) (f : Device → Device) : State :=
  begun [] (fun d => f (modLodge (fun l => { l with session := x, bcb := bytesOf 64 [(7, 1, flags)] }) d))

/-! Ill-formed commands, one for each check of WellFormed. -/

theorem test_bound_refused : (Instr.sqDoorbell 8192 ⟨0, .host⟩).wellFormed = false := by decide
theorem test_register_offset_refused : (Instr.registerWrite 2 ⟨0, .host⟩).wellFormed = false := by decide
theorem test_rc_offset_refused : (Instr.rcRead ⟨2, .clean⟩).wellFormed = false := by decide
theorem test_link_rate_refused : (Instr.linkUp 0 1 false true 0 0).wellFormed = false := by decide
theorem test_link_width_refused : (Instr.linkUp 1 3 false true 0 0).wellFormed = false := by decide
theorem test_link_flit_refused : (Instr.linkUp 6 4 false true 0 0).wellFormed = false := by decide
theorem test_bad_access_bar_refused : (Instr.badRegisterAccess 4 0 1 (some 0)).wellFormed = false := by decide
theorem test_word_access_is_no_bad_access : (Instr.badRegisterAccess 0 0 4 (some 0)).wellFormed = false := by decide
theorem test_empty_write_refused : (Instr.bar4Write 0 ⟨[], []⟩).wellFormed = false := by decide
theorem test_window_size_refused : (Instr.configurationRequest (.bar4Size 5)).wellFormed = false := by decide
theorem test_well_formed_accepted : (Instr.sqDoorbell 8191 ⟨0, .host⟩).wellFormed = true := by decide

/-! The worked examples of the spec. -/

/-- The place of address 0x1234_5678 (01, example under R31). -/
theorem test_interleave_example :
    dramPlace {} 0x12345678 = { stack := 5, chan := 12, bank := 8, row := 48, column := 21, byte := 1400 } := by decide +kernel

/-- Row 2,330 of Glasshouse 3 (03, example under R68). -/
theorem test_row_address_example : rowAddr 3 2330 = 0x01000C123400 := by decide

/-- The MXFP4 block of 02, worked examples: its scale code, its element codes, FP_UNF. -/
theorem test_mxfp4_example :
    convertBlock e2m1 (([0x4039999A, 0xBED1EB85, 0, 0x3FA66666, 0xC0A66666, 0x3E851EB8, 0x413CCCCD, 0xBF3D70A4].map
      (fun v => (decodeF fp32 v, Rnd.rne))) ++ List.replicate 24 (.fin false 0 0, Rnd.rne))
      = (0x80, [3, 8, 0, 1, 0xD, 0, 7, 9] ++ List.replicate 24 0, fFpUnf) := by decide +kernel

/-- The requantisation of 02, worked examples. -/
theorem test_requantize_example :
    requantize { b := -1200, m := 1518500250, s := 7, lo := -128, hi := 127 } none 18733 = (97, 0) := by decide +kernel
/-- The same with s = 6. -/
theorem test_requantize_saturates :
    requantize { b := -1200, m := 1518500250, s := 6, lo := -128, hi := 127 } none 18733 = (127, fReqSat) := by decide +kernel
/-- The same under stochastic rounding with W = 0x4000_0000. -/
theorem test_requantize_stochastic :
    requantize { b := -1200, m := 1518500250, s := 7, lo := -128, hi := 127 } (some 0x40000000) 18733 = (97, 0) := by
  decide +kernel

/-- The receptive window of 06's example at its most. -/
theorem test_window_example : windowExtent 64 3 1 100 100 100 false = 64 := by decide +kernel

/-- Tokens of a page for the planning model of 07, example under R190. -/
theorem test_page_tokens_example : pageTokens 8 256 = 16 := by decide

/-- The sequence row of the decode step worked through in 07. -/
def decodeRow : List Byte :=
  bytesOf 128 [(4, 4, 4999), (8, 4, 1), (12, 1, 7), (13, 1, 4), (14, 1, 1), (16, 8, 0x7F013C000), (24, 8, 0x7F3260000),
    (32, 8, 0x800000000)]

/-- Token 4,321 of that step: page 0x1A2B, index 1. -/
theorem test_token_in_table_example :
    tokenPlace (memPutNat 0x7F013C438 4 0x80001A2B {}) decodeRow 4321 = some (0x81A2B0000, 1) := by decide +kernel
/-- Token 4,999: index 7 of staging slot 37. -/
theorem test_token_staged_example : tokenPlace {} decodeRow 4999 = some (0x7F3260000, 7) := by decide +kernel

/-- The wheel-speed entry of 11: VALUE 15,732 at STAMP 2,000,620,833. -/
theorem test_wheel_speed_example :
    tabFind 20 (captureEdge 2 true 260000 (withRegs [(SN_CTRL, 2 ^ 26), (SN_CAP_CFG 2, 0x1400FA00), (SN_ROUTE 20, 0x80007002),
      (SN_GAIN 20, 537), (CT_NS, 2000620833)] { sense := { cap := [(2, { prev := some 2000100000 })] } })).cloche.inputs
      = some { value := 15732, valid := true, stamp := 2000620833, past := [{}] } := by decide +kernel

/-- The servo of 13, example under R365: I = 512,000 and SERVO_C = -19,000. -/
theorem test_servo_example :
    (applyOffset 500 (wr CT_SERVO_GAIN (1024 * 65536 + 8704) {})).tower.servoI = 512000 ∧
    (applyOffset 500 (wr CT_SERVO_GAIN (1024 * 65536 + 8704) {})).tower.servoC = -19000 := by decide +kernel

/-- The bit timings of 12, example under R335, are usable. -/
theorem test_can_timing_example :
    timingOk (withRegs [(CAN_NBT 0, 15 * 2 ^ 25 + 62 * 2 ^ 17 + 15 * 2 ^ 10 + 4), (CAN_DBT 0, 4 * 2 ^ 20 + 18 * 2 ^ 15 + 4 * 2 ^ 11)] {}) 0
      = true := by decide +kernel

/-- The beat counter read through the mailbox (15, example under R419), in two commands. -/
theorem test_mailbox_example :
    (match exec (.mailboxSelect 0x10000) (upw [] (fun d => { d with clock := { d.clock with beat := 1250000 } })) with
      | .next s => match exec .mailboxSnapshot s with
        | .next t => (rd t.dev DEV_MBOX_STATUS, rd t.dev (DEV_MBOX_DATA 0), rd t.dev (DEV_MBOX_DATA 1))
        | _ => (0, 0, 0)
      | _ => (0, 0, 0)) = (0x80000002, 0x1312D0, 0) := by decide +kernel

/-- The alias of queue 4,321's bit in DEV_QHALT (15, example under R421). -/
theorem test_alias_example : aliasOf 0x8024384 = (0x121C, 1) := by decide +kernel

/-! The invariants' hypotheses can be met. -/

/-- A state that meets those of StepKeepsMemoryCanonical, and a state that a step leads to. -/
theorem test_witness_StepKeepsMemoryCanonical : ∃ s t : State, MemoryOk s.dev ∧ s.dev.mems.dev ≠ [] ∧ step s = .next t :=
  ⟨upw [] (memPut 5 [1]), { dev := clockTick (upw [] (memPut 5 [1])).dev },
    by unfold MemoryOk; decide +kernel, by decide +kernel, rfl⟩

/-- A step with fuses blown, for StepKeepsFuses. -/
theorem test_witness_StepKeepsFuses : ∃ s t : State, s.dev.fuses.therm ≠ 0 ∧ step s = .next t :=
  ⟨upw [] (fun d => { d with fuses := { d.fuses with therm := 5 } }),
    { dev := clockTick (upw [] (fun d => { d with fuses := { d.fuses with therm := 5 } })).dev }, by decide +kernel, rfl⟩

/-! Witnesses: each clause of a statement has a state and operands that meet its hypotheses together. -/

/-- The hypotheses of LinkEvents can be met. -/
theorem test_witness_LinkEvents :
    (∃ (s : State), s.dev.link.l0 = true) ∧
    (∃ (s : State) (rate : Nat) (width : Nat) (flit : Bool), s.dev.pins.perstN = true ∧ 1 ≤ rate ∧ rate ≤ 6 ∧ width ∈ [1, 2, 4] ∧ (flit = true ∨ rate ≠ 6) ∧ s.dev.link.busMaster = true) :=
  ⟨⟨up [], by decide +kernel⟩,
    ⟨upw [] (modPins (fun p => { p with perstN := true })), 6, 4, true, by decide +kernel⟩⟩

/-- The hypotheses of ConfigurationRequests can be met. -/
theorem test_witness_ConfigurationRequests :
    (∃ (s : State), s.dev.link.l0 = true ∧ s.dev.link.configReady = false) ∧
    (∃ (s : State), s.dev.link.l0 = true ∧ s.dev.link.configReady = true) ∧
    (∃ (s : State), s.dev.link.l0 = true ∧ s.dev.link.configReady = true) ∧
    (∃ (s : State), s.dev.link.l0 = true ∧ s.dev.link.configReady = true ∧ fuseMember s.dev.fuses = 1) ∧
    (∃ (s : State), s.dev.link.l0 = true ∧ s.dev.link.configReady = true) ∧
    (∃ (s : State), s.dev.link.l0 = true ∧ s.dev.link.configReady = true) ∧
    (∃ (s : State), s.dev.link.l0 = true ∧ s.dev.link.configReady = true) ∧
    (∃ (s : State), s.dev.link.l0 = true ∧ s.dev.link.configReady = true) ∧
    (∃ (s : State), s.dev.link.l0 = true ∧ s.dev.link.configReady = true) ∧
    (∃ (s : State), s.dev.link.l0 = true ∧ s.dev.link.configReady = true) ∧
    (∃ (s : State) (g : Nat), s.dev.link.l0 = true ∧ s.dev.link.configReady = true ∧ g ∈ [4, 8, 16, 32, 64, 128, 256]) :=
  ⟨⟨up [], by decide +kernel⟩,
    ⟨upw [] (modLink (fun l => { l with configReady := true })), by decide +kernel⟩,
    ⟨upw [] (modLink (fun l => { l with configReady := true })), by decide +kernel⟩,
    ⟨upw [] (fun d => modLink (fun l => { l with configReady := true }) { d with fuses := { d.fuses with sku := 2 ^ 20 } }), by decide +kernel⟩,
    ⟨upw [] (modLink (fun l => { l with configReady := true })), by decide +kernel⟩,
    ⟨upw [] (modLink (fun l => { l with configReady := true })), by decide +kernel⟩,
    ⟨upw [] (modLink (fun l => { l with configReady := true })), by decide +kernel⟩,
    ⟨upw [] (modLink (fun l => { l with configReady := true })), by decide +kernel⟩,
    ⟨upw [] (modLink (fun l => { l with configReady := true })), by decide +kernel⟩,
    ⟨upw [] (modLink (fun l => { l with configReady := true })), by decide +kernel⟩,
    ⟨upw [] (modLink (fun l => { l with configReady := true })), 256, by decide +kernel⟩⟩

/-- The hypotheses of RegisterAccesses can be met. -/
theorem test_witness_RegisterAccesses :
    (∃ (s : State), HostOk s.dev) ∧
    (∃ (s : State), HostOk s.dev) ∧
    (∃ (s : State), HostOk s.dev) ∧
    (∃ (s : State) (off : Nat), isReady s.dev = false ∧ ¬(235929600 ≤ off ∧ off < 236453888)) ∧
    (∃ (s : State), HostOk s.dev) ∧
    (∃ (s : State) (b : Nat), b < 32 ∧ HostOk s.dev) ∧
    (∃ (s : State) (off : Nat) (n : Nat), HostOk s.dev ∧ off % 4 = 0 ∧ 1 ≤ n) ∧
    (∃ (s : State) (k : Nat), HostOk s.dev ∧ k < 2048) ∧
    (∃ (s : State) (bar : Nat) (off : Nat) (len : Nat), HostOk s.dev ∧ (bar = 0 ∨ bar = 2) ∧ ¬(len % 4 = 0 ∧ off % 4 = 0 ∧ len ≠ 0) ∧ off < 235929600 ∧ rbit s.dev DEV_EVENT_EN 4 = false) ∧
    (∃ (s : State) (b : Nat), b < 5 ∧ HostOk s.dev) ∧
    (∃ (s : State) (b : Nat), b < 5 ∧ HostOk s.dev) :=
  ⟨⟨up [], by decide +kernel⟩,
    ⟨up [(DEV_EVENT, 0x1F)], by decide +kernel⟩,
    ⟨up [], by decide +kernel⟩,
    ⟨{}, 0, by decide +kernel⟩,
    ⟨up [(DEV_BADACC, 7)], by decide +kernel⟩,
    ⟨up [(DEV_BADACC, 7)], 2, by decide +kernel⟩,
    ⟨up [], 0x1008, 2, by decide +kernel⟩,
    ⟨up [], 2047, by decide +kernel⟩,
    ⟨up [], 2, 2, 4, by decide +kernel⟩,
    ⟨up [], 4, by decide +kernel⟩,
    ⟨up [(DEV_EVENT, 0x1F)], 0, by decide +kernel⟩⟩

/-- The hypotheses of Bar4Accesses can be met. -/
theorem test_witness_Bar4Accesses :
    (∃ (s : State) (o : Nat) (bytes : List Byte), HostOk s.dev ∧ windowRegion s.dev o = Region.dram ∧ openDram s.dev (s.dev.link.bar4Base + o) bytes.length = true) ∧
    (∃ (s : State) (o : Nat) (bytes : List Byte), HostOk s.dev ∧ (windowRegion s.dev o = Region.hole ∨ windowRegion s.dev o = Region.dram ∧ openDram s.dev (s.dev.link.bar4Base + o) bytes.length = false)) ∧
    (∃ (s : State) (o : Nat) (k : Nat) (r : Nat), HostOk s.dev ∧ windowRegion s.dev o = Region.localMem k r ∧ rbit s.dev (KS_STATUS (k / 4)) 1 = true) ∧
    (∃ (s : State) (o : Nat) (n : Nat), HostOk s.dev ∧ windowRegion s.dev o = Region.dram ∧ inDram s.dev (s.dev.link.bar4Base + o) n = true) ∧
    (∃ (s : State) (o : Nat) (n : Nat), HostOk s.dev ∧ windowRegion s.dev o = Region.dram ∧ inDram s.dev (s.dev.link.bar4Base + o) n = true) ∧
    (∃ (s : State) (o : Nat), HostOk s.dev ∧ windowRegion s.dev o = Region.hole) ∧
    (∃ (s : State), HostOk s.dev) :=
  ⟨⟨up [], 0x1000, [1, 2, 3], by decide +kernel⟩,
    ⟨up [], 0xFC0000000 + 0x3000000, [1], by decide +kernel⟩,
    ⟨upw [(KS_STATUS 0, 2)] (modLink (fun l => { l with bar4Base := 0x018000000000 })), 0, 0, 0, by decide +kernel⟩,
    ⟨upw [] (memPut 0 [1, 2, 3, 4]), 0, 4, by decide +kernel⟩,
    ⟨up [], 0, 4, by decide +kernel⟩,
    ⟨up [], 0xFC0000000 + 0x3000000, by decide +kernel⟩,
    ⟨up [], by decide +kernel⟩⟩

/-- The hypotheses of HostRows can be met. -/
theorem test_witness_HostRows :
    (∃ (s : State) (o : Nat) (g : Nat) (r : Nat) (bytes : List Byte), HostOk s.dev ∧ windowRegion s.dev o = Region.glass g r ∧ r % 512 = 0 ∧ r + 512 ≤ 33554432 ∧ bytes.length = 512 ∧ fenced s.dev g = false ∧ rbit s.dev (GH_STATUS g) 29 = false) ∧
    (∃ (s : State) (o : Nat) (g : Nat) (r : Nat) (bytes : List Byte), HostOk s.dev ∧ windowRegion s.dev o = Region.glass g r ∧ r % 512 = 0 ∧ r + 512 ≤ 33554432 ∧ bytes.length = 512 ∧ fenced s.dev g = false ∧ rbit s.dev (GH_STATUS g) 29 = false) ∧
    (∃ (s : State) (o : Nat) (g : Nat) (r : Nat) (bytes : List Byte), HostOk s.dev ∧ windowRegion s.dev o = Region.glass g r ∧ r % 512 = 0 ∧ r + 512 ≤ 33554432 ∧ bytes.length = 512 ∧ fenced s.dev g = true) ∧
    (∃ (s : State) (o : Nat) (g : Nat) (r : Nat) (bytes : List Byte), HostOk s.dev ∧ windowRegion s.dev o = Region.glass g r ∧ r % 512 = 0 ∧ r + 512 ≤ 33554432 ∧ bytes.length = 512 ∧ fenced s.dev g = false ∧ rbit s.dev (GH_STATUS g) 29 = true ∧ strictMode s.dev = false ∧ canAcquire s.dev g 10 1 = true ∧ holdsCredit (acquireRows g 10 1 s.dev) g 10 (r / 512) = true) :=
  ⟨⟨up [], 0xFC0000000, 0, 0, List.replicate 512 7, by decide +kernel⟩,
    ⟨up [], 0xFC0000000, 0, 0, List.replicate 512 7, by decide +kernel⟩,
    ⟨up [(GH_STATUS 0, 2)], 0xFC0000000, 0, 0, List.replicate 512 7, by decide +kernel⟩,
    ⟨up [(GH_STATUS 0, 0x20100000), (GH_POOL_CFG 0 10, 0x80040000)], 0xFC0000000, 0, 0, List.replicate 512 7, by decide +kernel⟩⟩

/-- The hypotheses of Mailbox can be met. -/
theorem test_witness_Mailbox :
    (∃ (s : State), HostOk s.dev) ∧
    (∃ (s : State), s.dev.hostif.mboxPending = true ∧ isReady s.dev = true ∧ rd s.dev DEV_MBOX_SEL = 65536) ∧
    (∃ (s : State), s.dev.hostif.mboxPending = true ∧ isReady s.dev = true ∧ mailboxWords s.dev (fld s.dev DEV_MBOX_SEL 31 16) (fld s.dev DEV_MBOX_SEL 15 0) = none) ∧
    (∃ (s : State), s.dev.hostif.mboxPending = true ∧ isReady s.dev = true ∧ rd s.dev DEV_MBOX_SEL = 655360 ∧ rbit s.dev DEV_STATUS 4 = true) ∧
    (∃ (s : State) (n : Nat), HostOk s.dev ∧ n < 16 ∧ rbit s.dev DEV_MBOX_STATUS 31 = true) ∧
    (∃ (s : State) (n : Nat), HostOk s.dev ∧ n < 16 ∧ rbit s.dev DEV_MBOX_STATUS 31 = false) :=
  ⟨⟨up [], by decide +kernel⟩,
    ⟨upw [(DEV_MBOX_SEL, 0x10000)] (fun d => { d with hostif := { mboxPending := true }, clock := { beat := 77 } }), by decide +kernel⟩,
    ⟨upw [(DEV_MBOX_SEL, 0x7FFF0000)] (fun d => { d with hostif := { mboxPending := true } }), by decide +kernel⟩,
    ⟨upw [(DEV_MBOX_SEL, 0xA0000), (DEV_STATUS, 0x11)] (fun d => { d with hostif := { mboxPending := true } }), by decide +kernel⟩,
    ⟨up [(DEV_MBOX_STATUS, 0x80000002), (DEV_MBOX_DATA 1, 9)], 1, by decide +kernel⟩,
    ⟨up [], 15, by decide +kernel⟩⟩

/-- The hypotheses of FeatureNegotiation can be met. -/
theorem test_witness_FeatureNegotiation :
    (∃ (s : State), HostOk s.dev ∧ rbit s.dev DEV_FEAT_CTRL 8 = true) ∧
    (∃ (s : State), HostOk s.dev ∧ rbit s.dev DEV_FEAT_CTRL 8 = false ∧ rbit s.dev DEV_STATUS 4 = true) ∧
    (∃ (s : State), HostOk s.dev ∧ rbit s.dev DEV_FEAT_CTRL 8 = false ∧ rbit s.dev DEV_STATUS 4 = false) ∧
    (∃ (s : State), isReady s.dev = true ∧ rbit s.dev DEV_STATUS 4 = false ∧ rbit s.dev DEV_FEAT_CTRL 8 = true) :=
  ⟨⟨up [(DEV_FEAT_CTRL, 0x100)], by decide +kernel⟩,
    ⟨up [(DEV_STATUS, 0x11)], by decide +kernel⟩,
    ⟨up [(DEV_FEAT_REQ 0, 0x1F)], by decide +kernel⟩,
    ⟨up [(DEV_FEAT_CTRL, 0x100)], by decide +kernel⟩⟩

/-- The hypotheses of PendingVectors can be met. -/
theorem test_witness_PendingVectors :
    (∃ (s : State) (v : Nat), v < 2048 ∧ rbit s.dev (MSIX_PBA (v / 32)) (v % 32) = true ∧ vectorOpen s.dev v = true ∧ hostUp s.dev = true ∧ s.dev.link.waiting = []) ∧
    (∃ (s : State) (v : Nat), v < 2048 ∧ rbit s.dev (MSIX_PBA (v / 32)) (v % 32) = true ∧ vectorOpen s.dev v = false) :=
  ⟨⟨upw [(MSIX_PBA 1, 2), (MSIX_TABLE_CTRL 33, 0)] (modLink (fun l => { l with msixEnable := true })), 33, by decide +kernel⟩,
    ⟨up [(MSIX_PBA 1, 2)], 33, by decide +kernel⟩⟩

/-- The hypotheses of Doorbells can be met. -/
theorem test_witness_Doorbells :
    (∃ (s : State) (q : Nat) (v : Word), HostOk s.dev ∧ 16 ≤ q ∧ q < 8192 ∧ BitVec.toNat v % 2 ^ 16 < ringSize s.dev q) ∧
    (∃ (s : State) (q : Nat) (v : Word), HostOk s.dev ∧ 16 ≤ q ∧ q < 8192 ∧ BitVec.toNat v % 2 ^ 16 < ringSize s.dev q) ∧
    (∃ (s : State) (q : Nat) (v : Word), HostOk s.dev ∧ 16 ≤ q ∧ q < 8192 ∧ ringSize s.dev q ≤ BitVec.toNat v % 2 ^ 16) ∧
    (∃ (s : State) (q : Nat) (v : Word), HostOk s.dev ∧ 16 ≤ q ∧ q < 8192 ∧ ringSize s.dev q ≤ BitVec.toNat v % 2 ^ 16) ∧
    (∃ (s : State) (q : Nat), HostOk s.dev ∧ q < 16) ∧
    (∃ (s : State) (q : Nat) (v : Word), isReady s.dev = true ∧ q < 16 ∧ BitVec.toNat v % 2 ^ 16 < ringSize s.dev q) ∧
    (∃ (s : State) (q : Nat) (v : Word), isReady s.dev = true ∧ q < 16 ∧ BitVec.toNat v % 2 ^ 16 < ringSize s.dev q) :=
  ⟨⟨up queueRegs, 16, 15, by decide +kernel⟩,
    ⟨up queueRegs, 16, 15, by decide +kernel⟩,
    ⟨up queueRegs, 16, 16, by decide +kernel⟩,
    ⟨up queueRegs, 16, 16, by decide +kernel⟩,
    ⟨up [], 15, by decide +kernel⟩,
    ⟨up [(CK_Q_CFG 15, 0x40031)], 15, 15, by decide +kernel⟩,
    ⟨up [(CK_Q_CFG 15, 0x40031)], 15, 15, by decide +kernel⟩⟩

/-- The hypotheses of Fetch can be met. -/
theorem test_witness_Fetch :
    (∃ (s : State) (q : Nat), isReady s.dev = true ∧ queueEnabled s.dev q = true ∧ (queueOf s.dev q).disabling = false ∧ (queueOf s.dev q).pausing = false ∧ (queueOf s.dev q).head = none ∧ cmdOf s.dev q = none ∧ rbit s.dev (CK_Q_STATUS q) 1 = false ∧ rbit s.dev (CK_Q_STATUS q) 2 = false ∧ rd s.dev (CK_Q_SQ_TAIL q) ≠ rd s.dev (CK_Q_SQ_HEAD q) ∧ rbit s.dev (CK_Q_CFG q) 4 = true) :=
  ⟨upw (queueRegs ++ [(CK_Q_SQ_TAIL 16, 1)]) (memPut 0x10000 [6]), 16, by decide +kernel⟩

/-- The hypotheses of QueueEnabling can be met. -/
theorem test_witness_QueueEnabling :
    (∃ (s : State) (q : Nat) (v : Word), HostOk s.dev ∧ 16 ≤ q ∧ q < 8192 ∧ queueEnabled s.dev q = false ∧ BitVec.toNat v / 16 % 4 = 0 ∧ 4 ≤ BitVec.toNat v / 2 ^ 16 % 32 ∧ BitVec.toNat v / 2 ^ 16 % 32 ≤ 16) ∧
    (∃ (s : State) (q : Nat) (v : Word), HostOk s.dev ∧ 16 ≤ q ∧ q < 8192 ∧ queueEnabled s.dev q = false ∧ BitVec.toNat v / 16 % 4 = 0 ∧ (BitVec.toNat v / 2 ^ 16 % 32 < 4 ∨ 16 < BitVec.toNat v / 2 ^ 16 % 32)) ∧
    (∃ (s : State) (q : Nat), HostOk s.dev ∧ 16 ≤ q ∧ q < 8192 ∧ queueEnabled s.dev q = true ∧ cmdOf s.dev q = none) ∧
    (∃ (s : State) (q : Nat) (c : Command), HostOk s.dev ∧ 16 ≤ q ∧ q < 8192 ∧ queueEnabled s.dev q = true ∧ cmdOf s.dev q = some c) ∧
    (∃ (s : State) (q : Nat), (queueOf s.dev q).disabling = true ∧ cmdOf s.dev q = none) :=
  ⟨⟨up [], 8191, 0x100003, by decide +kernel⟩,
    ⟨up [], 16, 0x110003, by decide +kernel⟩,
    ⟨up queueRegs, 16, by decide +kernel⟩,
    ⟨running (desc [(0, 1, 6)]) [] id, 16, { desc := desc [(0, 1, 6)], ticket := 16, cls := 0 }, by decide +kernel⟩,
    ⟨upw queueRegs (setQueue 16 { disabling := true }), 16, by decide +kernel⟩⟩

/-- The hypotheses of QueueControl can be met. -/
theorem test_witness_QueueControl :
    (∃ (s : State) (q : Nat), HostOk s.dev ∧ 16 ≤ q ∧ q < 8192 ∧ cmdOf s.dev q = none) ∧
    (∃ (s : State) (q : Nat) (c : Command), HostOk s.dev ∧ 16 ≤ q ∧ q < 8192 ∧ cmdOf s.dev q = some c ∧ leField c.desc 0 1 ≠ 6) ∧
    (∃ (s : State) (q : Nat) (c : Command), HostOk s.dev ∧ 16 ≤ q ∧ q < 8192 ∧ cmdOf s.dev q = some c ∧ leField c.desc 0 1 = 6) ∧
    (∃ (s : State) (q : Nat), HostOk s.dev ∧ 16 ≤ q ∧ q < 8192) ∧
    (∃ (s : State) (q : Nat), HostOk s.dev ∧ 16 ≤ q ∧ q < 8192) :=
  ⟨⟨up queueRegs, 16, by decide +kernel⟩,
    ⟨running (desc [(0, 1, 1)]) [] id, 16, { desc := desc [(0, 1, 1)], ticket := 16, cls := 0 }, by decide +kernel⟩,
    ⟨running (desc [(0, 1, 6)]) [] id, 16, { desc := desc [(0, 1, 6)], ticket := 16, cls := 0 }, by decide +kernel⟩,
    ⟨up [(CK_Q_STATUS 16, 0xF)], 16, by decide +kernel⟩,
    ⟨up [(CK_Q_STATUS 16, 0xF)], 16, by decide +kernel⟩⟩

/-- The hypotheses of QueueTimers can be met. -/
theorem test_witness_QueueTimers :
    (∃ (s : State) (q : Nat), (queueOf s.dev q).head.isSome = true ∧ (queueOf s.dev q).effClass = 3 ∧ (queueOf s.dev q).classBeat + fld s.dev CK_AGE_BULK 15 0 * 25000 ≤ s.dev.clock.beat) ∧
    (∃ (s : State) (q : Nat), (queueOf s.dev q).head.isSome = true ∧ (queueOf s.dev q).effClass = 2 ∧ (queueOf s.dev q).classBeat + fld s.dev CK_AGE_PLAN 15 0 * 25000 ≤ s.dev.clock.beat) ∧
    (∃ (s : State) (q : Nat), (queueOf s.dev q).head.isSome = true ∧ (queueOf s.dev q).starved = false ∧ (queueOf s.dev q).headBeat + fld s.dev CK_AGE_LIMIT 15 0 * 25000 ≤ s.dev.clock.beat) ∧
    (∃ (s : State) (q : Nat), (queueOf s.dev q).uncoalesced ≠ 0 ∧ rbit s.dev (CK_Q_IRQ q) 11 = true ∧ fld s.dev (CK_Q_IRQ q) 31 24 ≠ 0 ∧ (queueOf s.dev q).coalBeat + fld s.dev (CK_Q_IRQ q) 31 24 * 25 ≤ s.dev.clock.beat) ∧
    (∃ (s : State) (q : Nat), fld s.dev (CK_Q_IRQ q) 31 24 * 25 + (queueOf s.dev q).coalBeat > s.dev.clock.beat) :=
  ⟨⟨upw [] (fun d => { setQueue 16 { head := some (desc [(0, 1, 6)]), effClass := 3 } d with clock := { beat := 2 ^ 40 } }), 16, by decide +kernel⟩,
    ⟨upw [] (fun d => { setQueue 16 { head := some (desc [(0, 1, 6)]), effClass := 2 } d with clock := { beat := 2 ^ 40 } }), 16, by decide +kernel⟩,
    ⟨upw [] (fun d => { setQueue 16 { head := some (desc [(0, 1, 6)]), effClass := 2 } d with clock := { beat := 2 ^ 40 } }), 16, by decide +kernel⟩,
    ⟨upw [(CK_Q_IRQ 16, 0x1000803), (MSIX_TABLE_CTRL 3, 0)] (fun d => modLink (fun l => { l with msixEnable := true }) { setQueue 16 { uncoalesced := 2, coalBeat := 975 } d with clock := { beat := 1000 } }), 16, by decide +kernel⟩,
    ⟨upw [(CK_Q_IRQ 16, 0x1000803)] (fun d => { setQueue 16 { uncoalesced := 2, coalBeat := 976 } d with clock := { beat := 1000 } }), 16, by decide +kernel⟩⟩

/-- The hypotheses of Dispatch can be met. -/
theorem test_witness_Dispatch :
    (∃ (s : State), heads (enterGolden s.dev) = []) ∧
    (∃ (s : State) (q : Nat) (x : List Byte), heads (enterGolden s.dev) = [q] ∧ (queueOf (enterGolden s.dev) q).head = some x ∧ startable (enterGolden s.dev) q x = true) ∧
    (∃ (s : State) (q : Nat) (x : List Byte), heads (enterGolden s.dev) = [q] ∧ (queueOf (enterGolden s.dev) q).head = some x ∧ startable (enterGolden s.dev) q x = false) ∧
    (∃ (s : State) (q : Nat) (x : List Byte), heads (enterGolden s.dev) = [q] ∧ (queueOf (enterGolden s.dev) q).head = some x ∧ startable (enterGolden s.dev) q x = true ∧ acceptStatus (enterGolden s.dev) q x = none ∧ (leField x 0 1 = 6 ∨ leField x 0 1 = 4 ∨ leField x 0 1 = 2)) ∧
    (∃ (s : State) (q : Nat) (r : Nat) (x : List Byte) (y : List Byte), heads (enterGolden s.dev) = [q, r] ∧ (queueOf (enterGolden s.dev) q).head = some x ∧ (queueOf (enterGolden s.dev) r).head = some y ∧ startable (enterGolden s.dev) q x = false ∧ headPavs (enterGolden s.dev) q x &&& headPavs (enterGolden s.dev) r y ≠ 0) :=
  ⟨⟨up [], by decide +kernel⟩,
    ⟨headed (desc [(0, 1, 6), (8, 2, 4095), (12, 4, 1)]) [] id, 16, desc [(0, 1, 6), (8, 2, 4095), (12, 4, 1)], by decide +kernel⟩,
    ⟨headed (desc [(0, 1, 1), (8, 8, 0x100000)]) [(GH_STATUS 0, 0x20100000)] (withImage 2 []), 16, desc [(0, 1, 1), (8, 8, 0x100000)], by decide +kernel⟩,
    ⟨headed (desc [(0, 1, 6), (8, 2, 4095), (12, 4, 1)]) [] id, 16, desc [(0, 1, 6), (8, 2, 4095), (12, 4, 1)], by decide +kernel⟩,
    ⟨headed (desc [(0, 1, 1), (8, 8, 0x100000)]) [(GH_STATUS 0, 0x20100000), (CK_Q_CFG 17, 0x40031)] (fun d => setQueue 17 { head := some (desc [(0, 1, 1), (8, 8, 0x100000)]), headOrder := 1, effClass := 0, baseClass := 0 } (withImage 2 [] d)), 16, 17, desc [(0, 1, 1), (8, 8, 0x100000)], desc [(0, 1, 1), (8, 8, 0x100000)], by decide +kernel⟩⟩

/-- The hypotheses of WaitingStarts can be met. -/
theorem test_witness_WaitingStarts :
    (∃ (s : State) (q : Nat) (x : List Byte) (op : Nat) (i : Instr), (queueOf (enterGolden s.dev) q).head = some x ∧ planned s.dev q = true ∧ acceptStatus (enterGolden s.dev) q x = none ∧ (op, i) ∈ [(2, Instr.copy q), (3, Instr.fill q), (4, Instr.fence q), (6, Instr.wait q), (17, Instr.seqRetire q), (21, Instr.swapIn q)] ∧ leField x 0 1 = op) ∧
    (∃ (s : State) (q : Nat) (x : List Byte), (queueOf (enterGolden s.dev) q).head = some x ∧ planned s.dev q = true ∧ acceptStatus (enterGolden s.dev) q x = none ∧ leField x 0 1 = 19 ∧ leField x 28 1 = 0) ∧
    (∃ (s : State) (q : Nat) (x : List Byte), (queueOf (enterGolden s.dev) q).head = some x ∧ planned s.dev q = true ∧ acceptStatus (enterGolden s.dev) q x = none ∧ leField x 0 1 = 19 ∧ leField x 28 1 = 1) ∧
    (∃ (s : State) (q : Nat) (x : List Byte), (queueOf (enterGolden s.dev) q).head = some x ∧ planned s.dev q = true ∧ acceptStatus (enterGolden s.dev) q x = none ∧ leField x 0 1 = 16 ∧ bitOf (leField x 21 1) 1 = false) :=
  ⟨⟨headed (desc [(0, 1, 6), (8, 2, 4095), (12, 4, 1)]) [] id, 16, desc [(0, 1, 6), (8, 2, 4095), (12, 4, 1)], 6, .wait 16, by decide +kernel⟩,
    ⟨headed (desc [(0, 1, 0x13), (16, 8, 0x1000), (24, 4, 32)]) kvRegs allFeatures, 16, desc [(0, 1, 0x13), (16, 8, 0x1000), (24, 4, 32)], by decide +kernel⟩,
    ⟨headed (desc [(0, 1, 0x13), (16, 8, 0x1000), (24, 4, 32), (28, 1, 1)]) kvRegs allFeatures, 16, desc [(0, 1, 0x13), (16, 8, 0x1000), (24, 4, 32), (28, 1, 1)], by decide +kernel⟩,
    ⟨headed (desc [(0, 1, 0x10), (16, 4, 1), (22, 1, 4), (23, 1, 4), (24, 1, 9), (32, 8, 0x1000)]) kvRegs allFeatures, 16, desc [(0, 1, 0x10), (16, 4, 1), (22, 1, 4), (23, 1, 4), (24, 1, 9), (32, 8, 0x1000)], by decide +kernel⟩⟩

/-- The hypotheses of ImmediateCommands can be met. -/
theorem test_witness_ImmediateCommands :
    (∃ (s : State) (q : Nat) (x : List Byte), 16 ≤ q ∧ q < 8192 ∧ (queueOf (enterGolden s.dev) q).head = some x ∧ (queueOf (enterGolden s.dev) q).belvHead = false ∧ planned s.dev q = true ∧ acceptStatus (enterGolden s.dev) q x = none ∧ rbit s.dev (CK_Q_CFG q) 5 = true ∧ NotServing q s.dev ∧ leField x 0 1 = 5 ∧ leField x 8 2 < 4096) ∧
    (∃ (s : State) (q : Nat) (x : List Byte), 16 ≤ q ∧ q < 8192 ∧ (queueOf (enterGolden s.dev) q).head = some x ∧ (queueOf (enterGolden s.dev) q).belvHead = false ∧ planned s.dev q = true ∧ acceptStatus (enterGolden s.dev) q x = none ∧ rbit s.dev (CK_Q_CFG q) 5 = true ∧ NotServing q s.dev ∧ leField x 0 1 = 7 ∧ isHostEnd (leField x 8 8) = false ∧ overlaps (endAddr (leField x 8 8)) 16 (completionAddr s.dev q) 32 = false) :=
  ⟨⟨headed (desc [(0, 1, 5), (8, 2, 4095), (12, 4, 7)]) [(CK_Q_CFG 16, 0x40031), (CK_SEM 4095, 0xFFFFFFFF)] id, 16, desc [(0, 1, 5), (8, 2, 4095), (12, 4, 7)], by decide +kernel⟩,
    ⟨headed (desc [(0, 1, 7), (8, 8, 0x1000)]) [] id, 16, desc [(0, 1, 7), (8, 8, 0x1000)], by decide +kernel⟩⟩

/-- The hypotheses of WaitEnds can be met. -/
theorem test_witness_WaitEnds :
    (∃ (s : State) (q : Nat) (c : Command), 16 ≤ q ∧ q < 8192 ∧ cmdOf s.dev q = some c ∧ c.byBelvedere = false ∧ rbit s.dev (CK_Q_CFG q) 5 = true ∧ NotServing q s.dev ∧ leField c.desc 0 1 = 4 ∧ c.fenceOn = []) ∧
    (∃ (s : State) (q : Nat) (c : Command), 16 ≤ q ∧ q < 8192 ∧ cmdOf s.dev q = some c ∧ c.byBelvedere = false ∧ rbit s.dev (CK_Q_CFG q) 5 = true ∧ NotServing q s.dev ∧ leField c.desc 0 1 = 6 ∧ waitReached s.dev c.desc = true) ∧
    (∃ (s : State) (q : Nat) (c : Command), 16 ≤ q ∧ q < 8192 ∧ cmdOf s.dev q = some c ∧ c.byBelvedere = false ∧ rbit s.dev (CK_Q_CFG q) 5 = true ∧ NotServing q s.dev ∧ leField c.desc 0 1 = 6 ∧ leField c.desc 16 4 ≠ 0 ∧ waitReached s.dev c.desc = false ∧ c.startBeat + leField c.desc 16 4 * 25 ≤ s.dev.clock.beat) :=
  ⟨⟨running (desc [(0, 1, 4)]) [] id, 16, { desc := desc [(0, 1, 4)], ticket := 16, cls := 0 }, by decide +kernel⟩,
    ⟨running (desc [(0, 1, 6), (12, 4, 1)]) [(CK_SEM 0, 1)] id, 16, { desc := desc [(0, 1, 6), (12, 4, 1)], ticket := 16, cls := 0 }, by decide +kernel⟩,
    ⟨running (desc [(0, 1, 6), (12, 4, 1), (16, 4, 2)]) [] (fun d => { d with clock := { beat := 50 } }), 16, { desc := desc [(0, 1, 6), (12, 4, 1), (16, 4, 2)], ticket := 16, cls := 0 }, by decide +kernel⟩⟩

/-- The hypotheses of CopiesAndKills can be met. -/
theorem test_witness_CopiesAndKills :
    (∃ (s : State) (q : Nat) (c : Command), 16 ≤ q ∧ q < 8192 ∧ cmdOf s.dev q = some c ∧ c.byBelvedere = false ∧ rbit s.dev (CK_Q_CFG q) 5 = true ∧ NotServing q s.dev ∧ leField c.desc 0 1 = 2 ∧ c.channel.isSome = true ∧ isHostEnd (leField c.desc 8 8) = false ∧ isHostEnd (leField c.desc 16 8) = false ∧ overlaps (leField c.desc 8 8) (leField c.desc 24 8) (leField c.desc 16 8) (leField c.desc 24 8) = false ∧ overlaps (endAddr (leField c.desc 16 8)) (leField c.desc 24 8) (completionAddr s.dev q) 32 = false) ∧
    (∃ (s : State) (q : Nat) (r : Nat) (x : List Byte) (c : Command), (queueOf (enterGolden s.dev) q).head = some x ∧ planned s.dev q = true ∧ acceptStatus (enterGolden s.dev) q x = none ∧ leField x 0 1 = 48 ∧ r = leField x 8 4 % 8192 ∧ r ≠ q ∧ cmdOf s.dev r = some c ∧ c.ticket = leField x 8 4 ∧ leField c.desc 0 1 = 4) :=
  ⟨⟨upw queueRegs (fun d => setQueue 16 { cmd := some { desc := desc [(0, 1, 2), (8, 8, 0x1000), (16, 8, 0x2000), (24, 8, 64)], ticket := 16, cls := 0, channel := some 0 }, effClass := 0, baseClass := 0 } (memPut 0x1000 [1, 2, 3] d)), 16, { desc := desc [(0, 1, 2), (8, 8, 0x1000), (16, 8, 0x2000), (24, 8, 64)], ticket := 16, cls := 0, channel := some 0 }, by decide +kernel⟩,
    ⟨headed (desc [(0, 1, 0x30), (8, 4, 17)]) [(CK_Q_CFG 17, 0x40031), (CK_Q_CQ_BASE_LO 17, 0x40000)] (setQueue 17 { cmd := some { desc := desc [(0, 1, 4)], ticket := 17, fenceOn := [9] } }), 16, 17, desc [(0, 1, 0x30), (8, 4, 17)], { desc := desc [(0, 1, 4)], ticket := 17, fenceOn := [9] }, by decide +kernel⟩⟩

/-- The hypotheses of UnitStarts can be met. -/
theorem test_witness_UnitStarts :
    (∃ (s : State) (q : Nat) (x : List Byte), (queueOf (enterGolden s.dev) q).head = some x ∧ planned s.dev q = true ∧ acceptStatus (enterGolden s.dev) q x = none ∧ leField x 0 1 = 1) ∧
    (∃ (s : State) (q : Nat) (x : List Byte), (queueOf (enterGolden s.dev) q).head = some x ∧ planned s.dev q = true ∧ acceptStatus (enterGolden s.dev) q x = none ∧ leField x 0 1 = 18) ∧
    (∃ (s : State) (q : Nat) (x : List Byte), (queueOf (enterGolden s.dev) q).head = some x ∧ planned s.dev q = true ∧ acceptStatus (enterGolden s.dev) q x = none ∧ leField x 0 1 = 49) ∧
    (∃ (s : State) (q : Nat) (x : List Byte), (queueOf (enterGolden s.dev) q).head = some x ∧ planned s.dev q = true ∧ acceptStatus (enterGolden s.dev) q x = none ∧ leField x 0 1 = 64 ∧ leField x 8 1 < 8) :=
  ⟨⟨headed (desc [(0, 1, 1), (8, 8, 0x100000)]) [] (withImage 2 []), 16, desc [(0, 1, 1), (8, 8, 0x100000)], by decide +kernel⟩,
    ⟨headed (desc [(0, 1, 0x12), (8, 8, 0x100000), (22, 2, 1), (48, 2, 1)]) kvRegs (fun d => allFeatures (holding 3 5 (withImage 2 [(263, 1, 5)] d))), 16, desc [(0, 1, 0x12), (8, 8, 0x100000), (22, 2, 1), (48, 2, 1)], by decide +kernel⟩,
    ⟨headed (desc [(0, 1, 0x31), (8, 1, 3)]) [] id, 16, desc [(0, 1, 0x31), (8, 1, 3)], by decide +kernel⟩,
    ⟨upw [(CK_Q_CFG 15, 0x40031), (CK_Q_SQ_BASE_LO 15, 0x10000), (CK_Q_CQ_BASE_LO 15, 0x20000)] (fun d => setQueue 15 { head := some (desc [(0, 1, 0x40)]), effClass := 0, baseClass := 0 } (putFields (goldenAddr d 0) [(0, 4, 0x444C4757), (8, 4, 1), (64, 4, 0x12345678)] d)), 15, desc [(0, 1, 0x40)], by decide +kernel⟩⟩

/-- The hypotheses of PageEdits can be met. -/
theorem test_witness_PageEdits :
    (∃ (s : State) (q : Nat) (x : List Byte), 16 ≤ q ∧ q < 8192 ∧ (queueOf (enterGolden s.dev) q).head = some x ∧ (queueOf (enterGolden s.dev) q).belvHead = false ∧ planned s.dev q = true ∧ acceptStatus (enterGolden s.dev) q x = none ∧ leField x 0 1 = 20 ∧ leField x 15 1 = 0) ∧
    (∃ (s : State) (q : Nat) (x : List Byte), 16 ≤ q ∧ q < 8192 ∧ (queueOf (enterGolden s.dev) q).head = some x ∧ (queueOf (enterGolden s.dev) q).belvHead = false ∧ planned s.dev q = true ∧ acceptStatus (enterGolden s.dev) q x = none ∧ leField x 0 1 = 20 ∧ leField x 15 1 = 1 ∧ NotServing q s.dev ∧ overlaps (recAddr s.dev (leField x 12 2)) 64 (completionAddr s.dev q) 32 = false) :=
  ⟨⟨headed (desc [(0, 1, 0x14), (8, 4, 5), (12, 2, 3)]) kvRegs (fun d => allFeatures (holding 3 5 d)), 16, desc [(0, 1, 0x14), (8, 4, 5), (12, 2, 3)], by decide +kernel⟩,
    ⟨headed (desc [(0, 1, 0x14), (8, 4, 5), (12, 2, 3), (15, 1, 1), (16, 4, 9)]) kvRegs (fun d => allFeatures (memPutNat (recAddr d 3 + 4) 4 20 (holding 3 5 d))), 16, desc [(0, 1, 0x14), (8, 4, 5), (12, 2, 3), (15, 1, 1), (16, 4, 9)], by decide +kernel⟩⟩

/-- The hypotheses of LoopCommands can be met. -/
theorem test_witness_LoopCommands :
    (∃ (s : State) (q : Nat) (x : List Byte), (queueOf (enterGolden s.dev) q).head = some x ∧ planned s.dev q = true ∧ acceptStatus (enterGolden s.dev) q x = none ∧ clocheRunning s.dev = true ∧ leField x 0 1 = 32 ∧ leField x 8 1 = 0) ∧
    (∃ (s : State) (q : Nat) (x : List Byte), (queueOf (enterGolden s.dev) q).head = some x ∧ planned s.dev q = true ∧ acceptStatus (enterGolden s.dev) q x = none ∧ clocheRunning s.dev = true ∧ leField x 0 1 = 32 ∧ leField x 8 1 = 1) ∧
    (∃ (s : State) (q : Nat) (x : List Byte), (queueOf (enterGolden s.dev) q).head = some x ∧ planned s.dev q = true ∧ acceptStatus (enterGolden s.dev) q x = none ∧ clocheRunning s.dev = true ∧ leField x 0 1 = 33 ∧ leField x 16 1 = 1) ∧
    (∃ (s : State) (q : Nat) (x : List Byte), (queueOf (enterGolden s.dev) q).head = some x ∧ planned s.dev q = true ∧ acceptStatus (enterGolden s.dev) q x = none ∧ clocheRunning s.dev = true ∧ leField x 0 1 = 33 ∧ leField x 16 1 = 0) :=
  ⟨⟨headed (desc [(0, 1, 0x20), (9, 1, 5), (10, 1, 1), (16, 8, 0x1000)]) [(CL_STATUS, 1)] (fun d => allFeatures (memPut 0x1000 limiterLoop d)), 16, desc [(0, 1, 0x20), (9, 1, 5), (10, 1, 1), (16, 8, 0x1000)], by decide +kernel⟩,
    ⟨headed (desc [(0, 1, 0x20), (8, 1, 1), (9, 1, 5), (10, 1, 1), (16, 8, 0x1000)]) [(CL_STATUS, 1)] (fun d => allFeatures (memPut 0x1000 [1, 2] d)), 16, desc [(0, 1, 0x20), (8, 1, 1), (9, 1, 5), (10, 1, 1), (16, 8, 0x1000)], by decide +kernel⟩,
    ⟨headed (desc [(0, 1, 0x21), (16, 1, 1)]) [(CL_STATUS, 1)] allFeatures, 16, desc [(0, 1, 0x21), (16, 1, 1)], by decide +kernel⟩,
    ⟨headed (desc [(0, 1, 0x21)]) [(CL_STATUS, 1)] allFeatures, 16, desc [(0, 1, 0x21)], by decide +kernel⟩⟩

/-- The hypotheses of SegmentsRun can be met. -/
theorem test_witness_SegmentsRun :
    (∃ (s : State) (q : Nat) (r : StepRun), stepOf s.dev q = some r ∧ r.started = false ∧ (∀ (p : Nat), p ∈ ownedBy s.dev q → codeReady s.dev r p = true) ∧ rbit s.dev GT_STATUS 2 = false ∧ rbit s.dev GT_STATUS 3 = false) ∧
    (∃ (s : State) (q : Nat) (seg : Nat) (r : StepRun), stepOf s.dev q = some r ∧ r.started = true ∧ r.firstBeat ≤ s.dev.clock.beat ∧ r.strict = false ∧ rbit s.dev DEV_STATUS 2 = false ∧ r.calls = [] ∧ seg ∈ progSegs s.dev r.image r.prog ∧ segListed s.dev r.image seg = true ∧ ¬seg ∈ r.listedDone ∧ (∀ (x : SegRun), x ∈ r.segs → x.head ≠ some seg) ∧ pavsFree s.dev (segPavMask s.dev r.image seg) = true ∧ earlierDone s.dev r seg = true ∧ segCount s.dev r.image seg 4 = 0) ∧
    (∃ (s : State) (q : Nat) (seg : Nat) (r : StepRun), stepOf s.dev q = some r ∧ r.started = true ∧ r.firstBeat ≤ s.dev.clock.beat ∧ r.strict = false ∧ rbit s.dev DEV_STATUS 2 = true ∧ r.calls = [] ∧ listedStarts s.dev r seg = true ∧ ¬seg ∈ r.headWait ∧ (∀ (a : Nat), a ∈ altChain s.dev r.image (progSegCount s.dev r.image r.prog) seg → pavsFree s.dev (segPavMask s.dev r.image a) = false)) ∧
    (∃ (s : State) (q : Nat) (seg : Nat) (r : StepRun), stepOf s.dev q = some r ∧ r.started = true ∧ r.firstBeat ≤ s.dev.clock.beat ∧ r.strict = false ∧ rbit s.dev DEV_STATUS 2 = true ∧ r.calls = [] ∧ listedStarts s.dev r seg = true ∧ seg ∈ r.headWait ∧ pavsFree s.dev (segPavMask s.dev r.image seg) = false) ∧
    (∃ (s : State) (q : Nat) (seg : Nat) (st : StepRun) (r : SegRun), stepOf s.dev q = some st ∧ List.find? (fun x => x.seg == seg && segComplete s.dev st x) st.segs = some r ∧ r.notify = none ∧ r.caller = none) :=
  ⟨⟨upw queueRegs (stepping {} 2 []), 16, { image := 0x100000 }, by decide +kernel⟩,
    ⟨upw queueRegs (stepping { started := true } 2 []), 16, 0, { image := 0x100000, started := true }, by decide +kernel⟩,
    ⟨upw ((DEV_STATUS, 5) :: queueRegs) (fun d => modPav 0 (fun v => { v with run := some (17, 3) }) (stepping { started := true } 2 [] d)), 16, 0, { image := 0x100000, started := true }, by decide +kernel⟩,
    ⟨upw ((DEV_STATUS, 5) :: queueRegs) (fun d => modPav 0 (fun v => { v with run := some (17, 3) }) (stepping { started := true, headWait := [0] } 2 [] d)), 16, 0, { image := 0x100000, started := true, headWait := [0] }, by decide +kernel⟩,
    ⟨upw queueRegs (fun d => modPav 0 (fun v => { v with run := some (16, 0), ended := true }) (stepping { started := true, segs := [{ seg := 0, pavs := 1, head := some 0 }] } 2 [] d)), 16, 0, { image := 0x100000, started := true, segs := [{ seg := 0, pavs := 1, head := some 0 }] }, { seg := 0, pavs := 1, head := some 0 }, by decide +kernel⟩⟩

/-- The hypotheses of StepEnds can be met. -/
theorem test_witness_StepEnds :
    (∃ (s : State) (q : Nat) (r : StepRun) (c : Command), 16 ≤ q ∧ q < 8192 ∧ stepOf s.dev q = some r ∧ cmdOf s.dev q = some c ∧ r.started = true ∧ c.ending = false ∧ allSegsDone s.dev r = true ∧ endBeatOf s.dev r ≤ s.dev.clock.beat ∧ leField c.desc 0 1 = 1 ∧ bitOf (progFlags s.dev r.image r.prog) 1 = false ∧ c.byBelvedere = false ∧ rbit s.dev (CK_Q_CFG q) 5 = true ∧ NotServing q s.dev) ∧
    (∃ (s : State) (q : Nat) (seg : Nat) (p : Nat) (st : StepRun) (r : SegRun) (c : Command), stepOf s.dev q = some st ∧ (pavOf s.dev p).run = some (q, seg) ∧ runOn s.dev p = some r ∧ cmdOf s.dev q = some c ∧ p ∈ ownedBy s.dev q ∧ st.strict = true ∧ c.strictLost = false ∧ c.ending = false ∧ r.startTick ≤ nowTicks s.dev ∧ 20 * segWcet s.dev st.image seg ≤ (nowTicks s.dev - r.startTick) * 16 ∧ severityOf s.dev 65 = 1 ∧ rbit s.dev BV_EPISODE 31 = false) :=
  ⟨⟨upw queueRegs (fun d => takePavilion 16 0 (setQueue 16 { cmd := some { desc := desc [(0, 1, 1)], ticket := 16, cls := 0 } } (stepping { started := true, listedDone := [0] } 2 [] d))), 16, { image := 0x100000, started := true, listedDone := [0] }, { desc := desc [(0, 1, 1)], ticket := 16, cls := 0 }, by decide +kernel⟩,
    ⟨upw (queueRegs ++ [(BV_SEV 4, 4)]) (fun d => modPav 0 (fun v => { v with run := some (16, 0) }) (takePavilion 16 0 (setQueue 16 { cmd := some { desc := desc [(0, 1, 1)], ticket := 16, cls := 0 } } (stepping { started := true, strict := true, segs := [{ seg := 0, pavs := 1, head := some 0 }] } 2 [(328, 4, 16)] { d with clock := { beat := 2 } })))), 16, 0, 0, { image := 0x100000, started := true, strict := true, segs := [{ seg := 0, pavs := 1, head := some 0 }] }, { seg := 0, pavs := 1, head := some 0 }, { desc := desc [(0, 1, 1)], ticket := 16, cls := 0 }, by decide +kernel⟩⟩

/-- The hypotheses of ModeChange can be met. -/
theorem test_witness_ModeChange :
    (∃ (s : State) (v : Word), HostOk s.dev ∧ (BitVec.getLsbD v 0 = false ∨ bitOf s.dev.hostif.featAccepted 4 = true)) ∧
    (∃ (s : State) (v : Word), HostOk s.dev ∧ BitVec.getLsbD v 0 = true ∧ bitOf s.dev.hostif.featAccepted 4 = false) ∧
    (∃ (s : State), rbit s.dev DEV_STATUS 3 = true ∧ (∀ (p : Nat), p < pavCount s.dev → rbit s.dev (GH_STATUS p) 29 = false) ∧ rbit s.dev DEV_EVENT_EN 1 = false) :=
  ⟨⟨up [], 2, by decide +kernel⟩,
    ⟨up [], 3, by decide +kernel⟩,
    ⟨up [(DEV_STATUS, 9), (DEV_MODE, 3), (GT_FREQ 47, 5)], by decide +kernel⟩⟩

/-- The hypotheses of ArrayMicrocode can be met. -/
theorem test_witness_ArrayMicrocode :
    (∃ (s : State) (p : Nat) (m : StreamPoint), AtOp s.dev p 1 m) ∧
    (∃ (s : State) (p : Nat) (m : StreamPoint) (n : Nat) (c : Command), p < 8 ∧ AtOp s.dev p 1 m ∧ n ∈ rowRange m.ins.a m.ins.n ∧ cmdOf s.dev m.q = some c ∧ MinorAlone s.dev (8 + p) ∧ sourceExists s.dev (8 + p) = true) :=
  ⟨⟨atMicro 1 256 0 0x101 [] id, 0, microPoint 1 256 0 0x101, by decide +kernel⟩,
    ⟨atMicro 1 256 0 0x101 [] (fun d => wr (BV_SEV 0) 0x10000 (setQueue 16 { cmd := some { desc := desc [(0, 1, 1)], ticket := 16, cls := 0 } } d)), 0, microPoint 1 256 0 0x101, 255, { desc := desc [(0, 1, 1)], ticket := 16, cls := 0 }, by decide +kernel⟩⟩

/-- The hypotheses of OrderingMicrocode can be met. -/
theorem test_witness_OrderingMicrocode :
    (∃ (s : State) (p : Nat) (m : StreamPoint) (st : StepRun), AtOp s.dev p 5 m ∧ (m.strict = true ∨ moverQueue s.dev p (m.ins.b % 2) = []) ∧ stepOf s.dev m.q = some st) ∧
    (∃ (s : State) (p : Nat) (m : StreamPoint), AtOp s.dev p 6 m ∧ m.ins.n ≤ sub32 (poolAcq s.dev p (fieldOf m.ins.b 3 0)) (poolRel s.dev p (fieldOf m.ins.b 3 0))) ∧
    (∃ (s : State) (p : Nat) (m : StreamPoint), AtOp s.dev p 7 m) ∧
    (∃ (s : State) (p : Nat) (n : Nat) (limit : Nat) (rest : List (Nat × Nat)), (pavOf s.dev p).signals = (n, limit) :: rest ∧ streamJobs s.dev p limit = false) ∧
    (∃ (s : State) (p : Nat) (m : StreamPoint), AtOp s.dev p 8 m ∧ (m.strict = false ∨ fenceReached s.dev (fieldOf m.ins.a 12 10) (fieldOf m.ins.a 9 0) m.ins.b = true)) ∧
    (∃ (s : State) (p : Nat) (c : Nat) (n : Nat) (v : Nat), (pavOf s.dev p).waiting = some (c, n, v) ∧ fenceReached s.dev c n v = true) ∧
    (∃ (s : State) (p : Nat) (m : StreamPoint), streamHead s.dev p = some m ∧ m.ins.op = 0 ∧ (m.strict = false ∨ acTick m.startTick m.ins.ac ≤ nowTicks s.dev) ∧ (pavOf s.dev p).signals = [] ∧ streamJobs s.dev p s.dev.comp.nextJob = false) :=
  ⟨⟨atMicro 5 0 0 1 [(2562, 1, 0)] id, 0, microPoint 5 0 0 1, { image := 0x100000, started := true, segs := [{ seg := 0, pavs := 1 }] }, by decide +kernel⟩,
    ⟨atMicro 6 3 0 2 [] (wr (GH_POOL_ACQ 0 2) 5), 0, microPoint 6 3 0 2, by decide +kernel⟩,
    ⟨atMicro 7 0 1023 0 [] id, 0, microPoint 7 0 1023 0, by decide +kernel⟩,
    ⟨upw [(KS_FENCE 0 5, 0xFFFFFFFF)] (modPav 0 (fun v => { v with signals := [(5, 0)] })), 0, 5, 0, [], by decide +kernel⟩,
    ⟨atMicro 8 0 5 3 [] id, 0, microPoint 8 0 5 3, by decide +kernel⟩,
    ⟨upw [(KS_FENCE 0 5, 3)] (modPav 0 (fun v => { v with waiting := some (0, 5, 3) })), 0, 0, 5, 3, by decide +kernel⟩,
    ⟨atMicro 0 0 0 0 [] id, 0, microPoint 0 0 0 0, by decide +kernel⟩⟩

/-- The hypotheses of HemMicrocode can be met. -/
theorem test_witness_HemMicrocode :
    (∃ (s : State) (p : Nat) (m : StreamPoint) (h : HemBlock), AtHem s.dev p 1 m h ∧ m.ins.n = 1 ∧ h.row = 2 ^ 32 - 1 ∧ h.ctrl = 0 ∧ fmtIsInt h.fmt = false ∧ fmtMx h.fmt = false ∧ h.fmt ≠ 0) ∧
    (∃ (s : State) (p : Nat) (m : StreamPoint) (h : HemBlock), AtHem s.dev p 2 m h ∧ m.ins.n = 1 ∧ h.row = 2 ^ 32 - 1 ∧ h.ctrl = 0 ∧ fmtIsInt h.fmt = true) ∧
    (∃ (s : State) (p : Nat) (m : StreamPoint) (h : HemBlock), AtHem s.dev p 3 m h ∧ m.ins.n = 1 ∧ h.row = 2 ^ 32 - 1 ∧ h.ctrl = 0 ∧ h.sub = 16) ∧
    (∃ (s : State) (p : Nat) (m : StreamPoint) (h : HemBlock), AtHem s.dev p 4 m h ∧ m.ins.n = 1 ∧ h.ctrl = 0) ∧
    (∃ (s : State) (p : Nat) (m : StreamPoint) (h : HemBlock), AtHem s.dev p 5 m h ∧ m.ins.n = 1 ∧ h.row = 2 ^ 32 - 1 ∧ h.ctrl = 0 ∧ h.sub ≤ 3) ∧
    (∃ (s : State) (p : Nat) (m : StreamPoint) (h : HemBlock), AtHem s.dev p 6 m h) ∧
    (∃ (s : State) (p : Nat) (m : StreamPoint) (h : HemBlock), AtHem s.dev p 7 m h ∧ m.ins.n = 1 ∧ h.fmt = 0) ∧
    (∃ (s : State) (p : Nat) (m : StreamPoint) (h : HemBlock), AtHem s.dev p 8 m h ∧ m.ins.n = 1 ∧ h.fmt = 0 ∧ h.ctrl = 0 ∧ h.row + 4 ≤ 65536 ∧ signsTensor s.dev m.q h.tensor = false ∧ mapShape s.dev m.q h.tensor = none ∧ m.strict = false) ∧
    (∃ (s : State) (p : Nat) (m : StreamPoint) (h : HemBlock), AtHem s.dev p 8 m h ∧ m.ins.n = 1 ∧ h.fmt = 0 ∧ h.ctrl = 0 ∧ h.row + 4 ≤ 65536 ∧ signsTensor s.dev m.q h.tensor = false ∧ mapShape s.dev m.q h.tensor = none ∧ m.strict = true) :=
  ⟨⟨atHem 1 (hem0 1 0 0x10) (setVreg 0 1 (List.replicate 512 0x40490FDB)), 0, microPoint 4 1 64 0, hem0 1 0 0x10, by decide +kernel⟩,
    ⟨atHem 1 (hem0 2 0 1) (setVreg 0 1 (List.replicate 512 77777)), 0, microPoint 4 1 64 0, hem0 2 0 1, by decide +kernel⟩,
    ⟨atHem 1 (hem0 3 0x10 0) (fun d => setVreg 0 2 (List.replicate 512 0x7FFFFFFF) (setVreg 0 1 (List.replicate 512 5) d)), 0, microPoint 4 1 64 0, hem0 3 0x10 0, by decide +kernel⟩,
    ⟨atHem 1 (hem0 4 1 0) (fun d => setVreg 0 1 (List.replicate 512 0x40490FDB) d), 0, microPoint 4 1 64 0, hem0 4 1 0, by decide +kernel⟩,
    ⟨atHem 1 (hem0 5 2 0) (fun d => setVreg 0 1 (List.replicate 512 0x7FC00001) d), 0, microPoint 4 1 64 0, hem0 5 2 0, by decide +kernel⟩,
    ⟨atHem 1 { hem0 6 0 1 with row := 3 } (memPut (rowAddr 0 3) [1, 2, 3]), 0, microPoint 4 1 64 0, { hem0 6 0 1 with row := 3 }, by decide +kernel⟩,
    ⟨atHem 1 { hem0 7 0 0 with row := 3 } (memPut (rowAddr 0 3) [1, 2, 3]), 0, microPoint 4 1 64 0, { hem0 7 0 0 with row := 3 }, by decide +kernel⟩,
    ⟨atHem 1 { hem0 8 0 0 with row := 3 } (setVreg 0 1 (List.replicate 512 0x7FC00001)), 0, microPoint 4 1 64 0, { hem0 8 0 0 with row := 3 }, by decide +kernel⟩,
    ⟨atHem 1 { hem0 8 0 0 with row := 3 } (fun d => setVreg 0 1 (List.replicate 512 0x7FC00001) (modStep 16 (fun r => { r with strict := true }) d)), 0, { microPoint 4 1 64 0 with strict := true }, { hem0 8 0 0 with row := 3 }, by decide +kernel⟩⟩

/-- The hypotheses of IntegerConversionRule can be met. -/
theorem test_witness_IntegerConversionRule :
    (∃ (n : Nat) (r : Rnd), (n = 4 ∨ n = 8) ∧ r = Rnd.rne) :=
  ⟨8, .rne, by decide +kernel⟩

/-- The hypotheses of CreditEntries can be met. -/
theorem test_witness_CreditEntries :
    (∃ (s : State) (q : Nat) (g : Nat) (st : StepRun) (r : SegRun) (e : GrantEntry), stepOf s.dev q = some st ∧ e = grantEntry s.dev st.image g ∧ List.find? (fun r => r.grantsLeft.contains g && beatReached s.dev (r.startBeat + e.beat)) st.segs = some r ∧ e.kind = 0) ∧
    (∃ (s : State) (q : Nat) (g : Nat) (st : StepRun) (r : SegRun) (e : GrantEntry), stepOf s.dev q = some st ∧ e = grantEntry s.dev st.image g ∧ List.find? (fun r => r.grantsLeft.contains g && beatReached s.dev (r.startBeat + e.beat)) st.segs = some r ∧ e.kind = 1 ∧ canAcquire s.dev e.target e.src e.count = true) ∧
    (∃ (s : State) (q : Nat) (g : Nat) (st : StepRun) (r : SegRun) (e : GrantEntry), stepOf s.dev q = some st ∧ e = grantEntry s.dev st.image g ∧ List.find? (fun r => r.grantsLeft.contains g && beatReached s.dev (r.startBeat + e.beat)) st.segs = some r ∧ e.kind = 2 ∧ e.count ≤ sub32 (poolAcq s.dev e.target e.src) (poolRel s.dev e.target e.src)) ∧
    (∃ (s : State) (q : Nat) (g : Nat) (st : StepRun) (r : SegRun) (e : GrantEntry), stepOf s.dev q = some st ∧ e = grantEntry s.dev st.image g ∧ List.find? (fun r => r.grantsLeft.contains g && beatReached s.dev (r.startBeat + e.beat)) st.segs = some r ∧ e.kind = 3) ∧
    (∃ (s : State), strictMode s.dev = false) ∧
    (∃ (s : State) (g : Nat) (src : Nat) (v : Word) (q : Nat), ownerOf s.dev g = some q ∧ src < 11 ∧ src ≠ g ∧ 1 ≤ BitVec.toNat v % 2 ^ 13 ∧ BitVec.toNat v % 2 ^ 13 ≤ 4096 ∧ BitVec.toNat v % 2 ^ 13 ≤ sub32 (poolAcq s.dev g src) (poolRel s.dev g src)) :=
  ⟨⟨granting 0 id, 16, 0, grantingStep, { seg := 0, pavs := 1, grantsLeft := [0] }, { src := 2, target := 1, kind := 0, beat := 0, base := 64, count := 16 }, by decide +kernel⟩,
    ⟨granting 1 (wr (GH_POOL_CFG 1 2) 0x200040), 16, 0, grantingStep, { seg := 0, pavs := 1, grantsLeft := [0] }, { src := 2, target := 1, kind := 1, beat := 0, base := 64, count := 16 }, by decide +kernel⟩,
    ⟨granting 2 (wr (GH_POOL_ACQ 1 2) 16), 16, 0, grantingStep, { seg := 0, pavs := 1, grantsLeft := [0] }, { src := 2, target := 1, kind := 2, beat := 0, base := 64, count := 16 }, by decide +kernel⟩,
    ⟨granting 3 (fun d => { d with comp := { d.comp with flights := [{ sender := .mover 0, source := 2, target := 1, row := 64, data := List.replicate 512 0, queue := 16, beat := 0, held := false }] } }), 16, 0, grantingStep, { seg := 0, pavs := 1, grantsLeft := [0] }, { src := 2, target := 1, kind := 3, beat := 0, base := 64, count := 16 }, by decide +kernel⟩,
    ⟨up [(GH_POOL_REL 1 2, 9)], by decide +kernel⟩,
    ⟨upw [(GH_POOL_ACQ 1 2, 9)] (takePavilion 16 1), 1, 2, 9, 16, by decide +kernel⟩⟩

/-- The hypotheses of StrictEntries can be met. -/
theorem test_witness_StrictEntries :
    (∃ (s : State) (q : Nat) (c : Nat) (st : StepRun) (a : Nat), stepOf s.dev q = some st ∧ st.strict = true ∧ a = crossAddr s.dev st.image c) ∧
    (∃ (s : State) (g : Nat) (b : Nat), b + crossingOffset s.dev (24 + g) (8 + g) ≤ s.dev.clock.beat ∧ (∀ (r : HeldRow), r ∈ s.dev.comp.held → r.glass = g → r.beat = b → s.dev.clock.beat < b + crossingOffset s.dev r.dom (8 + g))) ∧
    (∃ (s : State) (g : Nat) (b : Nat) (r : HeldRow), List.filter (heldReleased s.dev g b) s.dev.comp.held = [r] ∧ r.data.length = 512) ∧
    (∃ (s : State) (r : IceRequest) (a : Nat) (bs : List Byte), List.find? (iceReleased s.dev) s.dev.comp.ice = some r ∧ r.write = some [(a, bs)]) ∧
    (∃ (s : State) (r : IceRequest), List.find? (iceReleased s.dev) s.dev.comp.ice = some r ∧ r.write = none) ∧
    (∃ (s : State) (i : Nat) (c : Nat), strictMode s.dev = true ∧ i < iceCount s.dev ∧ c < 16 ∧ s.dev.clock.beat % 125 = (3 * c + 5 * i) % 125) ∧
    (∃ (s : State) (q : Nat) (g : Nat) (st : StepRun) (a : Nat), stepOf s.dev q = some st ∧ st.strict = true ∧ a = powerAddr s.dev st.image g) :=
  ⟨⟨strictly id, 16, 0, strictStep, 0x100A00, by decide +kernel⟩,
    ⟨upw [] (fun d => { d with clock := { beat := 5 }, comp := { d.comp with flights := [{ sender := .mover 0, source := 2, target := 1, row := 64, data := List.replicate 512 0, queue := 16, beat := 3, held := true }] } }), 1, 3, by decide +kernel⟩,
    ⟨upw [] (fun d => { d with clock := { beat := 5 }, comp := { d.comp with held := [{ glass := 1, row := 9, data := List.replicate 512 5, queue := 16, beat := 3 }] } }), 1, 3, { glass := 1, row := 9, data := List.replicate 512 5, queue := 16, beat := 3 }, by decide +kernel⟩,
    ⟨upw [] (fun d => { d with comp := { d.comp with ice := [{ sender := .mover 7, write := some [(0x4000, [1, 2])] }], jobs := [{ id := 7 }] } }), { sender := .mover 7, write := some [(0x4000, [1, 2])] }, 0x4000, [1, 2], by decide +kernel⟩,
    ⟨upw [] (fun d => { memPut 0x4000 [1, 2] d with comp := { d.comp with ice := [{ sender := .mover 7, addr := 0x4000, dest := 0x10000000000 }] } }), { sender := .mover 7, addr := 0x4000, dest := 0x10000000000 }, by decide +kernel⟩,
    ⟨upw [(DEV_STATUS, 3)] (fun d => { d with clock := { beat := 125 + 8 } }), 1, 1, by decide +kernel⟩,
    ⟨strictly id, 16, 0, strictStep, 0x100B00, by decide +kernel⟩⟩

/-- The hypotheses of Movers can be met. -/
theorem test_witness_Movers :
    (∃ (s : State) (p : Nat) (m : Nat) (j : MoverJob) (js : List MoverJob) (off : Nat), moverQueue s.dev p m = j :: js ∧ stepStrict s.dev j.queue = false ∧ bitOf j.flags 1 = false ∧ regionOf s.dev (jobRow j j.sent).snd = Region.glass p off ∧ off % 512 = 0 ∧ bitOf j.flags 0 = false ∧ regionOf s.dev (jobRow j j.sent).fst = Region.dram) ∧
    (∃ (s : State) (p : Nat) (m : Nat) (j : MoverJob) (js : List MoverJob) (off : Nat), moverQueue s.dev p m = j :: js ∧ stepStrict s.dev j.queue = false ∧ bitOf j.flags 1 = false ∧ regionOf s.dev (jobRow j j.sent).snd = Region.glass p off ∧ off % 512 = 0 ∧ bitOf j.flags 0 = true) ∧
    (∃ (s : State) (p : Nat) (m : Nat) (j : MoverJob) (js : List MoverJob) (g : Nat) (off : Nat), moverQueue s.dev p m = j :: js ∧ stepStrict s.dev j.queue = false ∧ j.flags % 4 = 3 ∧ regionOf s.dev (jobRow j j.sent).snd = Region.glass g off ∧ g ≠ p ∧ canAcquire s.dev g p 1 = true ∧ holdsCredit (acquireRows g p 1 s.dev) g p (off / 512) = true) ∧
    (∃ (s : State) (p : Nat) (m : Nat) (j : MoverJob) (js : List MoverJob) (g : Nat) (off : Nat), moverQueue s.dev p m = j :: js ∧ stepStrict s.dev j.queue = false ∧ j.flags % 4 = 3 ∧ regionOf s.dev (jobRow j j.sent).snd = Region.glass g off ∧ g ≠ p ∧ canAcquire s.dev g p 1 = false) ∧
    (∃ (s : State) (p : Nat) (m : Nat) (j : MoverJob) (js : List MoverJob) (g : Nat) (off : Nat), moverQueue s.dev p m = j :: js ∧ stepStrict s.dev j.queue = true ∧ j.flags % 4 = 3 ∧ regionOf s.dev (jobRow j j.sent).snd = Region.glass g off ∧ g ≠ p ∧ carryNow s.dev j.queue j.run (m * 64 + p) (m * 64 + g) = Carry.wait) ∧
    (∃ (s : State) (p : Nat) (m : Nat) (j : MoverJob) (js : List MoverJob) (g : Nat) (off : Nat) (place : Nat) (hops : Nat), moverQueue s.dev p m = j :: js ∧ stepStrict s.dev j.queue = true ∧ j.flags % 4 = 3 ∧ regionOf s.dev (jobRow j j.sent).snd = Region.glass g off ∧ g ≠ p ∧ carryNow s.dev j.queue j.run (m * 64 + p) (m * 64 + g) = Carry.slot place hops ∧ canDraw s.dev g p 1 = true ∧ holdsCredit (drawRows g p 1 s.dev) g p (off / 512) = true) ∧
    (∃ (s : State) (k : Nat) (r : RowFlight), (arrivingRows s.dev)[k]? = some r ∧ r.poolClosed = false ∧ refusedAt s.dev r.target r.queue = false ∧ inWindow s.dev r.target r.source r.row = true ∧ r.data.length = 512) ∧
    (∃ (s : State) (k : Nat) (r : RowFlight), (arrivingRows s.dev)[k]? = some r ∧ r.poolClosed = true ∧ r.target < 8 ∧ MinorAlone s.dev 70) ∧
    (∃ (s : State) (id : Nat) (j : MoverJob), List.find? (fun j => j.id == id) s.dev.comp.jobs = some j ∧ j.total ≤ j.sent ∧ j.total ≤ j.visible ∧ j.caller = none) :=
  ⟨⟨upw [] (fun d => { memPut 0x4000 [1, 2] d with comp := { d.comp with jobs := [{ id := 4, pav := 0, mover := 1, src := 0x4000, dst := 0x10000000200, rows := 1, blocks := 1, queue := 16 }] } }), 0, 1, { id := 4, pav := 0, mover := 1, src := 0x4000, dst := 0x10000000200, rows := 1, blocks := 1, queue := 16 }, [], 512, by decide +kernel⟩,
    ⟨upw [] (fun d => { memPut 0x10000000200 [1, 2] d with comp := { d.comp with jobs := [{ id := 4, pav := 0, mover := 1, src := 0x4000, dst := 0x10000000200, rows := 1, blocks := 1, queue := 16, flags := 1 }] } }), 0, 1, { id := 4, pav := 0, mover := 1, src := 0x4000, dst := 0x10000000200, rows := 1, blocks := 1, queue := 16, flags := 1 }, [], 512, by decide +kernel⟩,
    ⟨upw [(GH_POOL_CFG 1 0, 0x200040)] (fun d => { d with comp := { d.comp with jobs := [{ id := 4, pav := 0, mover := 1, src := 0x4000, dst := 0x10004008000, rows := 1, blocks := 1, queue := 16, flags := 3 }] } }), 0, 1, { id := 4, pav := 0, mover := 1, src := 0x4000, dst := 0x10004008000, rows := 1, blocks := 1, queue := 16, flags := 3 }, [], 1, 64*512, by decide +kernel⟩,
    ⟨upw [(GH_POOL_CFG 1 0, 0x200040), (GH_POOL_ACQ 1 0, 0x20)] (fun d => { d with comp := { d.comp with jobs := [{ id := 4, pav := 0, mover := 1, src := 0x4000, dst := 0x10004008000, rows := 1, blocks := 1, queue := 16, flags := 3 }] } }), 0, 1, { id := 4, pav := 0, mover := 1, src := 0x4000, dst := 0x10004008000, rows := 1, blocks := 1, queue := 16, flags := 3 }, [], 1, 64*512, by decide +kernel⟩,
    ⟨upw [(DEV_STATUS, 3), (GH_POOL_CFG 1 0, 0x200040), (GH_POOL_ACQ 1 0, 8)] (linked 3), 0, 1, linkedJob, [], 1, 64 * 512, by decide +kernel⟩,
    ⟨upw [(DEV_STATUS, 3), (GH_POOL_CFG 1 0, 0x200040), (GH_POOL_ACQ 1 0, 8)] (linked 0), 0, 1, linkedJob, [], 1, 64 * 512, 0, 1, by decide +kernel⟩,
    ⟨upw [(GH_POOL_CFG 1 0, 0x200040)] (fun d => takePavilion 16 1 { d with comp := { d.comp with flights := [{ sender := .mover 4, source := 0, target := 1, row := 64, data := List.replicate 512 7, queue := 16, beat := 0, held := false }] } }), 0, { sender := .mover 4, source := 0, target := 1, row := 64, data := List.replicate 512 7, queue := 16, beat := 0, held := false }, by decide +kernel⟩,
    ⟨upw [(BV_SEV 4, 0x1000)] (fun d => { d with comp := { d.comp with flights := [{ sender := .mover 4, source := 0, target := 1, row := 64, data := List.replicate 512 7, queue := 16, beat := 0, held := false, poolClosed := true }] } }), 0, { sender := .mover 4, source := 0, target := 1, row := 64, data := List.replicate 512 7, queue := 16, beat := 0, held := false, poolClosed := true }, by decide +kernel⟩,
    ⟨upw [(KS_FENCE 0 5, 0xFFFFFFFF)] (fun d => { d with comp := { d.comp with jobs := [{ id := 4, pav := 0, mover := 1, rows := 1, blocks := 1, sent := 1, visible := 1, queue := 16, flags := 4, tag := 5 }] } }), 4, { id := 4, pav := 0, mover := 1, rows := 1, blocks := 1, sent := 1, visible := 1, queue := 16, flags := 4, tag := 5 }, by decide +kernel⟩⟩

/-- The hypotheses of ScrubEnds can be met. -/
theorem test_witness_ScrubEnds :
    (∃ (s : State) (g : Nat), g < 8 ∧ rbit s.dev (GH_STATUS g) 0 = true ∧ rbit s.dev (GH_STATUS g) 29 = false ∧ rbit s.dev (KS_STATUS g) 1 = false ∧ busyQueues s.dev = []) ∧
    (∃ (s : State) (g : Nat) (q : Nat) (c : Command), g < 8 ∧ rbit s.dev (GH_STATUS g) 0 = true ∧ rbit s.dev (KS_STATUS g) 1 = false ∧ ownerOf s.dev g = some q ∧ cmdOf s.dev q = some c ∧ c.ending = true ∧ (∀ (p : Nat), p ∈ ownedBy s.dev q → p = g)) ∧
    (∃ (s : State) (g : Nat), g < 8 ∧ rbit s.dev (KS_STATUS g) 1 = true ∧ busyQueues s.dev = []) :=
  ⟨⟨upw [(GH_STATUS 1, 3)] (memPut (rowAddr 1 5) [1]), 1, by decide +kernel⟩,
    ⟨upw (queueRegs ++ [(GH_STATUS 1, 0x20100003)]) (setQueue 16 { cmd := some { desc := desc [(0, 1, 1)], ticket := 16, cls := 0, ending := true, killed := true } }), 1, 16, { desc := desc [(0, 1, 1)], ticket := 16, cls := 0, ending := true, killed := true }, by decide +kernel⟩,
    ⟨upw [(KS_STATUS 1, 2)] (memPut (localAddr 4) [1]), 1, by decide +kernel⟩⟩

/-- The hypotheses of ThreadInstructions can be met. -/
theorem test_witness_ThreadInstructions :
    (∃ (s : State) (q : Nat) (i : Nat) (st : StepRun) (e : Nat) (r : SegRun) (p : Nat) (c : Nat) (k : Nat), stepOf s.dev q = some st ∧ i < progThreadCount s.dev st.image st.prog ∧ e = threadAddr s.dev st.image (progFirstThread s.dev st.image st.prog + i) ∧ p = fieldOf (memNat s.dev e 1) 4 2 ∧ c = fieldOf (memNat s.dev e 1) 1 0 ∧ k = memNat s.dev (e + 1) 1 % 16 ∧ List.find? (fun r => r.seg == progFirstSeg s.dev st.image st.prog + memNat s.dev (e + 2) 2 && !r.threadsStarted.contains i && beatReached s.dev (r.startBeat + memNat s.dev (e + 4) 2)) st.segs = some r ∧ (threadOf s.dev p c k).running = false ∧ owns s.dev q p = true) ∧
    (∃ (s : State) (p : Nat) (c : Nat) (ready : Nat) (k : Nat) (w : Nat) (len : Nat), IssuesWord s.dev p c ready k w len IssueKind.plain ∧ iOp w = 19 ∧ iF3 w = 0) ∧
    (∃ (s : State) (p : Nat) (c : Nat) (ready : Nat) (k : Nat) (w : Nat) (len : Nat), IssuesWord s.dev p c ready k w len IssueKind.plain ∧ iOp w = 115 ∧ iF3 w = 0 ∧ c < 4 ∧ rbit s.dev (KS_EXC_INFO p) 31 = false) ∧
    (∃ (s : State) (p : Nat) (c : Nat) (ready : Nat) (k : Nat) (w : Nat) (len : Nat), IssuesWord s.dev p c ready k w len IssueKind.mem ∧ iF3 w = 3 ∧ iOp w = 3 ∧ scalarCauses s.dev p c (threadOf s.dev p c k) false (loadAddr (threadOf s.dev p c k) w) 8 = []) ∧
    (∃ (s : State) (p : Nat) (c : Nat) (ready : Nat) (k : Nat) (w : Nat) (len : Nat), IssuesWord s.dev p c ready k w len IssueKind.mem ∧ iF3 w = 3 ∧ iOp w = 35 ∧ scalarCauses s.dev p c (threadOf s.dev p c k) true (storeAddr (threadOf s.dev p c k) w) 8 = [] ∧ regionOf s.dev (storeAddr (threadOf s.dev p c k) w) = Region.dram ∧ timedStrict s.dev (threadOf s.dev p c k) = true) ∧
    (∃ (s : State) (p : Nat) (c : Nat) (ready : Nat) (k : Nat) (w : Nat) (len : Nat), IssuesWord s.dev p c ready k w len IssueKind.mem ∧ iF3 w = 3 ∧ iOp w = 35 ∧ scalarCauses s.dev p c (threadOf s.dev p c k) true (storeAddr (threadOf s.dev p c k) w) 8 = [] ∧ regionOf s.dev (storeAddr (threadOf s.dev p c k) w) = Region.dram ∧ timedStrict s.dev (threadOf s.dev p c k) = false) ∧
    (∃ (s : State) (p : Nat) (c : Nat) (ready : Nat) (k : Nat) (w : Nat) (len : Nat) (vd : Nat) (off : Nat), IssuesWord s.dev p c ready k w len IssueKind.row ∧ iOp w = 39 ∧ (vecAccess w (threadOf s.dev p c k)).isSome = true ∧ rowForm w (threadOf s.dev p c k) = some vd ∧ regionOf s.dev (xreg (threadOf s.dev p c k) (iRs1 w)) = Region.glass p off ∧ off % 512 = 0 ∧ reachable s.dev (threadOf s.dev p c k).queue p (xreg (threadOf s.dev p c k) (iRs1 w)) 512 true = true ∧ stepStrict s.dev (threadOf s.dev p c k).queue = false) ∧
    (∃ (s : State) (p : Nat) (c : Nat) (ready : Nat) (k : Nat) (w : Nat) (len : Nat) (vd : Nat) (off : Nat), IssuesWord s.dev p c ready k w len IssueKind.row ∧ iOp w = 39 ∧ (vecAccess w (threadOf s.dev p c k)).isSome = true ∧ rowForm w (threadOf s.dev p c k) = some vd ∧ regionOf s.dev (xreg (threadOf s.dev p c k) (iRs1 w)) = Region.glass p off ∧ off % 512 = 0 ∧ reachable s.dev (threadOf s.dev p c k).queue p (xreg (threadOf s.dev p c k) (iRs1 w)) 512 true = true ∧ stepStrict s.dev (threadOf s.dev p c k).queue = true) ∧
    (∃ (s : State) (p : Nat) (c : Nat) (k : Nat) (w : Nat) (len : Nat), k < 16 ∧ fetchAt s.dev p c (threadOf s.dev p c k).pc = Fetched.instr w len ∧ 4 ≤ (storesOf s.dev (RowSender.thread p c k)).length ∧ (iOp w = 35 ∨ iOp w = 39)) ∧
    (∃ (s : State) (p : Nat) (c : Nat) (k : Nat) (w : Nat) (len : Nat), k < 16 ∧ fetchAt s.dev p c (threadOf s.dev p c k).pc = Fetched.instr w len ∧ 4 ≤ (storesOf s.dev (RowSender.thread p c k)).length ∧ (iOp w = 35 ∨ iOp w = 39)) ∧
    (∃ (s : State) (p : Nat) (c : Nat) (k : Nat) (w : Nat) (len : Nat), k < 16 ∧ fetchAt s.dev p c (threadOf s.dev p c k).pc = Fetched.instr w len ∧ storesOf s.dev (RowSender.thread p c k) ≠ [] ∧ iOp w = 15 ∧ iF3 w = 0 ∧ bitOf w 24 = true) ∧
    (∃ (s : State) (p : Nat) (c : Nat) (k : Nat) (w : Nat) (len : Nat), k < 16 ∧ fetchAt s.dev p c (threadOf s.dev p c k).pc = Fetched.instr w len ∧ storesOf s.dev (RowSender.thread p c k) ≠ [] ∧ iOp w = 11 ∧ iF7 w = 0 ∧ iF3 w = 0) ∧
    (∃ (s : State) (p : Nat) (c : Nat) (ready : Nat) (k : Nat) (w : Nat) (len : Nat), IssuesWord s.dev p c ready k w len IssueKind.amo ∧ iF3 w = 3 ∧ regionOf s.dev (xreg (threadOf s.dev p c k) (iRs1 w)) = Region.dram ∧ fieldOf w 31 27 = 0 ∧ scalarCauses s.dev p c (threadOf s.dev p c k) true (xreg (threadOf s.dev p c k) (iRs1 w)) 8 = []) ∧
    (∃ (s : State) (p : Nat) (c : Nat) (ready : Nat) (k : Nat) (w : Nat) (len : Nat), IssuesWord s.dev p c ready k w len IssueKind.amo ∧ iF3 w = 3 ∧ regionOf s.dev (xreg (threadOf s.dev p c k) (iRs1 w)) = Region.dram ∧ fieldOf w 31 27 = 2 ∧ iRs2 w = 0 ∧ scalarCauses s.dev p c (threadOf s.dev p c k) false (xreg (threadOf s.dev p c k) (iRs1 w)) 8 = []) ∧
    (∃ (s : State) (p : Nat) (c : Nat) (ready : Nat) (k : Nat) (w : Nat) (len : Nat), IssuesWord s.dev p c ready k w len IssueKind.amo ∧ iF3 w = 3 ∧ regionOf s.dev (xreg (threadOf s.dev p c k) (iRs1 w)) = Region.dram ∧ fieldOf w 31 27 = 3 ∧ scalarCauses s.dev p c (threadOf s.dev p c k) true (xreg (threadOf s.dev p c k) (iRs1 w)) 8 = []) ∧
    (∃ (s : State) (p : Nat) (c : Nat) (k : Nat) (w : Nat) (due : Nat), (threadOf s.dev p c k).wait = ThreadWait.load w due ∧ due ≤ s.dev.clock.beat ∧ iOp w = 3 ∧ iF3 w = 3 ∧ regionOf s.dev (loadAddr (threadOf s.dev p c k) w) = Region.dram) :=
  ⟨⟨upw [] (fun d => takePavilion 16 1 (stepping { started := true, segs := [{ seg := 0, pavs := 1 }] } 2 [(120, 4, 448), (124, 4, 16), (288, 2, 1), (448, 1, 6), (449, 1, 0x83), (456, 4, 0x100), (460, 4, 77)] d)), 16, 0, { image := 0x100000, started := true, segs := [{ seg := 0, pavs := 1 }] }, 0x1001C0, { seg := 0, pavs := 1 }, 1, 2, 3, by decide +kernel⟩,
    ⟨threaded 0xFFF30293 [(6, 0)] id, 0, 0, 1, 0, 0xFFF30293, 4, by decide +kernel⟩,
    ⟨threaded 0x73 [(6, 0)] id, 0, 0, 1, 0, 0x73, 4, by decide +kernel⟩,
    ⟨threaded 0x00833283 [(6, 0x18000000000)] (memPut 0x18000000008 [1, 2, 3]), 0, 0, 1, 0, 0x00833283, 4, by decide +kernel⟩,
    ⟨threaded 0x00533423 [(6, 0x4000), (5, 0x123456789ABCDEF0)] (fun d => modStep 16 (fun r => { r with strict := true }) (modCluster 0 (fun k => { k with threads := k.threads.map (fun t => (t.1, { t.2 with timed := true })) }) d)), 0, 0, 1, 0, 0x00533423, 4, by decide +kernel⟩,
    ⟨threaded 0x00533423 [(6, 0x4000), (5, 0x123456789ABCDEF0)] id, 0, 0, 1, 0, 0x00533423, 4, by decide +kernel⟩,
    ⟨threaded 0xE2830427 [(6, 0x10000000400)] (fun d => modCluster 0 (fun k => { k with threads := k.threads.map (fun t => (t.1, { t.2 with v := [(8, 5), (15, 9)] })) }) d), 0, 0, 1, 0, 0xE2830427, 4, 8, 0x400, by decide +kernel⟩,
    ⟨threaded 0xE2830427 [(6, 0x10000000400)] (fun d => modStep 16 (fun r => { r with strict := true }) (modCluster 0 (fun k => { k with threads := k.threads.map (fun t => (t.1, { t.2 with v := [(8, 5), (15, 9)] })) }) d)), 0, 0, 1, 0, 0xE2830427, 4, 8, 0x400, by decide +kernel⟩,
    ⟨threaded 0x00533423 [] (fun d => { d with comp := { d.comp with ice := List.replicate 4 { sender := .thread 0 0 0, write := some [(0x4000, [1])] } } }), 0, 0, 0, 0x00533423, 4, by decide +kernel⟩,
    ⟨threaded 0xE2830427 [] (fun d => { d with comp := { d.comp with ice := List.replicate 4 { sender := .thread 0 0 0, write := some [(0x4000, [1])] } } }), 0, 0, 0, 0xE2830427, 4, by decide +kernel⟩,
    ⟨threaded 0x0110000F [] (fun d => { d with comp := { d.comp with ice := List.replicate 1 { sender := .thread 0 0 0, write := some [(0x4000, [1])] } } }), 0, 0, 0, 0x0110000F, 4, by decide +kernel⟩,
    ⟨threaded (customWord 0) [] (fun d => { d with comp := { d.comp with ice := List.replicate 1 { sender := .thread 0 0 0, write := some [(0x4000, [1])] } } }), 0, 0, 0, (customWord 0), 4, by decide +kernel⟩,
    ⟨threaded (amoWord 0 7) [(6, 0x4000), (7, 3)] (memPut 0x4000 [1]), 0, 0, 1, 0, amoWord 0 7, 4, by decide +kernel⟩,
    ⟨threaded (amoWord 2 0) [(6, 0x4008), (7, 3)] (memPut 0x4008 [1]), 0, 0, 1, 0, amoWord 2 0, 4, by decide +kernel⟩,
    ⟨threaded (amoWord 3 7) [(6, 0x4008), (7, 3)] (fun d => { d with mems := { d.mems with resv := [(0, 0x4000)] } }), 0, 0, 1, 0, amoWord 3 7, 4, by decide +kernel⟩,
    ⟨waiting (.load 0x00833283 7) [(6, 0x4000)] (fun d => { memPut 0x4008 [1] d with clock := { beat := 7 } }), 0, 0, 0, 0x00833283, 7, by decide +kernel⟩⟩

/-- The hypotheses of ThreadCalls can be met. -/
theorem test_witness_ThreadCalls :
    (∃ (s : State) (p : Nat) (c : Nat) (ready : Nat) (k : Nat) (w : Nat) (len : Nat) (st : StepRun), IssuesWord s.dev p c ready k w len (IssueKind.custom 0) ∧ ownLocal s.dev p c (xreg (threadOf s.dev p c k) (iRs1 w)) = true ∧ reachable s.dev (threadOf s.dev p c k).queue p (xreg (threadOf s.dev p c k) (iRs1 w)) 32 false = true ∧ xreg (threadOf s.dev p c k) (iRs1 w) % 32 = 0 ∧ stepOf s.dev (threadOf s.dev p c k).queue = some st ∧ xreg (threadOf s.dev p c k) (iRs2 w) % 4 = 1 ∧ (st.strict = false ∨ (threadOf s.dev p c k).timed = true) ∧ (moverCall s.dev p c k (threadOf s.dev p c k).queue 0 (threadOf s.dev p c k) (memBytes s.dev (xreg (threadOf s.dev p c k) (iRs1 w)) 32)).fst = []) ∧
    (∃ (s : State) (p : Nat) (c : Nat) (ready : Nat) (k : Nat) (w : Nat) (len : Nat) (st : StepRun), IssuesWord s.dev p c ready k w len (IssueKind.custom 0) ∧ ownLocal s.dev p c (xreg (threadOf s.dev p c k) (iRs1 w)) = true ∧ reachable s.dev (threadOf s.dev p c k).queue p (xreg (threadOf s.dev p c k) (iRs1 w)) 32 false = true ∧ xreg (threadOf s.dev p c k) (iRs1 w) % 32 = 0 ∧ stepOf s.dev (threadOf s.dev p c k).queue = some st ∧ xreg (threadOf s.dev p c k) (iRs2 w) % 4 = 0 ∧ st.strict = false ∧ (segmentCall s.dev (threadOf s.dev p c k).queue st (p, c, k, (threadOf s.dev p c k).id) (memBytes s.dev (xreg (threadOf s.dev p c k) (iRs1 w)) 32)).fst = []) ∧
    (∃ (s : State) (p : Nat) (c : Nat) (ready : Nat) (k : Nat) (w : Nat) (len : Nat) (st : StepRun), IssuesWord s.dev p c ready k w len (IssueKind.custom 0) ∧ ownLocal s.dev p c (xreg (threadOf s.dev p c k) (iRs1 w)) = true ∧ reachable s.dev (threadOf s.dev p c k).queue p (xreg (threadOf s.dev p c k) (iRs1 w)) 32 false = true ∧ xreg (threadOf s.dev p c k) (iRs1 w) % 32 = 0 ∧ stepOf s.dev (threadOf s.dev p c k).queue = some st ∧ xreg (threadOf s.dev p c k) (iRs2 w) % 4 = 3 ∧ (st.strict = false ∨ (threadOf s.dev p c k).timed = true)) ∧
    (∃ (s : State) (p : Nat) (c : Nat) (ready : Nat) (k : Nat) (w : Nat) (len : Nat), IssuesWord s.dev p c ready k w len (IssueKind.custom 1) ∧ xreg (threadOf s.dev p c k) (iRs1 w) ≤ 1023) ∧
    (∃ (s : State) (p : Nat) (c : Nat) (k : Nat) (n : Nat) (v : Nat) (x : Nat), (threadOf s.dev p c k).wait = ThreadWait.fence n v x ∧ fenceReached s.dev p n v = true) ∧
    (∃ (s : State) (p : Nat) (c : Nat) (ready : Nat) (k : Nat) (w : Nat) (len : Nat) (code : Nat), IssuesWord s.dev p c ready k w len (IssueKind.custom 2) ∧ p < 8 ∧ c < 4 ∧ kcredCode s.dev p (threadOf s.dev p c k).queue (threadOf s.dev p c k) ((Option.map (fun x => x.strict) (stepOf s.dev (threadOf s.dev p c k).queue)).getD false) (xreg (threadOf s.dev p c k) (iRs1 w)) (xreg (threadOf s.dev p c k) (iRs2 w)) = some code) ∧
    (∃ (s : State) (p : Nat) (c : Nat) (ready : Nat) (k : Nat) (w : Nat) (len : Nat), IssuesWord s.dev p c ready k w len (IssueKind.custom 2) ∧ p < 8 ∧ c < 4 ∧ kcredCode s.dev p (threadOf s.dev p c k).queue (threadOf s.dev p c k) ((Option.map (fun x => x.strict) (stepOf s.dev (threadOf s.dev p c k).queue)).getD false) (xreg (threadOf s.dev p c k) (iRs1 w)) (xreg (threadOf s.dev p c k) (iRs2 w)) = none ∧ (Option.map (fun x => x.strict) (stepOf s.dev (threadOf s.dev p c k).queue)).getD false = false ∧ canAcquire s.dev (xreg (threadOf s.dev p c k) (iRs1 w)) p (xreg (threadOf s.dev p c k) (iRs2 w)) = true) ∧
    (∃ (s : State) (p : Nat) (c : Nat) (ready : Nat) (k : Nat) (w : Nat) (len : Nat), IssuesWord s.dev p c ready k w len (IssueKind.custom 2) ∧ p < 8 ∧ c < 4 ∧ kcredCode s.dev p (threadOf s.dev p c k).queue (threadOf s.dev p c k) ((Option.map (fun x => x.strict) (stepOf s.dev (threadOf s.dev p c k).queue)).getD false) (xreg (threadOf s.dev p c k) (iRs1 w)) (xreg (threadOf s.dev p c k) (iRs2 w)) = none ∧ (Option.map (fun x => x.strict) (stepOf s.dev (threadOf s.dev p c k).queue)).getD false = false ∧ canAcquire s.dev (xreg (threadOf s.dev p c k) (iRs1 w)) p (xreg (threadOf s.dev p c k) (iRs2 w)) = false) ∧
    (∃ (s : State) (p : Nat) (c : Nat) (k : Nat) (g : Nat) (n : Nat) (x : Nat), (threadOf s.dev p c k).wait = ThreadWait.credit g n x ∧ canAcquire s.dev g p n = true ∧ p < 8 ∧ c < 4 ∧ g < 8) ∧
    (∃ (s : State) (p : Nat) (c : Nat) (ready : Nat) (k : Nat) (w : Nat) (len : Nat), IssuesWord s.dev p c ready k w len (IssueKind.custom 3)) ∧
    (∃ (s : State) (p : Nat) (c : Nat) (k : Nat), (threadOf s.dev p c k).wait = ThreadWait.calls ∧ (threadOf s.dev p c k).calls = 0) ∧
    (∃ (s : State) (p : Nat) (c : Nat) (ready : Nat) (k : Nat) (w : Nat) (len : Nat), IssuesWord s.dev p c ready k w len (IssueKind.custom 4)) :=
  ⟨⟨threaded (customWord 0) [(6, 0x18000000020), (7, 1)] (putFields 0x18000000020 [(0, 4, 0x4000), (8, 6, 0x10000000000), (16, 2, 1), (18, 2, 1)]), 0, 0, 1, 0, customWord 0, 4, threadedStep, by decide +kernel⟩,
    ⟨threaded (customWord 0) [(6, 0x18000000020), (7, 0)] (fun d => { d with mems := { d.mems with dev := memWriteN 0 (imageMem 2 []) 0x18000000022 [1] } }), 0, 0, 1, 0, customWord 0, 4, threadedStep, by decide +kernel⟩,
    ⟨threaded (customWord 0) [(6, 0x18000000020), (7, 3)] id, 0, 0, 1, 0, customWord 0, 4, threadedStep, by decide +kernel⟩,
    ⟨threaded (customWord 1) [(6, 1023), (7, 3)] id, 0, 0, 1, 0, customWord 1, 4, by decide +kernel⟩,
    ⟨waiting (.fence 3 0 5) [] (wr (KS_FENCE 0 3) 9), 0, 0, 0, 3, 0, 5, by decide +kernel⟩,
    ⟨threaded (customWord 2) [(6, 8), (7, 1)] id, 0, 0, 1, 0, customWord 2, 4, 3, by decide +kernel⟩,
    ⟨threaded (customWord 2) [(6, 1), (7, 32)] (fun d => wr (GH_POOL_CFG 1 0) 0x200040 (takePavilion 16 1 d)), 0, 0, 1, 0, customWord 2, 4, by decide +kernel⟩,
    ⟨threaded (customWord 2) [(6, 1), (7, 33)] (fun d => wr (GH_POOL_CFG 1 0) 0x200040 (takePavilion 16 1 d)), 0, 0, 1, 0, customWord 2, 4, by decide +kernel⟩,
    ⟨waiting (.credit 1 32 5) [] (fun d => wr (GH_POOL_CFG 1 0) 0x200040 d), 0, 0, 0, 1, 32, 5, by decide +kernel⟩,
    ⟨threaded (customWord 3) [] id, 0, 0, 1, 0, customWord 3, 4, by decide +kernel⟩,
    ⟨waiting .calls [] id, 0, 0, 0, by decide +kernel⟩,
    ⟨threaded (customWord 4) [(6, 5)] (setQueue 16 { cmd := some { desc := desc [(0, 1, 1)], ticket := 16, cls := 0 } }), 0, 0, 1, 0, customWord 4, 4, by decide +kernel⟩⟩

/-- The hypotheses of ClusterServices can be met. -/
theorem test_witness_ClusterServices :
    (∃ (s : State) (p : Nat), p < pavCount s.dev ∧ (clusterOf s.dev p).wdogStopped = false) ∧
    (∃ (s : State) (p : Nat) (c : Nat) (k : Nat), p < pavCount s.dev ∧ (clusterOf s.dev p).wdogStopped = false ∧ k < 16 ∧ threadReady s.dev p c 65535 k = true ∧ MinorAlone s.dev (16 + p)) ∧
    (∃ (s : State) (p : Nat) (q : Nat) (st : StepRun) (i : Nat), ownerOf s.dev p = some q ∧ stepOf s.dev q = some st ∧ codeSetFor s.dev st p = some i ∧ codeReady s.dev st p = false ∧ (clusterOf s.dev p).loading = none) ∧
    (∃ (s : State) (p : Nat) (q : Nat) (img : Nat) (id : Nat) (i : Nat), (clusterOf s.dev p).loading = some (q, img, id, i)) ∧
    (∃ (s : State) (p : Nat) (q : Nat) (m : Command), ownerOf s.dev p = some q ∧ cmdOf s.dev q = some m) ∧
    (∃ (s : State) (p : Nat) (q : Nat), ownerOf s.dev p = some q ∧ p < 8 ∧ MinorAlone s.dev 66) :=
  ⟨⟨up [], 7, by decide +kernel⟩,
    ⟨waiting .none [] (wr (BV_SEV 1) 1), 0, 0, 0, by decide +kernel⟩,
    ⟨upw [] (fun d => takePavilion 16 0 (stepping { started := true } 2 [(128, 4, 3000), (132, 4, 64), (292, 1, 1)] d)), 0, 16, { image := 0x100000, started := true }, 0, by decide +kernel⟩,
    ⟨upw [] (fun d => modCluster 0 (fun k => { k with loading := some (16, 0x100000, 0, 0) }) (stepping {} 2 [(128, 4, 3008), (132, 4, 64), (3048, 4, 48), (3052, 4, 8), (3056, 4, 0x12345)] d)), 0, 16, 0x100000, 0, 0, by decide +kernel⟩,
    ⟨upw [] (fun d => takePavilion 16 0 (setQueue 16 { cmd := some { desc := desc [(0, 1, 1)], ticket := 16, cls := 0 } } d)), 0, 16, { desc := desc [(0, 1, 1)], ticket := 16, cls := 0 }, by decide +kernel⟩,
    ⟨upw [(BV_SEV 4, 16)] (fun d => takePavilion 16 0 d), 0, 16, by decide +kernel⟩⟩

/-- The hypotheses of KvPool can be met. -/
theorem test_witness_KvPool :
    (∃ (s : State), HostOk s.dev ∧ rbit s.dev CK_KV_CTRL 0 = false) ∧
    (∃ (s : State), HostOk s.dev ∧ rbit s.dev CK_KV_CTRL 0 = true ∧ anySequence s.dev = false ∧ servingQueued s.dev = false) ∧
    (∃ (s : State), HostOk s.dev ∧ rbit s.dev CK_KV_CTRL 0 = true ∧ anySequence s.dev = true) ∧
    (∃ (s : State), rbit s.dev CK_KV_STATUS 1 = true ∧ kvPages s.dev ≤ 2621440) ∧
    (∃ (s : State) (n : Nat), HostOk s.dev ∧ n < 4) :=
  ⟨⟨up [(CK_KV_POOL_PAGES, 2), (CK_KV_CTRL_BASE, 0x2000)], by decide +kernel⟩,
    ⟨up kvRegs, by decide +kernel⟩,
    ⟨upw kvRegs (holding 3 5), by decide +kernel⟩,
    ⟨upw [(CK_KV_STATUS, 2), (CK_KV_CTRL, 1), (CK_KV_POOL_PAGES, 2), (CK_KV_CTRL_BASE, 0x2000)] (fun d => memPutNat (pageRec d 1) 2 9 d), by decide +kernel⟩,
    ⟨up [(CK_PFX_NODES, 1)], 3, by decide +kernel⟩⟩

/-- The hypotheses of Walks can be met. -/
theorem test_witness_Walks :
    (∃ (s : State) (p : Nat) (q : Nat) (r : AttnRecord) (run : SegRun), nextWalk s.dev p = some (q, r) ∧ runOn s.dev p = some run ∧ (pavOf s.dev p).walking = none ∧ stepStrict s.dev q = false ∧ (bitOf r.flags 0 = false ∨ fenceReached s.dev p r.fence r.value = true) ∧ r.op = 0 ∧ r.dest + r.chunkTokens ≤ 65536) ∧
    (∃ (s : State) (p : Nat) (q : Nat) (r : AttnRecord) (run : SegRun), nextWalk s.dev p = some (q, r) ∧ runOn s.dev p = some run ∧ (pavOf s.dev p).walking = none ∧ stepStrict s.dev q = false ∧ (bitOf r.flags 0 = false ∨ fenceReached s.dev p r.fence r.value = true) ∧ r.op = 1 ∧ r.dest + r.kb / r.eb ≤ 65536) ∧
    (∃ (s : State) (p : Nat) (q : Nat) (r : AttnRecord) (run : SegRun), nextWalk s.dev p = some (q, r) ∧ runOn s.dev p = some run ∧ (pavOf s.dev p).walking = none ∧ stepStrict s.dev q = true ∧ (Option.map (fun x => x.strictLost) (cmdOf s.dev q)).getD false = false ∧ nowTicks s.dev = acTick run.startTick r.ac ∧ r.op = 0) ∧
    (∃ (s : State) (p : Nat) (f : Option Nat), (pavOf s.dev p).walking = some f ∧ (∀ (h : HeldRow), h ∈ s.dev.comp.held → h.sender ≠ RowSender.walker p)) ∧
    (∃ (s : State) (q : Nat) (c : Command) (k : Nat), s.dev.serve.serving = none ∧ s.dev.serve.waiting = [q] ∧ cmdOf s.dev q = some c ∧ leField c.desc 0 1 = 17 ∧ k = leField c.desc 12 2 ∧ slotHolds s.dev k (leField c.desc 8 4) = true) :=
  ⟨⟨atMicro 0 0 1 0 [(608, 1, 0), (610, 1, 2), (613, 1, 1), (614, 1, 9), (615, 1, 1), (620, 4, 100), (630, 2, 7), (520, 4, 1)] id, 0, 16, { op := 0, flags := 2, seq := 0, layer := 0, layers := 1, kbLog2 := 9, fmt := 1, chunk := 0, dest := 100, ac := 0, seqRow := 0, fence := 7, value := 0 }, { seg := 0, pavs := 1 }, by decide +kernel⟩,
    ⟨atMicro 0 0 1 0 [(608, 1, 0), (609, 1, 1), (610, 1, 2), (613, 1, 1), (614, 1, 0), (615, 1, 1), (620, 4, 100), (630, 2, 7), (520, 4, 1)] id, 0, 16, { op := 1, flags := 2, seq := 0, layer := 0, layers := 1, kbLog2 := 0, fmt := 1, chunk := 0, dest := 100, ac := 0, seqRow := 0, fence := 7, value := 0 }, { seg := 0, pavs := 1 }, by decide +kernel⟩,
    ⟨atMicro 0 0 1 0 [(608, 1, 0), (610, 1, 2), (613, 1, 1), (614, 1, 9), (615, 1, 1), (620, 4, 100), (630, 2, 7), (520, 4, 1)] (fun d => modStep 16 (fun r => { r with strict := true }) d), 0, 16, { op := 0, flags := 2, seq := 0, layer := 0, layers := 1, kbLog2 := 9, fmt := 1, chunk := 0, dest := 100, ac := 0, seqRow := 0, fence := 7, value := 0 }, { seg := 0, pavs := 1 }, by decide +kernel⟩,
    ⟨upw [(KS_FENCE 0 7, 5)] (modPav 0 (fun v => { v with walking := some (some 7) })), 0, some 7, by decide +kernel⟩,
    ⟨upw (queueRegs ++ kvRegs) (fun d => { setQueue 16 { cmd := some { desc := desc [(0, 1, 0x11), (8, 4, 5), (12, 2, 3)], ticket := 16, cls := 0 } } (holding 3 5 d) with serve := { (holding 3 5 d).serve with waiting := [16] } }), 16, { desc := desc [(0, 1, 0x11), (8, 4, 5), (12, 2, 3)], ticket := 16, cls := 0 }, 3, by decide +kernel⟩⟩

/-- The hypotheses of CameraPackets can be met. -/
theorem test_witness_CameraPackets :
    (∃ (s : State) (r : Nat) (vc : Nat) (c : Nat) (x : List Byte), csiEnabled s.dev r vc = true ∧ c = 4 * r + vc ∧ rbit s.dev (DR_STREAM_CTRL c) 0 = true ∧ openFrame s.dev c = none ∧ (camStream s.dev c).wanted = none ∧ (camStream s.dev c).desc = some x ∧ sdReplay x = false ∧ rbit s.dev (DR_STREAM_CTRL c) 1 = false ∧ storeBusy s.dev c ((rd s.dev (DR_FRAME_COUNT c) + 1) % 2 ^ 32) = false) ∧
    (∃ (s : State) (r : Nat) (vc : Nat) (c : Nat) (f : DrapeFrame) (dt : Nat) (codes : List Nat), csiEnabled s.dev r vc = true ∧ c = 4 * r + vc ∧ rbit s.dev (DR_STREAM_CTRL c) 0 = true ∧ openFrame s.dev c = some f ∧ dt = leField f.desc 1 1 ∧ f.lines < sdHeight f.desc ∧ codes.length = sdWidth f.desc) ∧
    (∃ (s : State) (r : Nat) (vc : Nat) (c : Nat) (f : DrapeFrame) (dt : Nat), csiEnabled s.dev r vc = true ∧ c = 4 * r + vc ∧ rbit s.dev (DR_STREAM_CTRL c) 0 = true ∧ openFrame s.dev c = some f ∧ dt ≠ leField f.desc 1 1) ∧
    (∃ (s : State) (r : Nat) (vc : Nat) (c : Nat) (f : DrapeFrame) (bytes : List Byte), csiEnabled s.dev r vc = true ∧ c = 4 * r + vc ∧ rbit s.dev (DR_STREAM_CTRL c) 0 = true ∧ openFrame s.dev c = some f ∧ sdEmbed f.desc = true ∧ f.embedded + bytes.length ≤ sdEmbedBytes f.desc) ∧
    (∃ (s : State) (r : Nat) (vc : Nat) (c : Nat), csiEnabled s.dev r vc = true ∧ c = 4 * r + vc) ∧
    (∃ (s : State) (r : Nat) (vc : Nat) (c : Nat) (f : DrapeFrame), csiEnabled s.dev r vc = true ∧ c = 4 * r + vc ∧ openFrame s.dev c = some f ∧ f.lines = sdHeight f.desc) ∧
    (∃ (s : State) (r : Nat), r < 8 ∧ (∀ (vc : Nat), vc < 4 → ∀ (f : DrapeFrame), openFrame s.dev (4 * r + vc) = some f → f.lines = sdHeight f.desc)) :=
  ⟨⟨camera { desc := some (streamDesc []) } [] id, 1, 1, 5, streamDesc [], by decide +kernel⟩,
    ⟨camera { desc := some (streamDesc []), frames := [{ desc := streamDesc [] }] } [] id, 1, 1, 5, { desc := streamDesc [] }, 0x2B, [1, 2, 3, 4], by decide +kernel⟩,
    ⟨camera { desc := some (streamDesc []), frames := [{ desc := streamDesc [] }] } [] id, 1, 1, 5, { desc := streamDesc [] }, 0x2C, by decide +kernel⟩,
    ⟨camera { desc := some (streamDesc []), frames := [{ desc := streamDesc [(56, 1, 1), (64, 8, 0x4000), (72, 4, 4)] }] } [] id, 1, 1, 5, { desc := streamDesc [(56, 1, 1), (64, 8, 0x4000), (72, 4, 4)] }, [1, 2, 3, 4], by decide +kernel⟩,
    ⟨camera {} [] id, 1, 1, 5, by decide +kernel⟩,
    ⟨camera { desc := some (streamDesc []), frames := [{ desc := streamDesc [], lines := 2 }] } [(DR_STREAM_STATUS 5, 1)] id, 1, 1, 5, { desc := streamDesc [], lines := 2 }, by decide +kernel⟩,
    ⟨camera { desc := some (streamDesc []), frames := [{ desc := streamDesc [], lines := 2 }] } [(DR_STREAM_STATUS 5, 1)] id, 1, by decide +kernel⟩⟩

/-- The hypotheses of DrapeFrames can be met. -/
theorem test_witness_DrapeFrames :
    (∃ (s : State) (c : Nat), HostOk s.dev ∧ c < 32) ∧
    (∃ (s : State) (c : Nat), HostOk s.dev ∧ c < 32) ∧
    (∃ (s : State) (c : Nat), HostOk s.dev ∧ c < 32 ∧ rbit s.dev (DR_STREAM_CTRL c) 0 = false) ∧
    (∃ (s : State) (c : Nat) (f : DrapeFrame) (w : List Byte) (k : Nat), c < 32 ∧ List.map (fun x => x.fst) s.dev.drape.streams = [c] ∧ (camStream s.dev c).frames = [f] ∧ sdViews f.desc = 1 ∧ w = viewDesc s.dev f.desc 0 ∧ k = f.next.getD 0 0 ∧ stripeReady s.dev f 0 = true ∧ intoGlass f 0 w = false ∧ inSets s.dev c = false ∧ f.closed = false) ∧
    (∃ (s : State) (c : Nat) (f : DrapeFrame) (w : List Byte), c < 32 ∧ List.map (fun x => x.fst) s.dev.drape.streams = [c] ∧ (camStream s.dev c).frames = [f] ∧ sdViews f.desc = 1 ∧ w = viewDesc s.dev f.desc 0 ∧ stripeReady s.dev f 0 = true ∧ intoGlass f 0 w = true ∧ rowCredit s.dev c (viewGlass w) = false) ∧
    (∃ (s : State) (c : Nat) (v : Nat) (f : DrapeFrame) (b : Nat) (n : Nat), List.find? (fun f => stripeReady s.dev f v && stripeBlocked s.dev c f v) (camStream s.dev c).frames = some f ∧ tabFind v f.waits = some b ∧ n = leField (viewDesc s.dev f.desc v) 42 2 ∧ b + n * 25 ≤ s.dev.clock.beat) ∧
    (∃ (s : State) (c : Nat) (v : Nat), (∀ (f : DrapeFrame), f ∈ (camStream s.dev c).frames → ∀ (b : Nat), tabFind v f.waits = some b → s.dev.clock.beat < b + leField (viewDesc s.dev f.desc v) 42 2 * 25)) ∧
    (∃ (s : State) (slot : Nat) (x : FrameSet) (a : Nat), frameSetOf s.dev slot = some x ∧ ¬passedBy (nowNs s.dev) x.ns < ↑(fld s.dev DR_SET_CFG 15 0 * 1000) ∧ a = rd s.dev DR_SET_RING_LO + fld s.dev DR_SET_RING_HI 15 0 * 2 ^ 32 + rd s.dev DR_SET_HEAD * 16 ∧ openDram s.dev a 16 = true) ∧
    (∃ (s : State) (c : Nat) (x : List Byte) (n : Nat) (r : List Byte) (h : List Byte), c < 32 ∧ rbit s.dev (DR_STREAM_CTRL c) 0 = true ∧ rbit s.dev (DR_STREAM_CTRL c) 1 = false ∧ (camStream s.dev c).frames = [] ∧ (camStream s.dev c).wanted = none ∧ (camStream s.dev c).taken = [] ∧ (camStream s.dev c).desc = some x ∧ sdReplay x = true ∧ n = sdEntries x ∧ 2 ≤ n ∧ rd s.dev (DR_REPLAY_TAIL c) % n ≠ rd s.dev (DR_REPLAY_HEAD c) % n ∧ r = memBytes s.dev (sdRing x + rd s.dev (DR_REPLAY_HEAD c) % n * 96) 96 ∧ h = memBytes s.dev (leField r 0 8) 64 ∧ fieldOf (leField h 0 8) 62 0 = leField r 8 8 ∧ bitOf (leField h 0 8) 63 = true) :=
  ⟨⟨camera {} [(DR_STREAM_DESC_LO 5, 0x4000)] id, 5, by decide +kernel⟩,
    ⟨camera {} [] id, 5, by decide +kernel⟩,
    ⟨camera {} [(DR_STREAM_CTRL 5, 0), (DR_FRAME_COUNT 5, 9)] id, 5, by decide +kernel⟩,
    ⟨camera { desc := some (streamDesc []), frames := [{ desc := streamDesc [], lines := 2, stored := 2, next := [0] }] } [] (putFields 0x9000 [(0, 1, 2), (3, 1, 1), (4, 2, 16), (6, 2, 16), (12, 2, 16), (14, 2, 1), (16, 8, 0xB000), (24, 8, 0xC000), (32, 4, 512), (36, 4, 512), (56, 8, 0xA000)]), 5, { desc := streamDesc [], lines := 2, stored := 2, next := [0] }, memBytes (putFields 0x9000 [(0, 1, 2), (3, 1, 1), (4, 2, 16), (6, 2, 16), (12, 2, 16), (14, 2, 1), (16, 8, 0xB000), (24, 8, 0xC000), (32, 4, 512), (36, 4, 512), (56, 8, 0xA000)] {}) 0x9000 128, 0, by decide +kernel⟩,
    ⟨camera { desc := some (streamDesc []), frames := [{ desc := streamDesc [], lines := 2, stored := 2, next := [0] }] } [] (fun d => { putFields 0x9000 [(0, 1, 2), (1, 1, 2), (3, 1, 1), (4, 2, 16), (6, 2, 16), (12, 2, 16), (14, 2, 1), (16, 8, 0xB000), (24, 8, 0x10000000000), (32, 4, 512), (36, 4, 512), (42, 2, 5), (56, 8, 0xA000)] d with clock := { beat := 9 } }), 5, { desc := streamDesc [], lines := 2, stored := 2, next := [0] }, memBytes (putFields 0x9000 [(0, 1, 2), (1, 1, 2), (3, 1, 1), (4, 2, 16), (6, 2, 16), (12, 2, 16), (14, 2, 1), (16, 8, 0xB000), (24, 8, 0x10000000000), (32, 4, 512), (36, 4, 512), (42, 2, 5), (56, 8, 0xA000)] {}) 0x9000 128, by decide +kernel⟩,
    ⟨camera { desc := some (streamDesc []), frames := [{ desc := streamDesc [], lines := 2, stored := 2, next := [0], waits := [(0, 7)] }] } [] (fun d => { putFields 0x9000 [(0, 1, 2), (1, 1, 2), (3, 1, 1), (4, 2, 16), (6, 2, 16), (12, 2, 16), (14, 2, 1), (16, 8, 0xB000), (24, 8, 0x10000000000), (32, 4, 512), (36, 4, 512), (42, 2, 5), (56, 8, 0xA000)] d with clock := { beat := 132 } }), 5, 0, { desc := streamDesc [], lines := 2, stored := 2, next := [0], waits := [(0, 7)] }, 7, 5, by decide +kernel⟩,
    ⟨camera { desc := some (streamDesc []), frames := [{ desc := streamDesc [], lines := 2, stored := 2, next := [0], waits := [(0, 7)] }] } [] (fun d => { putFields 0x9000 [(0, 1, 2), (1, 1, 2), (3, 1, 1), (4, 2, 16), (6, 2, 16), (12, 2, 16), (14, 2, 1), (16, 8, 0xB000), (24, 8, 0x10000000000), (32, 4, 512), (36, 4, 512), (42, 2, 5), (56, 8, 0xA000)] d with clock := { beat := 131 } }), 5, 0, by decide +kernel⟩,
    ⟨upw [(DR_SET_RING_LO, 0x4000), (DR_SET_RING_LEN, 4), (DR_SET_HEAD, 3), (DR_SET_CFG, 0x00050001)] (fun d => { d with drape := { d.drape with sets := [{ slot := 9, ns := 0, present := 1, flagged := 0 }] }, clock := { d.clock with beat := 10 } } |> wr CT_NS 1001), 9, { slot := 9, ns := 0, present := 1, flagged := 0 }, 0x4030, by decide +kernel⟩,
    ⟨camera { desc := some (streamDesc [(0, 1, 1), (80, 8, 0x8000), (88, 4, 16)]) } [(DR_REPLAY_TAIL 5, 1)] (putFields 0x4000 [(7, 1, 0x80), (0x4000, 8, 0x4000)]), 5, streamDesc [(0, 1, 1), (80, 8, 0x8000), (88, 4, 16)], 16, bytesOf 96 [(0, 8, 0x4000)], bytesOf 64 [(7, 1, 0x80)], by decide +kernel⟩⟩

/-- The hypotheses of SensorHeads can be met. -/
theorem test_witness_SensorHeads :
    (∃ (s : State) (c : Nat), c < 32 ∧ lodgeUp s.dev = true) ∧
    (∃ (s : State) (c : Nat) (r : List Byte) (h : List Byte) (ok : Bool), c < 32 ∧ lodgeUp s.dev = true ∧ MinorAlone s.dev 67 ∧ h = sliceBytes r 0 640 ∧ ok = (sliceBytes h 0 4 == ascii "WHRD" && leField h 4 2 == 1 && leField h 16 4 == crc32c (sliceBytes h 32 144) && certValid s.dev h && leField h 288 8 == leField h 8 8)) ∧
    (∃ (s : State) (c : Nat) (x : List Byte), c < 32 ∧ lodgeUp s.dev = true ∧ MinorAlone s.dev 67 ∧ (headOf s.dev c).challenge = some x) ∧
    (∃ (s : State) (c : Nat) (x : List Byte), c < 32 ∧ lodgeUp s.dev = true ∧ MinorAlone s.dev 67 ∧ (headOf s.dev c).challenge = some x) ∧
    (∃ (s : State) (c : Nat) (x : Nat), c < 32 ∧ lodgeUp s.dev = true ∧ headState s.dev c = 2 ∧ (headOf s.dev c).serial = some x ∧ rbit (settleQuarters c s.dev) (DR_STREAM_STATUS c) 6 = false) ∧
    (∃ (s : State) (c : Nat) (x : Nat) (y : Nat), c < 32 ∧ lodgeUp s.dev = true ∧ headState s.dev c = 2 ∧ (headOf s.dev c).serial = some x ∧ y ≠ x) ∧
    (∃ (s : State) (c : Nat) (temp : Int), c < 32 ∧ lodgeUp s.dev = true ∧ headState s.dev c = 2 ∧ (headOf s.dev c).cold = true ∧ signedOf 16 (leField (headOf s.dev c).record 460 2) ≤ temp) ∧
    (∃ (s : State) (r : Nat), isReady s.dev = true ∧ r < 8 ∧ rbit s.dev (CSI_CTRL r) 0 = true ∧ rbit s.dev (CSI_STATUS r) 0 = false) ∧
    (∃ (s : State) (c : Nat) (x : Nat), c < 32 ∧ lodgeUp s.dev = true ∧ (headOf s.dev c).recheck = true ∧ (headOf s.dev c).serial = some x) ∧
    (∃ (s : State) (c : Nat) (x : Nat) (y : Nat), c < 32 ∧ lodgeUp s.dev = true ∧ (headOf s.dev c).recheck = true ∧ (headOf s.dev c).serial = some x ∧ y ≠ x) :=
  ⟨⟨head5 {} [], 5, by decide +kernel⟩,
    ⟨head5 {} [(BV_SEV 4, 0x40)], 5, [], List.replicate 640 0, false, by decide +kernel⟩,
    ⟨head5 { challenge := some [1] } [(BV_SEV 4, 0x40)], 5, [1], by decide +kernel⟩,
    ⟨head5 { challenge := some [1] } [(BV_SEV 4, 0x40)], 5, [1], by decide +kernel⟩,
    ⟨head5 { serial := some 7 } [(DR_STREAM_STATUS 5, 8)], 5, 7, by decide +kernel⟩,
    ⟨head5 { serial := some 7 } [(DR_STREAM_STATUS 5, 8)], 5, 7, 8, by decide +kernel⟩,
    ⟨head5 { serial := some 7, cold := true } [(DR_STREAM_STATUS 5, 8)], 5, 0, by decide +kernel⟩,
    ⟨up [(CSI_CTRL 1, 1)], 1, by decide +kernel⟩,
    ⟨head5 { serial := some 7, recheck := true } [(DR_STREAM_STATUS 5, 8)], 5, 7, by decide +kernel⟩,
    ⟨head5 { serial := some 7, recheck := true } [(DR_STREAM_STATUS 5, 8)], 5, 7, 8, by decide +kernel⟩⟩

/-- The hypotheses of ClochePasses can be met. -/
theorem test_witness_ClochePasses :
    (∃ (s : State), HostOk s.dev ∧ clocheRunning s.dev = false ∧ rbit s.dev CL_CTRL 0 = false) ∧
    (∃ (s : State), HostOk s.dev ∧ clocheRunning s.dev = true) ∧
    (∃ (s : State), clocheRunning s.dev = true ∧ s.dev.cloche.k ≠ 0 ∧ 0 ≤ passedBy (nowNs s.dev) s.dev.cloche.next ∧ passedBy (nowNs s.dev) (s.dev.cloche.next + s.dev.cloche.cycleNs / s.dev.cloche.sub) < 0) ∧
    (∃ (s : State), s.dev.cloche.passStart + 5120 > nowTicks s.dev) ∧
    (∃ (s : State), passOver s.dev = true ∧ s.dev.cloche.slots = [] ∧ (∀ (f : Nat), f < 16 → rbit s.dev (CL_FRAME_CFG f) 31 = false) ∧ s.dev.cloche.updates = []) ∧
    (∃ (s : State) (w : Nat), passOver s.dev = true ∧ s.dev.cloche.slots = [] ∧ (∀ (f : Nat), f < 16 → rbit s.dev (CL_FRAME_CFG f) 31 = false) ∧ bitOf w 0 = false ∧ s.dev.cloche.updates = [ClocheUpdate.write CL_CTRL w]) ∧
    (∃ (s : State) (n : Nat) (x : LoopSlot) (k : Nat), n < 64 ∧ passOver s.dev = true ∧ s.dev.cloche.slots = [(n, x)] ∧ slotArmed s.dev n = true ∧ s.dev.cloche.due = [k] ∧ k % loopDiv x.record = 0 ∧ s.dev.cloche.updates = [] ∧ (∀ (f : Nat), f < 16 → rbit s.dev (CL_FRAME_CFG f) 31 = false) ∧ loopOut x.record < 32 ∧ loopStale (readAt (headCycle n) s.dev) x.record = false) ∧
    (∃ (s : State) (n : Nat), n < 64 ∧ (slotOf s.dev n).staleDue = true ∧ MinorAlone s.dev 58) :=
  ⟨⟨up [(CL_CYCLE_START, 77), (CL_PASS_COUNT, 5)], by decide +kernel⟩,
    ⟨up [(CL_STATUS, 1), (CL_CTRL, 1)], by decide +kernel⟩,
    ⟨upw [(CL_STATUS, 1), (CT_NS, 600000)] (fun d => { d with cloche := { d.cloche with sub := 2, k := 1, next := 500000 } }), by decide +kernel⟩,
    ⟨up [(CL_STATUS, 1)], by decide +kernel⟩,
    ⟨passes [] [0] [(CL_PASS_COUNT, 0xFFFFFFFF), (CL_SAFE 31, 9)], by decide +kernel⟩,
    ⟨upw [(CL_STATUS, 1), (CL_CTRL, 1)] (fun d => { d with cloche := { d.cloche with updates := [.write CL_CTRL 0] }, clock := { beat := 256 } }), 0, by decide +kernel⟩,
    ⟨passes [(5, { record := limiterLoop })] [0] [(CL_ARMED_LO, 32)], 5, { record := limiterLoop }, 0, by decide +kernel⟩,
    ⟨upw [(BV_SEV 3, 0x100000)] (fun d => { d with cloche := { d.cloche with slots := [(5, { record := limiterLoop, staleDue := true })] } }), 5, by decide +kernel⟩⟩

/-- The hypotheses of ClocheFrames can be met. -/
theorem test_witness_ClocheFrames :
    (∃ (s : State) (f : Nat), HostOk s.dev ∧ f < 16 ∧ clocheRunning s.dev = false ∧ rbit s.dev (CL_FRAME_CFG f) 31 = false) ∧
    (∃ (s : State) (f : Nat) (k : Nat), f < 16 ∧ passOver s.dev = true ∧ s.dev.cloche.slots = [] ∧ s.dev.cloche.due = [k] ∧ s.dev.cloche.updates = [] ∧ rbit s.dev (CL_FRAME_CFG f) 31 = true ∧ (∀ (g : Nat), g < 16 → g ≠ f → rbit s.dev (CL_FRAME_CFG g) 31 = false) ∧ k % fld s.dev (CL_FRAME_CFG f) 24 17 = 0 ∧ frameConfigOk s.dev f = true ∧ ¬f ∈ s.dev.cloche.badFrames) ∧
    (∃ (s : State) (n : Nat) (f : ClocheFrame), List.find? (fun f => f.frame == n) s.dev.cloche.frames = some f ∧ f.ethernet = true ∧ (ethOf s.dev f.dest).cloche.length < 2) ∧
    (∃ (s : State) (n : Nat) (f : ClocheFrame) (a : List Byte) (b : List Byte), List.find? (fun f => f.frame == n) s.dev.cloche.frames = some f ∧ f.ethernet = true ∧ (ethOf s.dev f.dest).cloche = [a, b]) ∧
    (∃ (s : State) (n : Nat) (f : ClocheFrame), List.find? (fun f => f.frame == n) s.dev.cloche.frames = some f ∧ f.ethernet = false ∧ f.dest < 8 ∧ f.buf < 3 ∧ txState s.dev f.dest f.buf ≠ 1 ∧ txState s.dev f.dest f.buf ≠ 2) :=
  ⟨⟨up [(CL_FRAME_CNT 15, 9)], 15, by decide +kernel⟩,
    ⟨passes [] [0] [(CL_FRAME_CFG 3, 0xC0020040), (CL_FRAME_ID 3, 0xFFFF1234), (CL_FRAME_CNT 3, 0xFF)], 3, 0, by decide +kernel⟩,
    ⟨upw [] (fun d => { d with cloche := { d.cloche with frames := [{ frame := 3, ethernet := true, dest := 1, bytes := [1, 2] }] } }), 3, { frame := 3, ethernet := true, dest := 1, bytes := [1, 2] }, by decide +kernel⟩,
    ⟨upw [] (fun d => { d with cloche := { d.cloche with frames := [{ frame := 3, ethernet := true, dest := 1, bytes := [1, 2] }] }, eth := [(1, { cloche := [[5], [6]] })] }), 3, { frame := 3, ethernet := true, dest := 1, bytes := [1, 2] }, [5], [6], by decide +kernel⟩,
    ⟨upw [] (fun d => { d with cloche := { d.cloche with frames := [{ frame := 3, dest := 1, buf := 2, canId := 0x123, bytes := List.replicate 8 7 }] } }), 3, { frame := 3, dest := 1, buf := 2, canId := 0x123, bytes := List.replicate 8 7 }, by decide +kernel⟩⟩

/-- The hypotheses of Converters can be met. -/
theorem test_witness_Converters :
    (∃ (s : State) (a : Nat), a < 2 ∧ rbit s.dev SN_CTRL a = true ∧ rbit s.dev SN_CTRL 2 = false ∧ fld s.dev (SN_ADC_CFG a) 1 0 = 0 ∧ (adcOf s.dev a).running = false) ∧
    (∃ (s : State) (a : Nat) (n : Nat), a < 2 ∧ rbit s.dev SN_CTRL a = true ∧ rbit s.dev SN_CTRL 2 = false ∧ n < 4 ∧ fld s.dev (SN_ADC_CFG a) 1 0 = 2 ∧ fld s.dev (SN_ADC_CFG a) 3 2 = n ∧ ttEdgeDue s.dev n = true) ∧
    (∃ (s : State) (a : Nat), a < 2 ∧ (adcOf s.dev a).running = true ∧ (adcOf s.dev a).slot < 16 ∧ fld s.dev (SN_ADC_SEQ a (adcOf s.dev a).slot) 6 4 = 0) ∧
    (∃ (s : State) (a : Nat) (i : Nat), a < 2 ∧ i < 16 ∧ (adcOf s.dev a).running = true ∧ (adcOf s.dev a).slot = i) ∧
    (∃ (s : State) (n : Nat), HostOk s.dev ∧ n < 128) :=
  ⟨⟨up [(SN_CTRL, 2)], 1, by decide +kernel⟩,
    ⟨upw [(SN_CTRL, 2), (SN_ADC_CFG 1, 0xE), (CT_TT_CFG 3, 2 ^ 31)] (fun d => { d with sense := { d.sense with adc := [(1, { running := true, slot := 0 })] }, tower := { d.tower with out := [(3, { next := some 0 })] } }), 1, 3, by decide +kernel⟩,
    ⟨upw [(SN_CTRL, 2)] (fun d => { d with sense := { d.sense with adc := [(1, { running := true, slot := 15 })] } }), 1, by decide +kernel⟩,
    ⟨upw [(SN_CTRL, 2), (SN_ADC_CFG 1, 0x300), (SN_ADC_SEQ 1 2, 0x10), (SN_ROUTE 9, 0x80001012), (SN_GAIN 9, 0x10000)] (fun d => { d with sense := { d.sense with adc := [(1, { running := true, slot := 2 })] } }), 1, 2, by decide +kernel⟩,
    ⟨upw [(SN_ROUTE 9, 0)] (fun d => { d with cloche := { d.cloche with inputs := [(9, { value := 5, valid := true, stamp := 0 })] } }), 9, by decide +kernel⟩⟩

/-- The hypotheses of Receivers can be met. -/
theorem test_witness_Receivers :
    (∃ (s : State) (j : Nat) (cal0 : Nat) (pulses : List SentPulse), j < 8 ∧ rbit s.dev SN_CTRL (8 + j) = true ∧ (sentLengths cal0 pulses).headD 0 ≠ 0 ∧ sentFrameOk s.dev j ((sentLengths cal0 pulses).headD 0) (List.map (sentTicks ((sentLengths cal0 pulses).headD 0)) (if (sentLengths cal0 pulses).length = fld s.dev (SN_SENT_CFG j) 13 11 + 4 then List.take (fld s.dev (SN_SENT_CFG j) 13 11 + 2) (sentLengths cal0 pulses).tail else (sentLengths cal0 pulses).tail)) = true ∧ fld s.dev (SN_SENT_CFG j) 21 20 = 0) ∧
    (∃ (s : State) (j : Nat) (cal0 : Nat) (pulses : List SentPulse), j < 8 ∧ rbit s.dev SN_CTRL (8 + j) = true ∧ (sentLengths cal0 pulses).headD 0 ≠ 0 ∧ sentFrameOk s.dev j ((sentLengths cal0 pulses).headD 0) (List.map (sentTicks ((sentLengths cal0 pulses).headD 0)) (if (sentLengths cal0 pulses).length = fld s.dev (SN_SENT_CFG j) 13 11 + 4 then List.take (fld s.dev (SN_SENT_CFG j) 13 11 + 2) (sentLengths cal0 pulses).tail else (sentLengths cal0 pulses).tail)) = false) ∧
    (∃ (s : State) (j : Nat), j < 8 ∧ rbit s.dev SN_CTRL (8 + j) = true ∧ fld s.dev (SN_SENT_TIMEOUT j) 15 0 ≠ 0 ∧ (sentOf s.dev j).expired = false ∧ MinorAlone s.dev 71 ∧ 500 * fld s.dev (SN_SENT_TIMEOUT j) 15 0 ≤ nowTicks s.dev - (sentOf s.dev j).since) ∧
    (∃ (s : State) (m : Nat) (k : Nat), m < 4 ∧ k < 4 ∧ rbit s.dev SN_CTRL (16 + m) = true ∧ rbit s.dev (SN_SPI_XFER m k) 31 = true ∧ fld s.dev (SN_SPI_XFER m k) 29 28 = 1 ∧ (spiOf s.dev m).running = none ∧ (spiOf s.dev m).waiting = []) ∧
    (∃ (s : State) (m : Nat) (k : Nat), m < 4 ∧ k < 4 ∧ rbit s.dev SN_CTRL (16 + m) = true ∧ rbit s.dev (SN_SPI_XFER m k) 31 = true ∧ fld s.dev (SN_SPI_XFER m k) 29 28 = 1 ∧ (spiOf s.dev m).running = some k) ∧
    (∃ (s : State) (m : Nat) (k : Nat), m < 4 ∧ (spiOf s.dev m).running = some k ∧ k < 4 ∧ (spiOf s.dev m).waiting = [] ∧ (k < 3 → fld s.dev (SN_SPI_XFER m (k + 1)) 29 28 ≠ 3) ∧ fld s.dev (SN_SPI_XFER m k) 15 8 = 0) ∧
    (∃ (s : State) (c : Nat) (rising : Bool) (level : Nat), c < 8 ∧ rbit s.dev SN_CTRL (24 + c) = true ∧ edgeQualifies (fld s.dev (SN_CAP_CFG c) 1 0) (fld s.dev (SN_CAP_CFG c) 31 24) rising level = true) ∧
    (∃ (s : State) (c : Nat) (b : Nat), c < 8 ∧ (capOf s.dev c).since = some b ∧ rbit s.dev SN_CTRL (24 + c) = true ∧ 500000 * fld s.dev (SN_CAP_CFG c) 23 8 ≤ nowTicks s.dev - b) :=
  ⟨⟨up [(SN_CTRL, 0x200), (SN_SENT_CFG 1, 0x480A), (SN_ROUTE 9, 0x80002001), (SN_GAIN 9, 0x10000)], 1, 56000, [{ ns := 15000 }, { ns := 17000 }, { ns := 21000 }], by decide +kernel⟩,
    ⟨up [(SN_CTRL, 0x200), (SN_SENT_CFG 1, 0x480A)], 1, 56000, [{ ns := 15000 }, { ns := 17000 }], by decide +kernel⟩,
    ⟨upw [(SN_CTRL, 0x200), (SN_SENT_TIMEOUT 1, 10), (BV_SEV 4, 0x4000), (SN_ROUTE 9, 0x80002001)] (fun d => { d with clock := { beat := 250 } }), 1, by decide +kernel⟩,
    ⟨up [(SN_CTRL, 0x40000), (SN_SPI_XFER 2 3, 0x90000000)], 2, 3, by decide +kernel⟩,
    ⟨upw [(SN_CTRL, 0x40000), (SN_SPI_XFER 2 3, 0x90000000)] (fun d => { d with sense := { d.sense with spi := [(2, { running := some 3 })] } }), 2, 3, by decide +kernel⟩,
    ⟨upw [(SN_CTRL, 0x40000), (SN_SPI_XFER 2 3, 0x80200000), (SN_SPI_FIELD 2 5, 0x8000C00D), (SN_ROUTE 9, 0x80005025), (SN_GAIN 9, 0x10000)] (fun d => { d with sense := { d.sense with spi := [(2, { running := some 3 })] } }), 2, 3, by decide +kernel⟩,
    ⟨upw [(SN_CTRL, 0x20000000), (SN_CAP_CFG 5, 0x02000000), (CT_NS, 5000)] (fun d => { d with sense := { d.sense with cap := [(5, { prev := some 1000, since := some 0 })] } }), 5, true, 20, by decide +kernel⟩,
    ⟨upw [(SN_CTRL, 0x20000000), (SN_CAP_CFG 5, 0x100)] (fun d => { d with clock := { beat := 25000 }, sense := { d.sense with cap := [(5, { prev := some 1000, since := some 0 })] } }), 5, 0, by decide +kernel⟩⟩

/-- The hypotheses of CanReceive can be met. -/
theorem test_witness_CanReceive :
    (∃ (s : State) (c : Nat) (v : Word), HostOk s.dev ∧ c < 8 ∧ rbit s.dev (CAN_CTRL c) 0 = false ∧ (canOf s.dev c).running = false ∧ bitOf (BitVec.toNat v) 7 = false) ∧
    (∃ (s : State) (c : Nat), c < 8 ∧ (canOf s.dev c).running = true ∧ (canOf s.dev c).attempt = none) ∧
    (∃ (s : State) (c : Nat) (ago : Nat), c < 8 ∧ (canOf s.dev c).running = true ∧ canWaits s.dev c ago = true) ∧
    (∃ (s : State) (c : Nat) (f : CanFrame) (ago : Nat) (n : Nat), c < 8 ∧ (canOf s.dev c).running = true ∧ (canOf s.dev c).mode = 0 ∧ (canOf s.dev c).rxErr = 0 ∧ canWaits s.dev c ago = false ∧ rbit s.dev (CAN_STATUS c) 3 = false ∧ rbit s.dev (CAN_TT_STATUS c) 0 = false ∧ List.find? (fun j => filterMatches s.dev c j f.id) (List.range 128) = none ∧ n < 2 ∧ fld s.dev (CAN_RX_CFG c) 1 0 = n ∧ fld s.dev (rxqStat c n) 13 8 < 32) ∧
    (∃ (s : State) (c : Nat) (f : CanFrame) (ago : Nat), c < 8 ∧ (canOf s.dev c).running = true ∧ (canOf s.dev c).mode = 0 ∧ (canOf s.dev c).rxErr = 0 ∧ canWaits s.dev c ago = false ∧ rbit s.dev (CAN_STATUS c) 3 = false ∧ rbit s.dev (CAN_TT_STATUS c) 0 = false ∧ List.find? (fun j => filterMatches s.dev c j f.id) (List.range 128) = none ∧ 2 ≤ fld s.dev (CAN_RX_CFG c) 1 0) ∧
    (∃ (s : State) (c : Nat) (f : CanFrame) (ago : Nat) (j : Nat) (n : Nat), c < 8 ∧ (canOf s.dev c).running = true ∧ (canOf s.dev c).mode = 0 ∧ (canOf s.dev c).rxErr = 0 ∧ canWaits s.dev c ago = false ∧ rbit s.dev (CAN_STATUS c) 3 = false ∧ rbit s.dev (CAN_TT_STATUS c) 0 = false ∧ List.find? (fun j => filterMatches s.dev c j f.id) (List.range 128) = some j ∧ n < 2 ∧ fld s.dev (CAN_RAM c (2 * j + 1)) 31 30 = n ∧ fld s.dev (rxqStat c n) 13 8 < 32) ∧
    (∃ (s : State) (c : Nat) (f : CanFrame) (ago : Nat) (j : Nat) (n : Nat), c < 8 ∧ (canOf s.dev c).running = true ∧ (canOf s.dev c).mode = 0 ∧ (canOf s.dev c).rxErr = 0 ∧ canWaits s.dev c ago = false ∧ rbit s.dev (CAN_STATUS c) 3 = false ∧ rbit s.dev (CAN_TT_STATUS c) 0 = false ∧ List.find? (fun j => filterMatches s.dev c j f.id) (List.range 128) = some j ∧ n < 2 ∧ fld s.dev (CAN_RAM c (2 * j + 1)) 31 30 = n ∧ fld s.dev (rxqStat c n) 13 8 = 32) ∧
    (∃ (s : State) (c : Nat) (f : CanFrame) (ago : Nat) (j : Nat), c < 8 ∧ (canOf s.dev c).running = true ∧ (canOf s.dev c).mode = 0 ∧ (canOf s.dev c).rxErr = 0 ∧ canWaits s.dev c ago = false ∧ rbit s.dev (CAN_STATUS c) 3 = false ∧ rbit s.dev (CAN_TT_STATUS c) 0 = false ∧ List.find? (fun j => filterMatches s.dev c j f.id) (List.range 128) = some j ∧ fld s.dev (CAN_RAM c (2 * j + 1)) 31 30 = 2 ∧ rbit s.dev (CAN_HP_STATUS c) 0 = false) ∧
    (∃ (s : State) (c : Nat) (v : Word), HostOk s.dev ∧ c < 8 ∧ bitOf (BitVec.toNat v) 0 = true) ∧
    (∃ (s : State) (c : Nat) (n : Nat), HostOk s.dev ∧ c < 8 ∧ n < 2) ∧
    (∃ (s : State) (c : Nat) (lec : Nat), c < 8 ∧ (canOf s.dev c).running = true ∧ rbit s.dev (CAN_STATUS c) 3 = false ∧ lec < 8 ∧ (canOf s.dev c).mode = 0) ∧
    (∃ (s : State) (c : Nat) (lec : Nat), c < 8 ∧ (canOf s.dev c).running = true ∧ rbit s.dev (CAN_STATUS c) 3 = false ∧ lec < 8 ∧ ((canOf s.dev c).mode = 1 ∨ (canOf s.dev c).mode = 2)) ∧
    (∃ (s : State) (c : Nat), c < 8 ∧ (canOf s.dev c).running = true ∧ rbit s.dev (CAN_STATUS c) 3 = false ∧ rbit s.dev (CAN_CTRL c) 6 = false) :=
  ⟨⟨up [(CAN_NBT 2, 0x06C6F801), (CAN_DBT 2, 0x00377801)], 2, 5, by decide +kernel⟩,
    ⟨canned { running := true } [(CAN_CTRL 2, 5)], 2, by decide +kernel⟩,
    ⟨canned { running := true, waitFrom := some 0 } [(CAN_STATUS 2, 1)], 2, 9, by decide +kernel⟩,
    ⟨canned { running := true } [(CT_NS, 7), (CAN_RX_CFG 2, 1), (CAN_RXQ1_STAT 2, 0x1F1E)], 2, { id := 0x123, dlc := 2, data := [1, 2] }, 9, 1, by decide +kernel⟩,
    ⟨canned { running := true } [(CT_NS, 7), (CAN_RX_CFG 2, 2)], 2, { id := 0x123, dlc := 2, data := [1, 2] }, 9, by decide +kernel⟩,
    ⟨canned { running := true } ([(CT_NS, 7), (CAN_RX_CFG 2, 2), (CAN_RXQ1_STAT 2, 0x1F1E)] ++ filter7 1), 2, { id := 0x123, dlc := 2, data := [1, 2] }, 9, 7, 1, by decide +kernel⟩,
    ⟨canned { running := true } ([(CT_NS, 7), (CAN_RX_CFG 2, 2), (CAN_RXQ1_STAT 2, 0xFF002000)] ++ filter7 1), 2, { id := 0x123, dlc := 2, data := [1, 2] }, 9, 7, 1, by decide +kernel⟩,
    ⟨canned { running := true } ([(CT_NS, 7), (CAN_RX_CFG 2, 2)] ++ filter7 2), 2, { id := 0x123, dlc := 2, data := [1, 2] }, 9, 7, by decide +kernel⟩,
    ⟨up [(CAN_HP_STATUS 2, 1)], 2, 1, by decide +kernel⟩,
    ⟨up [(CAN_RXQ0_STAT 2, 0x55001F1E)], 2, 0, by decide +kernel⟩,
    ⟨canned { running := true, rxErr := 136 } [(CAN_STATUS 2, 1)], 2, 7, by decide +kernel⟩,
    ⟨canned { running := true, mode := 2 } [(CAN_STATUS 2, 1)], 2, 3, by decide +kernel⟩,
    ⟨canned { running := true } [(CAN_STATUS 2, 1)], 2, by decide +kernel⟩⟩

/-- The hypotheses of CanTransmit can be met. -/
theorem test_witness_CanTransmit :
    (∃ (s : State) (c : Nat) (b : Nat) (v : Word), HostOk s.dev ∧ c < 8 ∧ b < 3 ∧ bitsSet (BitVec.toNat v) 3 = [b] ∧ clocheOwns s.dev c b = false ∧ txPending s.dev c b = false) ∧
    (∃ (s : State) (c : Nat) (b : Nat) (v : Word), HostOk s.dev ∧ c < 8 ∧ b < 3 ∧ bitsSet (BitVec.toNat v) 3 = [b] ∧ clocheOwns s.dev c b = true) ∧
    (∃ (s : State) (c : Nat) (b : Nat) (v : Word), HostOk s.dev ∧ c < 8 ∧ b < 3 ∧ bitsSet (BitVec.toNat v) 3 = [b] ∧ clocheOwns s.dev c b = false ∧ txState s.dev c b = 1) ∧
    (∃ (s : State) (c : Nat) (b : Nat) (v : Word), HostOk s.dev ∧ c < 8 ∧ b < 3 ∧ bitsSet (BitVec.toNat v) 3 = [b] ∧ clocheOwns s.dev c b = false ∧ txState s.dev c b = 2) ∧
    (∃ (s : State) (c : Nat) (n : Nat), c < 8 ∧ (canOf s.dev c).running = true ∧ (canOf s.dev c).attempt = none ∧ (canOf s.dev c).mode = 0 ∧ rbit s.dev (CAN_STATUS c) 3 = false ∧ canWaits s.dev c 0 = false ∧ (canOf s.dev c).refDue = some n) ∧
    (∃ (s : State) (c : Nat) (b : Nat), c < 8 ∧ (canOf s.dev c).running = true ∧ (canOf s.dev c).attempt = none ∧ (canOf s.dev c).mode = 0 ∧ rbit s.dev (CAN_STATUS c) 3 = false ∧ canWaits s.dev c 0 = false ∧ b < 3 ∧ (canOf s.dev c).refDue = none ∧ (canOf s.dev c).badWords = [] ∧ txState s.dev c b = 1 ∧ windowOpen s.dev c b = true ∧ (∀ (x : Nat), x < 3 → x ≠ b → txState s.dev c x ≠ 1)) ∧
    (∃ (s : State) (c : Nat) (b : Nat) (a : CanAttempt), c < 8 ∧ b < 3 ∧ (canOf s.dev c).attempt = some a ∧ a.source = CanSource.buffer b ∧ (canOf s.dev c).mode = 0 ∧ tabFind (c * 4 + b) s.dev.cloche.waiting = none ∧ (canOf s.dev c).txErr = 0) ∧
    (∃ (s : State) (c : Nat) (b : Nat) (a : CanAttempt), c < 8 ∧ b < 3 ∧ (canOf s.dev c).attempt = some a ∧ a.source = CanSource.buffer b ∧ (canOf s.dev c).mode = 0 ∧ tabFind (c * 4 + b) s.dev.cloche.waiting = none ∧ ¬b ∈ (canOf s.dev c).cancelling ∧ rbit s.dev (CAN_CTRL c) 5 = false) ∧
    (∃ (s : State) (c : Nat) (b : Nat) (a : CanAttempt) (lec : Nat), c < 8 ∧ b < 3 ∧ (canOf s.dev c).attempt = some a ∧ a.source = CanSource.buffer b ∧ (canOf s.dev c).mode = 0 ∧ tabFind (c * 4 + b) s.dev.cloche.waiting = none ∧ lec < 8 ∧ lec ≠ 3 ∧ (canOf s.dev c).txErr < 248) ∧
    (∃ (s : State) (c : Nat) (a : CanAttempt), c < 8 ∧ (canOf s.dev c).attempt = some a ∧ a.source = CanSource.reference ∧ (canOf s.dev c).mode = 0 ∧ (canOf s.dev c).txErr = 0 ∧ (canOf s.dev c).refDue = some a.k) ∧
    (∃ (s : State) (c : Nat) (a : CanAttempt), c < 8 ∧ (canOf s.dev c).attempt = some a ∧ a.source = CanSource.reference ∧ rbit s.dev (CAN_TT_STATUS c) 0 = true ∧ (canOf s.dev c).refDue = some a.k) ∧
    (∃ (s : State) (c : Nat) (a : CanAttempt), c < 8 ∧ (canOf s.dev c).attempt = some a ∧ a.source = CanSource.reference ∧ rbit s.dev (CAN_TT_STATUS c) 0 = true ∧ (canOf s.dev c).refDue ≠ some a.k ∧ fld s.dev (CAN_TT_CFG c) 15 8 = 0) ∧
    (∃ (s : State) (c : Nat) (v : Word), c < 8 ∧ rbit s.dev (CAN_STATUS c) 3 = true ∧ HostOk s.dev ∧ bitOf (BitVec.toNat v) 4 = false ∧ bitOf (BitVec.toNat v) 0 = rbit s.dev (CAN_CTRL c) 0) ∧
    (∃ (s : State) (c : Nat), c < 8 ∧ rbit s.dev (CAN_STATUS c) 3 = true ∧ (canOf s.dev c).recovering = true) ∧
    (∃ (s : State) (c : Nat), HostOk s.dev ∧ c < 8 ∧ rbit s.dev (CAN_TT_CFG c) 31 = false ∧ rbit s.dev CAN_TT_MASTER 3 = false ∧ fld s.dev (CAN_CTRL c) 3 2 = 0) ∧
    (∃ (s : State) (c : Nat), HostOk s.dev ∧ c < 8 ∧ rbit s.dev (CAN_TT_CFG c) 31 = false ∧ (rbit s.dev CAN_TT_MASTER 3 = true ∧ fld s.dev CAN_TT_MASTER 2 0 ≠ c ∨ fld s.dev (CAN_CTRL c) 3 2 ≠ 0)) ∧
    (∃ (s : State) (c : Nat) (k : Can), c < 8 ∧ rbit s.dev (CAN_TT_STATUS c) 0 = true ∧ k = canOf s.dev c ∧ k.running = true ∧ 0 ≤ passedBy (nowNs s.dev) k.refNext ∧ passedBy (nowNs s.dev) (k.refNext + rd s.dev (CAN_TT_CYCLE_NS c)) < 0 ∧ k.refDue = none) ∧
    (∃ (s : State) (c : Nat) (k : Can) (a : CanAttempt), c < 8 ∧ rbit s.dev (CAN_TT_STATUS c) 0 = true ∧ k = canOf s.dev c ∧ k.running = true ∧ 0 ≤ passedBy (nowNs s.dev) k.refNext ∧ passedBy (nowNs s.dev) (k.refNext + rd s.dev (CAN_TT_CYCLE_NS c)) < 0 ∧ k.attempt = some a ∧ a.source = CanSource.reference) ∧
    (∃ (s : State) (c : Nat) (k : Can) (n : Nat), c < 8 ∧ rbit s.dev (CAN_TT_STATUS c) 0 = true ∧ k = canOf s.dev c ∧ k.running = true ∧ 0 ≤ passedBy (nowNs s.dev) k.refNext ∧ passedBy (nowNs s.dev) (k.refNext + rd s.dev (CAN_TT_CYCLE_NS c)) < 0 ∧ k.refDue = some n ∧ k.attempt = none ∧ fld s.dev (CAN_TT_CFG c) 15 8 = 0) ∧
    (∃ (s : State) (c : Nat) (b : Nat), c < 8 ∧ b < 3 ∧ rbit s.dev (CAN_TT_STATUS c) 0 = true ∧ rbit s.dev (CAN_TXB_WIN c b) 31 = true ∧ (canOf s.dev c).marked = true ∧ ↑(fld s.dev (CAN_TXB_WIN c b) 16 0 * 1000) ≤ sinceMark s.dev c) :=
  ⟨⟨up [], 2, 2, 0xFFFFFFFC, by decide +kernel⟩,
    ⟨up [(CAN_TX_CFG 2, 0x40)], 2, 2, 4, by decide +kernel⟩,
    ⟨up [(CAN_TXREQ 2, 4), (CAN_TXB_STAT 2 2, 1)], 2, 2, 4, by decide +kernel⟩,
    ⟨up [(CAN_TXREQ 2, 4), (CAN_TXB_STAT 2 2, 2)], 2, 2, 4, by decide +kernel⟩,
    ⟨canned { running := true, refDue := some 3 } [(CAN_TXREQ 2, 4), (CAN_TXB_STAT 2 2, 1)], 2, 3, by decide +kernel⟩,
    ⟨canned { running := true } [(CAN_TXREQ 2, 4), (CAN_TXB_STAT 2 2, 1)], 2, 2, by decide +kernel⟩,
    ⟨canned { running := true, attempt := some { source := .buffer 2, frame := { id := 5 }, stamp := 9 } } [(CAN_TXB_STAT 2 2, 2)], 2, 2, { source := .buffer 2, frame := { id := 5 }, stamp := 9 }, by decide +kernel⟩,
    ⟨canned { running := true, attempt := some { source := .buffer 2, frame := { id := 5 }, stamp := 9 } } [(CAN_TXB_STAT 2 2, 2)], 2, 2, { source := .buffer 2, frame := { id := 5 }, stamp := 9 }, by decide +kernel⟩,
    ⟨canned { running := true, txErr := 247, attempt := some { source := .buffer 2, frame := { id := 5 }, stamp := 9 } } [(CAN_TXB_STAT 2 2, 2)], 2, 2, { source := .buffer 2, frame := { id := 5 }, stamp := 9 }, 7, by decide +kernel⟩,
    ⟨canned { running := true, refDue := some 3, attempt := some { source := .reference, stamp := 9, k := 3 } } [], 2, { source := .reference, stamp := 9, k := 3 }, by decide +kernel⟩,
    ⟨canned { running := true, refDue := some 3, attempt := some { source := .reference, stamp := 9, k := 3 } } [(CAN_TT_STATUS 2, 1)], 2, { source := .reference, stamp := 9, k := 3 }, by decide +kernel⟩,
    ⟨canned { running := true, refDue := some 4, attempt := some { source := .reference, stamp := 9, k := 3 } } [(CAN_TT_STATUS 2, 1)], 2, { source := .reference, stamp := 9, k := 3 }, by decide +kernel⟩,
    ⟨up [(CAN_STATUS 2, 8), (CAN_CTRL 2, 1)], 2, 1, by decide +kernel⟩,
    ⟨canned { running := true, recovering := true, txErr := 256 } [(CAN_STATUS 2, 8), (CAN_CTRL 2, 1)], 2, by decide +kernel⟩,
    ⟨up [(CAN_TT_START 2, 77)], 2, by decide +kernel⟩,
    ⟨up [(CAN_TT_MASTER, 9)], 2, by decide +kernel⟩,
    ⟨canned { running := true, refNext := 5 } [(CAN_TT_STATUS 2, 1), (CT_NS, 6), (CAN_TT_CYCLE_NS 2, 1000)], 2, { running := true, refNext := 5 }, by decide +kernel⟩,
    ⟨canned { running := true, refNext := 5, refDue := some 3, refK := 4, attempt := some { source := .reference, stamp := 9, k := 3 } } [(CAN_TT_STATUS 2, 1), (CT_NS, 6), (CAN_TT_CYCLE_NS 2, 1000)], 2, { running := true, refNext := 5, refDue := some 3, refK := 4, attempt := some { source := .reference, stamp := 9, k := 3 } }, { source := .reference, stamp := 9, k := 3 }, by decide +kernel⟩,
    ⟨canned { running := true, refNext := 5, refDue := some 4, refK := 5 } [(CAN_TT_STATUS 2, 1), (CT_NS, 6), (CAN_TT_CYCLE_NS 2, 1000)], 2, { running := true, refNext := 5, refDue := some 4, refK := 5 }, 4, by decide +kernel⟩,
    ⟨canned { running := true, marked := true } [(CAN_TT_STATUS 2, 1), (CT_NS, 5000), (CAN_TXB_WIN 2 1, 0x81000005)], 2, 1, by decide +kernel⟩⟩

/-- The hypotheses of Clocktower can be met. -/
theorem test_witness_Clocktower :
    (∃ (s : State), wrapsNext s.dev = true ∧ s.dev.clock.tick < 20 ∧ s.dev.belv.sysclkLost = false ∧ s.dev.tower.copyDiff = 0 ∧ s.dev.tower.steps = [] ∧ s.dev.tower.offsets = [] ∧ s.dev.tower.loadDue = false ∧ rbit s.dev CT_STATUS 1 = true) ∧
    (∃ (s : State), HostOk s.dev) ∧
    (∃ (s : State), HostOk s.dev) ∧
    (∃ (s : State), HostOk s.dev) ∧
    (∃ (s : State) (v : Word), HostOk s.dev ∧ rbit s.dev CT_SERVO_CTRL 2 = false ∧ rbit s.dev CT_SERVO_CTRL 0 = true ∧ (signedOf 32 (BitVec.toNat v)).natAbs ≤ rd s.dev CT_SERVO_LIMIT) ∧
    (∃ (s : State) (v : Word), HostOk s.dev ∧ rbit s.dev CT_SERVO_CTRL 2 = false ∧ (rbit s.dev CT_SERVO_CTRL 0 = false ∨ rd s.dev CT_SERVO_LIMIT < (signedOf 32 (BitVec.toNat v)).natAbs)) ∧
    (∃ (s : State), HostOk s.dev) ∧
    (∃ (s : State), rbit s.dev CT_SERVO_CTRL 2 = false) ∧
    (∃ (s : State), rbit s.dev CT_CTRL 1 = true ∧ rbit s.dev CT_STATUS 7 = false ∧ 37500000 ≤ s.dev.clock.beat - s.dev.tower.ppsSince ∧ MinorAlone s.dev 61) :=
  ⟨⟨upw [(CT_NS, 0xFFFFFFFF), (CT_FRAC, 0xFFFFFFFF), (CT_STATUS, 2), (CT_WRAPS, 0xFFFFFFFF)] (fun d => { d with clock := { beat := 3, tick := 19 }, tower := { d.tower with next := { sec := 5, ns := 6 } } }), by decide +kernel⟩,
    ⟨up [], by decide +kernel⟩,
    ⟨up [(CT_NEXT_NS, 999999999), (CT_NEXT_SEC_LO, 5)], by decide +kernel⟩,
    ⟨up [(CT_STATUS, 2)], by decide +kernel⟩,
    ⟨up [(CT_SERVO_CTRL, 1), (CT_SERVO_LIMIT, 5)], 0xFFFFFFFB, by decide +kernel⟩,
    ⟨up [(CT_SERVO_CTRL, 1), (CT_SERVO_LIMIT, 4)], 0xFFFFFFFB, by decide +kernel⟩,
    ⟨upw [(CT_SERVO_CTRL, 1), (CT_SERVO_C, 4)] (fun d => { d with tower := { d.tower with servoI := 5 } }), by decide +kernel⟩,
    ⟨upw [(CT_NS, 999999999)] (fun d => { d with tower := { d.tower with cur := { sec := 5, ns := 6 } } }), by decide +kernel⟩,
    ⟨upw [(CT_CTRL, 2), (BV_SEV 3, 0x4000000)] (fun d => { d with clock := { beat := 37500000 } }), by decide +kernel⟩⟩

/-- The hypotheses of OutputsAndEthernet can be met. -/
theorem test_witness_OutputsAndEthernet :
    (∃ (s : State) (n : Nat), HostOk s.dev ∧ n < 4 ∧ rbit s.dev (CT_TT_CFG n) 31 = false) ∧
    (∃ (s : State) (n : Nat) (x : Nat), n < 4 ∧ (ttOf s.dev n).next = some x ∧ ttEdgeDue s.dev n = true ∧ rd s.dev (CT_TT_PERIOD n) ≠ 0 ∧ passedBy (nowNs s.dev) (x + rd s.dev (CT_TT_PERIOD n)) < 0) ∧
    (∃ (s : State) (n : Nat) (b : Nat), n < 4 ∧ (ttOf s.dev n).since = some b ∧ rd s.dev (CT_TT_WIDTH n) ≤ (nowTicks s.dev - b) * 2 ∧ rd s.dev (CT_TT_PERIOD n) ≠ 0) ∧
    (∃ (s : State) (n : Nat) (rising : Bool) (level : Nat), n < 4 ∧ edgeQualifies (fld s.dev (CT_CAP_CFG n) 1 0) (fld s.dev (CT_CAP_CFG n) 9 2) rising level = true ∧ rbit s.dev (CT_CAP_STAT n) 31 = false) ∧
    (∃ (s : State) (n : Nat) (rising : Bool) (level : Nat), n < 4 ∧ edgeQualifies (fld s.dev (CT_CAP_CFG n) 1 0) (fld s.dev (CT_CAP_CFG n) 9 2) rising level = true ∧ rbit s.dev (CT_CAP_STAT n) 31 = true) ∧
    (∃ (s : State) (p : Nat) (q : Nat), HostOk s.dev ∧ p < 4 ∧ q < 7) ∧
    (∃ (s : State) (p : Nat) (q : Nat), HostOk s.dev ∧ p < 4 ∧ q < 64) ∧
    (∃ (s : State) (p : Nat) (f : List Byte) (fs : List (List Byte)), p < 4 ∧ rbit s.dev (ETH_CTRL p) 0 = true ∧ rbit s.dev (ETH_STATUS p) 0 = true ∧ (ethOf s.dev p).cloche = f :: fs) ∧
    (∃ (s : State) (p : Nat) (body : List Byte) (frame : List Byte) (q : Nat) (at_ : Nat) (buf : Nat) (room : Nat), p < 4 ∧ rbit s.dev (ETH_CTRL p) 0 = true ∧ rbit s.dev (ETH_STATUS p) 0 = true ∧ frame = body ++ leBytes 4 (frameFcs body) ∧ 60 ≤ body.length ∧ frame.length ≤ rd s.dev (ETH_MAX_LEN p) ∧ (∀ (r : Nat), r < 32 → ruleMatches s.dev p r body = false) ∧ q = fld s.dev (ETH_RX_CFG p) 5 0 ∧ ethRingReady s.dev (ETH_RXQ_BASE_LO p q) = true ∧ at_ = ethHeadAt s.dev (ETH_RXQ_BASE_LO p q) ∧ openDram s.dev at_ 32 = true ∧ buf = memNat s.dev at_ 8 ∧ room = memNat s.dev (at_ + 8) 4 ∧ body.length ≤ room ∧ buf % 64 = 0 ∧ room % 64 = 0 ∧ 128 ≤ room ∧ room ≤ 16384 ∧ openDram s.dev buf room = true ∧ overlaps buf room at_ 32 = false) ∧
    (∃ (s : State) (p : Nat) (rate : Nat), p < 4 ∧ rate < 4 ∧ rbit s.dev (ETH_CTRL p) 1 = false) :=
  ⟨⟨up [(CT_TT_PERIOD 3, 1000), (CT_TT_WIDTH 3, 992), (CT_TT_START 3, 9)], 3, by decide +kernel⟩,
    ⟨upw [(CT_TT_PERIOD 3, 1000), (CT_TT_CFG 3, 0x80000000), (CT_NS, 10)] (fun d => { d with tower := { d.tower with out := [(3, { next := some 9 })] } }), 3, 9, by decide +kernel⟩,
    ⟨upw [(CT_TT_PERIOD 3, 1000), (CT_TT_WIDTH 3, 10)] (fun d => { d with clock := { tick := 5 }, tower := { d.tower with out := [(3, { next := some 9, since := some 0 })] } }), 3, 0, by decide +kernel⟩,
    ⟨up [(CT_CAP_CFG 3, 2)], 3, true, 0, by decide +kernel⟩,
    ⟨up [(CT_CAP_CFG 3, 2), (CT_CAP_STAT 3, 0x8000FFFF)], 3, true, 0, by decide +kernel⟩,
    ⟨up [], 3, 6, by decide +kernel⟩,
    ⟨up [], 3, 63, by decide +kernel⟩,
    ⟨upw [(ETH_CTRL 3, 1), (ETH_STATUS 3, 1)] (fun d => { d with eth := [(3, { cloche := [[1, 2], [3]] })] }), 3, [1, 2], [[3]], by decide +kernel⟩,
    ⟨upw [(ETH_CTRL 3, 1), (ETH_STATUS 3, 1), (ETH_MAX_LEN 3, 1522), (ETH_RX_CFG 3, 5), (ETH_RXQ_BASE_LO 3 5, 0x8000), (ETH_RXQ_BASE_LO 3 5 + 8, 0x80000004), (ETH_RXQ_BASE_LO 3 5 + 12, 1)] (putFields 0x8000 [(0, 8, 0x9000), (8, 4, 128)]), 3, List.replicate 60 3, List.replicate 60 3 ++ leBytes 4 (frameFcs (List.replicate 60 3)), 5, 0x8000, 0x9000, 128, by decide +kernel⟩,
    ⟨up [], 3, 3, by decide +kernel⟩⟩

/-- The hypotheses of BelvedereRows can be met. -/
theorem test_witness_BelvedereRows :
    (∃ (s : State) (src : Nat) (k : Nat), s.dev.lodge.stage ≠ BootStage.reset ∧ sourceExists s.dev src = true ∧ src < 86 ∧ MinorAlone s.dev src ∧ k = rd s.dev BV_LOG_HEAD ∧ k < 2048) ∧
    (∃ (s : State), rbit s.dev BV_EPISODE 31 = true ∧ fld s.dev BV_EPISODE 30 29 < 3 ∧ reactionPending s.dev = false) ∧
    (∃ (s : State) (w : Nat), HostOk s.dev ∧ w < 4) ∧
    (∃ (s : State) (v : Word) (p : Nat), HostOk s.dev ∧ bitsSet (BitVec.toNat v) (pavCount s.dev) = [p] ∧ (pavOf s.dev p).golden = none ∧ (pavState s.dev p = 1 ∨ pavState s.dev p = 3)) ∧
    (∃ (s : State) (v : Word) (p : Nat) (g : GoldenRun), HostOk s.dev ∧ bitsSet (BitVec.toNat v) (pavCount s.dev) = [p] ∧ (pavOf s.dev p).golden = some g) ∧
    (∃ (s : State), HostOk s.dev) ∧
    (∃ (s : State) (off : Nat), belvLocked off = true ∧ rbit s.dev BV_LOCK 0 = true) ∧
    (∃ (s : State), s.dev.lodge.stage ≠ BootStage.reset ∧ severityOf s.dev 78 = 3 ∧ rbit s.dev BV_EPISODE 31 = false ∧ s.dev.belv.safe = SafeStage.none) ∧
    (∃ (s : State) (p : Nat), p < 8 ∧ isReady s.dev = true ∧ p < pavCount s.dev ∧ (pavOf s.dev p).goldenDue = false ∧ (pavOf s.dev p).goldenSince + fld s.dev BV_GOLD_CFG 13 0 * 25000 ≤ s.dev.clock.beat) ∧
    (∃ (s : State) (p : Nat) (q : Nat) (k : Nat) (x : StepRun) (e : Nat) (r : SegRun), p < 8 ∧ (pavOf s.dev p).run = some (q, k) ∧ stepOf s.dev q = some x ∧ nextGolden s.dev p = some e ∧ runOn s.dev p = some r ∧ goldenTime s.dev p x r = true ∧ bitOf (segGolden s.dev x.image k) p = true ∧ (pavOf s.dev p).golden = none ∧ (pavOf s.dev p).goldenDue = true) ∧
    (∃ (s : State) (p : Nat) (g : GoldenRun), p < 8 ∧ (pavOf s.dev p).golden = some g ∧ g.slot.isSome = true ∧ goldenMicro s.dev g.entry = 0 ∧ pavState s.dev p = 0 ∧ s.dev.belv.suspects = [] ∧ (pavOf s.dev p).releasePending = false ∧ goldenSignature s.dev p g.entry = goldenExpect s.dev g.entry) ∧
    (∃ (s : State) (p : Nat) (g : GoldenRun), p < 8 ∧ (pavOf s.dev p).golden = some g ∧ g.slot.isSome = true ∧ goldenMicro s.dev g.entry = 0 ∧ pavState s.dev p = 0 ∧ s.dev.belv.suspects = [] ∧ (pavOf s.dev p).releasePending = false ∧ goldenSignature s.dev p g.entry ≠ goldenExpect s.dev g.entry ∧ MinorAlone s.dev 76) ∧
    (∃ (s : State) (p : Nat) (g : GoldenRun), p < 8 ∧ (pavOf s.dev p).golden = some g ∧ g.slot.isSome = true ∧ (pavOf s.dev p).releasePending = false ∧ fld s.dev BV_GOLD_DEFER (3 * p + 2) (3 * p) < 2) ∧
    (∃ (s : State), HostOk s.dev) ∧
    (∃ (s : State) (r : SigRecord) (rest : List SigRecord), s.dev.comp.sigWire = r :: rest) ∧
    (∃ (s : State) (r : SigRecord) (rest : List SigRecord), s.dev.comp.sigWire = r :: rest ∧ MinorAlone s.dev 82) :=
  ⟨⟨begun [(BV_SEV 4, 0x10), (BV_LOG_HEAD, 2047)] id, 66, 2047, by decide +kernel⟩,
    ⟨up [(BV_EPISODE, 0xC0000000)], by decide +kernel⟩,
    ⟨upw [] (fun d => { d with belv := { d.belv with status := 0xFFFFFFFF00000000F } }), 2, by decide +kernel⟩,
    ⟨up [(BV_PAV_STATE, 0xFFFF)], 0x80, 7, by decide +kernel⟩,
    ⟨upw [(BV_PAV_STATE, 0xFFFF)] (modPav 7 (fun v => { v with golden := some { entry := 1, slot := none } })), 0x80, 7, { entry := 1, slot := none }, by decide +kernel⟩,
    ⟨up [], by decide +kernel⟩,
    ⟨up [(BV_LOCK, 1)], BV_SEV 3, by decide +kernel⟩,
    ⟨begun [(BV_SEV 4, 0x30000000)] id, by decide +kernel⟩,
    ⟨upw [] (fun d => { d with clock := { beat := 2 ^ 40 } }), 7, by decide +kernel⟩,
    ⟨upw [] (fun d => putFields (goldenAddr d 3) [(0, 4, 0x444C4757), (4, 2, 3), (8, 4, 1), (64, 4, 0x12345678)] (modPav 0 (fun v => { v with run := some (16, 0), goldenDue := true }) (stepping { started := true, segs := [{ seg := 0, pavs := 1 }] } 2 [(322, 1, 1)] d))), 0, 16, 0, { image := 0x100000, started := true, segs := [{ seg := 0, pavs := 1 }] }, 3, { seg := 0, pavs := 1 }, by decide +kernel⟩,
    ⟨upw [] (modPav 7 (fun v => { v with golden := some { entry := 3, slot := some (16, 0) }, goldenDue := true })), 7, { entry := 3, slot := some (16, 0) }, by decide +kernel⟩,
    ⟨upw [(BV_SEV 4, 0x01000000), (BV_GOLD_FAIL, 0xFFFFFFFF)] (fun d => memPutNat (goldenAddr d 3 + 24) 8 5 (modPav 7 (fun v => { v with golden := some { entry := 3, slot := some (16, 0) }, goldenDue := true }) d)), 7, { entry := 3, slot := some (16, 0) }, by decide +kernel⟩,
    ⟨upw [(BV_GOLD_DEFER, 0x200000)] (modPav 7 (fun v => { v with golden := some { entry := 3, slot := some (16, 0) }, goldenDue := true })), 7, { entry := 3, slot := some (16, 0) }, by decide +kernel⟩,
    ⟨up [], by decide +kernel⟩,
    ⟨upw [] (fun d => { d with comp := { d.comp with sigWire := [{ queue := 3 }, { queue := 4 }] } }), { queue := 3 }, [{ queue := 4 }], by decide +kernel⟩,
    ⟨upw [(BV_SEV 5, 0x10)] (fun d => { d with comp := { d.comp with sigWire := [{ queue := 3 }, { queue := 4 }] } }), { queue := 3 }, [{ queue := 4 }], by decide +kernel⟩⟩

/-- The hypotheses of Starts can be met. -/
theorem test_witness_Starts :
    (∃ (s : State) (x : Device), (∀ (b : Nat), b < 3 → b ∈ s.dev.pins.banks) ∧ s.dev.pins.sysResetN = true ∧ s.dev.pins.perstN = true ∧ s.dev.pins.thermTrip = false ∧ s.dev.belv.sysclkLost = false ∧ scanHolds s.dev.pins.tap.ir = false ∧ s.dev.lodge.stage = BootStage.reset ∧ x = loadFuses (powerGood s.dev)) ∧
    (∃ (s : State), s.dev.pins.perstN = false) ∧
    (∃ (s : State), s.dev.lodge.stage = BootStage.released ∧ s.dev.belv.safe = SafeStage.none) ∧
    (∃ (s : State), rbit s.dev BV_EPISODE 31 = true ∧ fld s.dev BV_EPISODE 30 29 = 3 ∧ s.dev.belv.safe = SafeStage.none) ∧
    (∃ (s : State), ¬(rbit s.dev BV_EPISODE 31 = true ∧ fld s.dev BV_EPISODE 30 29 = 3)) ∧
    (∃ (s : State), s.dev.belv.safe = SafeStage.restarting ∧ resetReleased s.dev = true) ∧
    (∃ (s : State), isReady s.dev = true ∧ rbit s.dev DEV_STATUS 4 = false ∧ s.dev.lodge.began = [] ∧ MinorAlone s.dev 46) ∧
    (∃ (s : State), isReady s.dev = true ∧ rbit s.dev DEV_STATUS 4 = false ∧ s.dev.lodge.began = [] ∧ MinorAlone s.dev 45) ∧
    (∃ (s : State), isReady s.dev = true ∧ s.dev.lodge.restarting = true ∧ rbit s.dev DEV_STATUS 4 = true ∧ s.dev.lodge.liveDue = false ∧ MinorAlone s.dev 46) ∧
    (∃ (s : State), lodgeUp s.dev = true) :=
  ⟨⟨{ dev := { pins := { sysResetN := true, perstN := true, banks := [0, 1, 2] } } }, loadFuses (powerGood { pins := { sysResetN := true, perstN := true, banks := [0, 1, 2] } }), by decide +kernel⟩,
    ⟨upw [] (modPins (fun p => { p with perstN := false })), by decide +kernel⟩,
    ⟨upw [] (modLodge (fun l => { l with stage := .released })), by decide +kernel⟩,
    ⟨upw [(BV_EPISODE, 0xE0000000)] (fun d => { d with belv := { d.belv with status := 1 } }), by decide +kernel⟩,
    ⟨up [], by decide +kernel⟩,
    ⟨upw [] (fun d => { d with pins := { d.pins with pwrGood := true, sysResetN := true, perstN := true }, belv := { d.belv with safe := .restarting } }), by decide +kernel⟩,
    ⟨begun [(BV_SEV 2, 0x10000000)] id, by decide +kernel⟩,
    ⟨begun [(BV_SEV 2, 0x04000000)] id, by decide +kernel⟩,
    ⟨begun [(BV_SEV 2, 0x10000000), (DEV_STATUS, 0x11)] (modLodge (fun l => { l with restarting := true })), by decide +kernel⟩,
    ⟨begun [(LD_STATUS, 0x180)] id, by decide +kernel⟩⟩

/-- The hypotheses of Services can be met. -/
theorem test_witness_Services :
    (∃ (s : State) (backlog : Nat), HostOk s.dev ∧ rbit s.dev LD_RING_CFG 31 = false ∧ backlog ≤ 5000) ∧
    (∃ (s : State) (q : List Byte), Requested s.dev 1 q ∧ openDram s.dev (leField q 8 8) 192 = false) ∧
    (∃ (s : State) (q : List Byte) (b : List Byte) (dest : Nat) (k : Nat) (cols : Nat) (nodes : Nat), Requested s.dev 1 q ∧ openDram s.dev (leField q 8 8) 192 = true ∧ b = memBytes s.dev (leField q 8 8) 192 ∧ (leField b 108 1 = 16 ∨ leField b 108 1 = 32) ∧ leField b 104 2 % leField b 108 1 = 0 ∧ leField b 106 2 % leField b 108 1 = 0 ∧ k = leField b 109 1 ∧ k < 32 ∧ leField b 110 2 = 0 ∧ leField b 120 8 = 0 ∧ dest = leField b 112 8 ∧ dest % 8 = 0 ∧ cols = leField b 104 2 / leField b 108 1 + 1 ∧ nodes = cols * (leField b 106 2 / leField b 108 1 + 1) ∧ openDram s.dev dest (8 * nodes) = true ∧ headState s.dev k ≠ 2) ∧
    (∃ (s : State) (q : List Byte) (b : List Byte) (dest : Nat) (k : Nat) (cols : Nat) (nodes : Nat), Requested s.dev 1 q ∧ openDram s.dev (leField q 8 8) 192 = true ∧ b = memBytes s.dev (leField q 8 8) 192 ∧ (leField b 108 1 = 16 ∨ leField b 108 1 = 32) ∧ leField b 104 2 % leField b 108 1 = 0 ∧ leField b 106 2 % leField b 108 1 = 0 ∧ k = leField b 109 1 ∧ k < 32 ∧ leField b 110 2 = 0 ∧ leField b 120 8 = 0 ∧ dest = leField b 112 8 ∧ dest % 8 = 0 ∧ cols = leField b 104 2 / leField b 108 1 + 1 ∧ nodes = cols * (leField b 106 2 / leField b 108 1 + 1) ∧ openDram s.dev dest (8 * nodes) = true ∧ headState s.dev k = 2 ∧ overlaps dest (8 * nodes) (leField q 8 8 + 128) 64 = false ∧ overlaps dest (8 * nodes) (ringHeadAddr s.dev + 64) 64 = false) ∧
    (∃ (s : State) (q : List Byte), Requested s.dev 2 q ∧ leField q 8 8 < 32 ∧ 1 ≤ leField q 16 8 ∧ leField q 16 8 ≤ 255) ∧
    (∃ (s : State) (q : List Byte) (dest : Nat), Requested s.dev 3 q ∧ inDram s.dev (leField q 8 8) 32 = true ∧ dest = leField q 16 8 ∧ dest % 64 = 0 ∧ openDram s.dev dest 6144 = true ∧ overlaps dest 6144 (ringHeadAddr s.dev + 64) 64 = false) ∧
    (∃ (s : State) (q : List Byte), Requested s.dev 4 q ∧ leField q 8 8 = 0 ∧ fld s.dev LD_STATUS 13 12 ≠ 2) ∧
    (∃ (s : State) (q : List Byte), Requested s.dev 4 q ∧ leField q 8 8 = 1 ∧ fld s.dev LD_STATUS 13 12 ≠ 2) ∧
    (∃ (s : State) (q : List Byte), Requested s.dev 4 q ∧ fld s.dev LD_STATUS 13 12 = 2 ∧ fuseCount s.dev.fuses ≤ bcbSvn (stagedBcb s.dev) ∧ s.dev.gate.emergency = false ∧ leField q 8 8 = 0) ∧
    (∃ (s : State) (q : List Byte), Requested s.dev 4 q ∧ fld s.dev LD_STATUS 13 12 = 2 ∧ fuseCount s.dev.fuses ≤ bcbSvn (stagedBcb s.dev) ∧ s.dev.gate.emergency = false ∧ leField q 8 8 = 1 ∧ livePermitted s.dev = true) ∧
    (∃ (s : State) (q : List Byte), Requested s.dev 5 q ∧ s.dev.gate.emergency = true) ∧
    (∃ (s : State) (q : List Byte), Requested s.dev 5 q ∧ s.dev.gate.emergency = false ∧ commitRefused s.dev = true) ∧
    (∃ (s : State) (q : List Byte), Requested s.dev 5 q ∧ s.dev.gate.emergency = false ∧ commitRefused s.dev = false) ∧
    (∃ (s : State) (q : List Byte), Requested s.dev 6 q ∧ s.dev.lodge.events = [] ∧ leField q 8 8 = 0) ∧
    (∃ (s : State) (q : List Byte), Requested s.dev 6 q ∧ s.dev.lodge.events = [] ∧ leField q 8 8 ≠ 0 ∧ leField q 16 8 ∈ [16, 64, 4096] ∧ 10 ≤ leField q 24 8 ∧ leField q 24 8 ≤ 10000 ∧ openDram s.dev (leField q 8 8) (64 + 32 * leField q 16 8) = true) ∧
    (∃ (s : State) (x : Telemetry), s.dev.lodge.telemetry = some x ∧ 1 ≤ x.records ∧ x.records ≤ 4096 ∧ lodgeUp s.dev = true ∧ s.dev.lodge.events = [] ∧ rbit s.dev LD_STATUS 7 = false ∧ telemFull s.dev x = false) :=
  ⟨⟨up [(LD_STATUS, 0)], 5000, by decide +kernel⟩,
    ⟨requesting (request 1 0x1000000000000 0 0) [] id, request 1 0x1000000000000 0 0, by decide +kernel⟩,
    ⟨requesting (request 1 0xA000 0 0) [] (putFields 0xA000 [(104, 2, 32), (106, 2, 16), (108, 1, 16), (109, 1, 5), (112, 8, 0xB000)]), request 1 0xA000 0 0, bytesOf 192 [(104, 2, 32), (106, 2, 16), (108, 1, 16), (109, 1, 5), (112, 8, 0xB000)], 0xB000, 5, 3, 6, by decide +kernel⟩,
    ⟨requesting (request 1 0xA000 0 0) [(DR_STREAM_STATUS 5, 8)] (putFields 0xA000 [(104, 2, 32), (106, 2, 16), (108, 1, 16), (109, 1, 5), (112, 8, 0xB000)]), request 1 0xA000 0 0, bytesOf 192 [(104, 2, 32), (106, 2, 16), (108, 1, 16), (109, 1, 5), (112, 8, 0xB000)], 0xB000, 5, 3, 6, by decide +kernel⟩,
    ⟨requesting (request 2 31 255 0) [] id, request 2 31 255 0, by decide +kernel⟩,
    ⟨requesting (request 3 0xA000 0xC000 0) [] (memPut 0xA000 [1, 2]), request 3 0xA000 0xC000 0, 0xC000, by decide +kernel⟩,
    ⟨requesting (request 4 0 0 0) [] id, request 4 0 0 0, by decide +kernel⟩,
    ⟨requesting (request 4 1 0 0) [] id, request 4 1 0 0, by decide +kernel⟩,
    ⟨requesting (request 4 0 0 0) [(LD_STATUS, 0x2000)] (fun d => { d with mems := { d.mems with flash := memWriteN 0xFF [] 0x1000000 (bytesOf 100 [(6, 1, 5), (8, 4, 9), (12, 4, 96)]) } }), request 4 0 0 0, by decide +kernel⟩,
    ⟨requesting (request 4 1 0 0) [(LD_STATUS, 0x2000)] (fun d => { d with lodge := { d.lodge with bcb := bytesOf 200 [(6, 1, 5), (12, 4, 96)] }, mems := { d.mems with flash := memWriteN 0xFF [] 0x1000000 (bytesOf 100 [(6, 1, 5), (8, 4, 9), (12, 4, 96)]) } }), request 4 1 0 0, by decide +kernel⟩,
    ⟨requesting (request 5 0 0 0) [] (fun d => { d with gate := { d.gate with emergency := true } }), request 5 0 0 0, by decide +kernel⟩,
    ⟨requesting (request 5 0 0 0) [(LD_STATUS, 0x10)] id, request 5 0 0 0, by decide +kernel⟩,
    ⟨requesting (request 5 0 0 0) [] (modLodge (fun l => { l with bcb := bytesOf 800 [(6, 1, 2), (12, 4, 704), (704, 1, 4)] })), request 5 0 0 0, by decide +kernel⟩,
    ⟨requesting (request 6 0 0 0) [] id, request 6 0 0 0, by decide +kernel⟩,
    ⟨requesting (request 6 0xA000 64 10) [] id, request 6 0xA000 64 10, by decide +kernel⟩,
    ⟨begun [] (modLodge (fun l => { l with telemetry := some { base := 0xA000, records := 64, period := 10 }, seq := 7 })), { base := 0xA000, records := 64, period := 10 }, by decide +kernel⟩⟩

/-- The hypotheses of SatchelRows can be met. -/
theorem test_witness_SatchelRows :
    (∃ (s : State) (pkt : List Byte), satchelOn s.dev = true ∧ satchelGood pkt = false) ∧
    (∃ (s : State) (pkt : List Byte), satchelOn s.dev = true ∧ satchelGood pkt = true ∧ leField pkt 5 1 = 1) ∧
    (∃ (s : State) (pkt : List Byte) (total : Nat), satchelOn s.dev = true ∧ satchelGood pkt = true ∧ leField pkt 5 1 = 3 ∧ pkt.length = 28 ∧ total = leField pkt 24 4 ∧ total % 4096 = 0 ∧ total ≤ 8388608 ∧ s.dev.lodge.session = none ∧ s.dev.lodge.activation = none) ∧
    (∃ (s : State) (pkt : List Byte) (x : Satchel), satchelOn s.dev = true ∧ satchelGood pkt = true ∧ leField pkt 5 1 = 3 ∧ s.dev.lodge.session = some x ∧ s.dev.clock.beat - x.last < 250000000) ∧
    (∃ (s : State) (pkt : List Byte) (peer : Nat) (x : Satchel) (off : Nat) (n : Nat), satchelOn s.dev = true ∧ satchelGood pkt = true ∧ leField pkt 5 1 = 5 ∧ s.dev.lodge.session = some x ∧ x.peer = peer ∧ x.id = leField pkt 8 4 ∧ rbit s.dev LD_STATUS 8 = false ∧ pkt.length = 28 + n ∧ 1 ≤ n ∧ n ≤ 1024 ∧ off = leField pkt 24 4 ∧ x.got = [] ∧ off + n ≤ x.total ∧ x.unacked < 63) ∧
    (∃ (s : State) (pkt : List Byte) (peer : Nat) (x : Satchel), satchelOn s.dev = true ∧ satchelGood pkt = true ∧ leField pkt 5 1 = 7 ∧ s.dev.lodge.session = some x ∧ x.peer = peer ∧ x.id = leField pkt 8 4) ∧
    (∃ (s : State) (pkt : List Byte) (peer : Nat) (x : Satchel), satchelOn s.dev = true ∧ satchelGood pkt = true ∧ leField pkt 5 1 = 7 ∧ s.dev.lodge.session = some x ∧ x.peer = peer ∧ x.id = leField pkt 8 4 ∧ s.dev.lodge.stage ≠ BootStage.recovery ∧ sha512 (flashBytes s.dev (slotBase (idleSlot s.dev)) x.total) = sliceBytes pkt 24 64) ∧
    (∃ (s : State) (pkt : List Byte), satchelOn s.dev = true ∧ satchelGood pkt = true ∧ leField pkt 5 1 = 9 ∧ bcbFlag s.dev 1 = false) ∧
    (∃ (s : State) (pkt : List Byte), satchelOn s.dev = true ∧ satchelGood pkt = true ∧ leField pkt 5 1 = 9 ∧ bcbFlag s.dev 1 = true ∧ s.dev.lodge.stage ≠ BootStage.recovery ∧ leField pkt 24 1 = 0 ∧ fld s.dev LD_STATUS 13 12 = 2 ∧ fuseCount s.dev.fuses ≤ bcbSvn (stagedBcb s.dev) ∧ s.dev.gate.emergency = false) ∧
    (∃ (s : State) (x : Satchel), s.dev.lodge.session = some x ∧ satchelOn s.dev = true ∧ x.acked = false ∧ 125000 ≤ s.dev.clock.beat - x.last) ∧
    (∃ (s : State) (a : Activation), lodgeUp s.dev = true ∧ s.dev.gate.emergency = false ∧ s.dev.lodge.activation = some a ∧ a.phase = 2 ∧ s.dev.lodge.liveDue = false) ∧
    (∃ (s : State) (b : Nat), s.dev.gate.quietSince = some b ∧ s.dev.gate.emergency = true ∧ 2500000 ≤ s.dev.clock.beat - b ∧ s.dev.lodge.activation = none ∧ s.dev.lodge.fuseDeferred = false) :=
  ⟨⟨satchels none 1 id, [], by decide +kernel⟩,
    ⟨satchels none 1 id, satchelPacket 1 2 3 [], by decide +kernel⟩,
    ⟨satchels none 1 id, satchelPacket 3 2 3 (leBytes 4 4096), 4096, by decide +kernel⟩,
    ⟨satchels (some { id := 9, peer := 5, total := 64, last := 0 }) 1 id, satchelPacket 3 2 3 (leBytes 4 4096), { id := 9, peer := 5, total := 64, last := 0 }, by decide +kernel⟩,
    ⟨satchels (some { id := 9, peer := 5, total := 64, last := 0 }) 1 id, satchelPacket 5 9 3 (leBytes 4 8 ++ [1, 2, 3]), 5, { id := 9, peer := 5, total := 64, last := 0 }, 8, 3, by decide +kernel⟩,
    ⟨satchels (some { id := 9, peer := 5, total := 64, last := 0 }) 1 id, satchelPacket 7 9 3 (List.replicate 64 0), 5, { id := 9, peer := 5, total := 64, last := 0 }, by decide +kernel⟩,
    ⟨satchels (some { id := 9, peer := 5, total := 0, last := 0 }) 1 id, satchelPacket 7 9 3 (sha512 []), 5, { id := 9, peer := 5, total := 0, last := 0 }, by decide +kernel⟩,
    ⟨satchels none 1 id, satchelPacket 9 0 3 [0], by decide +kernel⟩,
    ⟨satchels none 3 (fun d => wr LD_STATUS 0x2000 { d with mems := { d.mems with flash := memWriteN 0xFF [] 0x1000000 (bytesOf 100 [(6, 1, 5), (8, 4, 9), (12, 4, 96)]) } }), satchelPacket 9 0 3 [0], by decide +kernel⟩,
    ⟨satchels (some { id := 9, peer := 5, total := 64, last := 0 }) 1 (fun d => { d with clock := { beat := 125000 } }), { id := 9, peer := 5, total := 64, last := 0 }, by decide +kernel⟩,
    ⟨begun [] (modLodge (fun l => { l with activation := some { slot := 1, live := false, generation := 3, phase := 2 } })), { slot := 1, live := false, generation := 3, phase := 2 }, by decide +kernel⟩,
    ⟨begun [(LD_STATUS, 0x200)] (fun d => { d with gate := { d.gate with emergency := true, quietSince := some 5 }, clock := { beat := 2500005 } }), 5, by decide +kernel⟩⟩

/-- The hypotheses of GatehouseAndPins can be met. -/
theorem test_witness_GatehouseAndPins :
    (∃ (s : State) (temps : List Int), gateRuns s.dev = true ∧ s.dev.clock.beat % 250 = 0 ∧ s.dev.gate.epochBeat ≠ some s.dev.clock.beat ∧ (∀ (n : Nat), n < 24 → 0 ≤ temps.getD n 0 ∧ temps.getD n 0 ≤ 1600) ∧ s.dev.gate.sensors = [] ∧ rbit s.dev GT_STATUS 2 = false) ∧
    (∃ (s : State) (b : Nat), s.dev.gate.epochBeat = some b ∧ s.dev.gate.applyDue = true ∧ b * 20 + 250 ≤ s.dev.clock.beat * 20 + s.dev.clock.tick) ∧
    (∃ (s : State), gateRuns s.dev = true ∧ rbit s.dev GT_STATUS 3 = false ∧ strictMode s.dev = false ∧ MinorAlone s.dev 63) ∧
    (∃ (s : State), rbit s.dev GT_STATUS 2 = false ∧ s.dev.gate.emergency = true) ∧
    (∃ (s : State), HostOk s.dev) ∧
    (∃ (s : State), HostOk s.dev) ∧
    (∃ (s : State), HostOk s.dev ∧ strictRunning s.dev = false) ∧
    (∃ (s : State), HostOk s.dev ∧ strictRunning s.dev = false) ∧
    (∃ (s : State), HostOk s.dev ∧ strictRunning s.dev = true) ∧
    (∃ (s : State) (mv : Nat), gateRuns s.dev = true ∧ s.dev.gate.avsTarget = none ∧ s.dev.gate.avsStopped = false ∧ (if rbit s.dev GT_CTRL 1 = true then railStep (mv + 15) else 720) ≠ s.dev.gate.millivolts) ∧
    (∃ (s : State) (x : Nat), s.dev.gate.avsTarget = some x) ∧
    (∃ (s : State) (x : Nat), s.dev.gate.avsTarget = some x ∧ s.dev.gate.avsFailures < 2) ∧
    (∃ (s : State) (x : Nat), s.dev.gate.avsTarget = some x ∧ 2 ≤ s.dev.gate.avsFailures) ∧
    (∃ (s : State) (mv : Nat), gateRuns s.dev = true ∧ rbit s.dev GT_CTRL 1 = true ∧ s.dev.gate.avsStopped = false ∧ railStep (max mv (s.dev.gate.millivolts + 5)) ≠ s.dev.gate.millivolts) ∧
    (∃ (s : State), s.dev.lodge.stage ≠ BootStage.reset ∧ MinorAlone s.dev 72) ∧
    (∃ (s : State) (n : Nat), s.dev.lodge.stage ≠ BootStage.reset ∧ MinorAlone s.dev 73 ∧ domainPresent s.dev n = true) ∧
    (∃ (s : State) (rail : Nat), s.dev.lodge.stage ≠ BootStage.reset ∧ MinorAlone s.dev 84 ∧ s.dev.pins.pwrGood = true ∧ (rail = 1 ∨ rail = 2)) ∧
    (∃ (s : State), s.dev.pins.pwrGood = true) ∧
    (∃ (s : State) (b : Nat), b < 3 ∧ ¬b ∈ s.dev.pins.banks) ∧
    (∃ (s : State), tapPowered s.dev = true) ∧
    (∃ (s : State), tapPowered s.dev = true) ∧
    (∃ (s : State), tapPowered s.dev = true) ∧
    (∃ (s : State), tapPowered s.dev = true) ∧
    (∃ (s : State), tapPowered s.dev = true) ∧
    (∃ (s : State), tapPowered s.dev = true) ∧
    (∃ (s : State), tapPowered s.dev = true) ∧
    (∃ (s : State) (op : Nat), tapPowered s.dev = true ∧ op < 256 ∧ ¬op ∈ [0, 1, 2, 4, 5, 6, 7]) :=
  ⟨⟨begun [(GT_EPOCH, 0xFFFFFFFF)] (fun d => { d with clock := { beat := 250 } }), List.replicate 24 1600, by decide +kernel⟩,
    ⟨begun [] (fun d => { d with clock := { beat := 263 }, gate := { d.gate with epochBeat := some 250, applyDue := true, requesters := [(29, { next := 55 })] } }), 250, by decide +kernel⟩,
    ⟨begun [(BV_SEV 3, 0x40000000)] id, by decide +kernel⟩,
    ⟨begun [(GT_STATUS, 8)] (fun d => { d with gate := { d.gate with emergency := true }, clock := { beat := 9000 } }), by decide +kernel⟩,
    ⟨up [], by decide +kernel⟩,
    ⟨up [], by decide +kernel⟩,
    ⟨up [], by decide +kernel⟩,
    ⟨up [], by decide +kernel⟩,
    ⟨upw [(DEV_STATUS, 3)] (stepping { started := true, strict := true } 2 []), by decide +kernel⟩,
    ⟨begun [(GT_CTRL, 2)] id, 700, by decide +kernel⟩,
    ⟨begun [] (fun d => { d with gate := { d.gate with avsTarget := some 700 } }), 700, by decide +kernel⟩,
    ⟨begun [] (fun d => { d with gate := { d.gate with avsTarget := some 700 } }), 700, by decide +kernel⟩,
    ⟨begun [] (fun d => { d with gate := { d.gate with avsTarget := some 700, avsFailures := 2 } }), 700, by decide +kernel⟩,
    ⟨begun [(GT_CTRL, 2)] id, 0, by decide +kernel⟩,
    ⟨begun [(BV_SEV 4, 0x10000)] id, by decide +kernel⟩,
    ⟨begun [(BV_SEV 4, 0x40000)] id, 47, by decide +kernel⟩,
    ⟨begun [(BV_SEV 5, 0x100)] (modPins (fun p => { p with pwrGood := true })), 2, by decide +kernel⟩,
    ⟨upw [] (modPins (fun p => { p with pwrGood := true })), by decide +kernel⟩,
    ⟨upw [] (modPins (fun p => { p with banks := [2] })), 0, by decide +kernel⟩,
    ⟨upw [] (modPins (fun p => { p with banks := [0] })), by decide +kernel⟩,
    ⟨upw [] (modPins (fun p => { p with banks := [0] })), by decide +kernel⟩,
    ⟨upw [] (modPins (fun p => { p with banks := [0] })), by decide +kernel⟩,
    ⟨upw [] (modPins (fun p => { p with banks := [0] })), by decide +kernel⟩,
    ⟨upw [] (modPins (fun p => { p with banks := [0] })), by decide +kernel⟩,
    ⟨upw [] (modPins (fun p => { p with banks := [0] })), by decide +kernel⟩,
    ⟨upw [] (modPins (fun p => { p with banks := [0] })), by decide +kernel⟩,
    ⟨upw [] (modPins (fun p => { p with banks := [0] })), 255, by decide +kernel⟩⟩

/-- The hypotheses of TapIdentification can be met. -/
theorem test_witness_TapIdentification :
    (∃ (s : State), tapPowered s.dev = true) ∧
    (∃ (s : State), tapPowered s.dev = false) :=
  ⟨⟨upw [] (modPins (fun p => { p with banks := [0] })), by decide +kernel⟩,
    ⟨upw [] (modPins (fun p => { p with banks := [] })), by decide +kernel⟩⟩

end Sys2Proof.Tests
end

section
/-! SUPPORT. Rounding and saturation to integers (02 R50 to R52): what the roundings and the bounds give, and the rules of
requantisation and of integer conversion assembled from them. -/
namespace Sys2Proof.Machine

/-! Powers of two as the model writes them, naturals cast to integers. -/

theorem natCast_two_pow (d : Nat) : ((2 ^ d : Nat) : Int) = 2 ^ d := Int.natCast_pow 2 d

theorem natCast_two_pow_pos (d : Nat) : (0 : Int) < (2 ^ d : Nat) := Int.natCast_pos.mpr (Nat.two_pow_pos d)

/-! Bounds and their flags. -/

theorem clampInt_eq_max_min {lo hi : Int} (h : lo ≤ hi) (x : Int) : clampInt lo hi x = max lo (min hi x) := by
  unfold clampInt
  split
  · omega
  · split <;> omega

@[simp] theorem satInt_fst (w : Nat) (v : Int) :
    (satInt w v).1 = max (-2 ^ (w - 1)) (min (2 ^ (w - 1) - 1) v) := by
  have hpos := natCast_two_pow_pos (w - 1)
  have hle : -((2 ^ (w - 1) : Nat) : Int) ≤ (2 ^ (w - 1) : Nat) - 1 := by omega
  rw [← natCast_two_pow]
  exact clampInt_eq_max_min hle v

@[simp] theorem satInt_snd (w : Nat) (v : Int) : (satInt w v).2 = ((satInt w v).1 != v) := rfl

@[simp] theorem flagIf_bne (x y : Int) (f : Nat) : flagIf (x != y) f = if x ≠ y then f else 0 := by
  by_cases h : x = y
  · rw [flagIf, if_neg (by rw [bne_iff_ne]; exact not_not_intro h), if_neg (not_not_intro h)]
  · rw [flagIf, if_pos (bne_iff_ne.mpr h), if_pos h]

/-! Division by a power of two, to nearest even (02 R51). -/

/-- `r` is an integer nearest to `p / n`, the even one of two at a tie. -/
def NearestEven (p n r : Int) : Prop :=
  2 * (p - r * n) ≤ n ∧ -n ≤ 2 * (p - r * n) ∧ (2 * (p - r * n) = n ∨ 2 * (p - r * n) = -n → r % 2 = 0)

/-- The decision of every rounding to nearest even: from the floor `q` and the remainder, one up past the half, and
at the half when `q` is odd. -/
theorem nearestEven_of_floor {p n q rem : Int} (hn : 0 < n) (hp : p = q * n + rem) (h0 : 0 ≤ rem) (hlt : rem < n) :
    NearestEven p n (if n < 2 * rem ∨ (2 * rem = n ∧ q % 2 = 1) then q + 1 else q) := by
  split
  case isTrue hup =>
    have hrem : p - (q + 1) * n = rem - n := by rw [hp, Int.add_mul, Int.one_mul]; omega
    unfold NearestEven
    rw [hrem]
    omega
  case isFalse hdown =>
    have hrem : p - q * n = rem := by rw [hp]; omega
    unfold NearestEven
    rw [hrem]
    omega

theorem divRne_nearestEven (p : Int) (d : Nat) : NearestEven p (2 ^ d : Nat) (divRne p d) := by
  have hn := natCast_two_pow_pos d
  exact nearestEven_of_floor hn (Int.ediv_mul_add_emod p (2 ^ d : Nat)).symm (Int.emod_nonneg p (Int.ne_of_gt hn))
    (Int.emod_lt_of_pos p hn)

/-! Requantisation (02 R51, R52). -/

/-- The rounded quotient of requantisation, before the bounds: to nearest even, or by the word of 02 R52. -/
def reqRound (w : Option Nat) (q : Int) (d : Nat) : Int :=
  match w with
  | none => divRne q d
  | some word =>
    if (word : Int) < q % (2 ^ d : Nat) * (2 ^ 32 : Nat) / (2 ^ d : Nat) then q / (2 ^ d : Nat) + 1 else q / (2 ^ d : Nat)

theorem reqRound_some (w : Nat) (q : Int) (d : Nat) :
    reqRound (some w) q d = q / 2 ^ d + (if (w : Int) < q % 2 ^ d * 2 ^ 32 / 2 ^ d then 1 else 0) := by
  rw [reqRound, natCast_two_pow, natCast_two_pow]
  split
  · rfl
  · exact (Int.add_zero _).symm

/-- The bounds of requantisation with the flags; `sat` says that the entry did not fit. -/
def reqBound (p : ReqParams) (sat : Bool) (r : Int) : Int × Nat :=
  (min (max r p.lo) p.hi, flagIf sat fAccSat ||| flagIf (min (max r p.lo) p.hi != r) fReqSat)

theorem requantize_eq_reqBound (p : ReqParams) (w : Option Nat) (entry : Int) :
    requantize p w entry =
      reqBound p (satInt 32 entry).2 (reqRound w (((satInt 32 entry).1 + p.b) * p.m) (31 + p.s)) := by
  cases w <;> rfl

theorem requantize_eq (p : ReqParams) (w : Option Nat) {entry a r : Int}
    (ha : a = max (-2 ^ 31) (min (2 ^ 31 - 1) entry)) (hr : reqRound w ((a + p.b) * p.m) (31 + p.s) = r) :
    requantize p w entry = (min (max r p.lo) p.hi,
      (if a ≠ entry then 0x02 else 0) ||| (if min (max r p.lo) p.hi ≠ r then 0x04 else 0)) := by
  have hsat : (satInt 32 entry).1 = a := by rw [satInt_fst, ha]
  rw [requantize_eq_reqBound, satInt_snd, hsat, hr, reqBound, flagIf_bne, flagIf_bne]

/-- Settles O33: `requantize` bounds `reqRound`, which is nearest even without a word and the rule of 02 R52 with one. -/
theorem requantisationRule : Obligations.RequantisationRule := by
  intro p entry
  refine ⟨_, _, rfl, rfl, ?_, fun w => ⟨_, rfl, requantize_eq p (some w) rfl (reqRound_some w _ _)⟩⟩
  have hnear := divRne_nearestEven ((max (-2 ^ 31) (min (2 ^ 31 - 1) entry) + p.b) * p.m) (31 + p.s)
  rw [natCast_two_pow] at hnear
  obtain ⟨hupper, hlower, htie⟩ := hnear
  exact ⟨_, hupper, hlower, htie, requantize_eq p none rfl rfl⟩

/-! Rounding of a magnitude to an integer (02 R50, R52). -/

theorem NearestEven.of_natCast {m n k : Nat} (h : NearestEven m n k) :
    2 * m ≤ 2 * k * n + n ∧ 2 * k * n ≤ 2 * m + n ∧ (2 * m = 2 * k * n + n ∨ 2 * k * n = 2 * m + n → k % 2 = 0) := by
  obtain ⟨hupper, hlower, htie⟩ := h
  rw [Nat.mul_assoc]
  omega

theorem roundShift_rne (neg : Bool) (m s : Nat) :
    (roundShift .rne neg m s).1 =
      if 2 ^ s < 2 * (m % 2 ^ s) ∨ (2 * (m % 2 ^ s) = 2 ^ s ∧ m / 2 ^ s % 2 = 1) then m / 2 ^ s + 1 else m / 2 ^ s := by
  simp only [roundShift, Bool.or_eq_true, Bool.and_eq_true, decide_eq_true_eq, beq_iff_eq]

theorem roundShift_rne_nearestEven (neg : Bool) (m s : Nat) :
    NearestEven m (2 ^ s : Nat) (roundShift .rne neg m s).1 := by
  have hm : (m : Int) = (m / 2 ^ s : Nat) * (2 ^ s : Nat) + (m % 2 ^ s : Nat) := by
    exact_mod_cast (Nat.div_add_mod' m (2 ^ s)).symm
  have hlt : ((m % 2 ^ s : Nat) : Int) < (2 ^ s : Nat) := by
    exact_mod_cast Nat.mod_lt m (Nat.two_pow_pos s)
  have hnear := nearestEven_of_floor (natCast_two_pow_pos s) hm (Int.natCast_nonneg _) hlt
  rw [roundShift_rne]
  split
  case isTrue hup => rwa [if_pos (by omega)] at hnear
  case isFalse hdown => rwa [if_neg (by omega)] at hnear

theorem roundShift_stochastic (w : Nat) (neg : Bool) (m s : Nat) :
    (roundShift (.stochastic w) neg m s).1 = m / 2 ^ s + (if w < m % 2 ^ s * 2 ^ 32 / 2 ^ s then 1 else 0) := by
  simp only [roundShift, decide_eq_true_eq]
  split
  · rfl
  · rfl

/-- No rounding changes an integer. -/
theorem roundShift_zero (r : Rnd) (neg : Bool) (m : Nat) : (roundShift r neg m 0).1 = m := by
  cases r with
  | rne | rtz | rdn | rup | rmm | stochastic w =>
    simp only [roundShift, Nat.pow_zero, Nat.mod_one, Nat.div_one, Nat.mul_zero, Nat.zero_mul, Nat.reducePow,
      Nat.not_lt_zero, Nat.le_zero_eq, Nat.succ_ne_self, Nat.reduceBEq, bne_self_eq_false, decide_false,
      Bool.and_false, Bool.false_and, Bool.and_self, Bool.or_self, Bool.false_eq_true, ↓reduceIte]

theorem roundQuantum_units_of_nonneg (r : Rnd) (neg : Bool) (m : Nat) {e : Int} (he : 0 ≤ e) :
    (roundQuantum r neg m e 0).1 = m * 2 ^ e.toNat := by
  rw [roundQuantum, if_pos he, Int.sub_zero]

theorem roundQuantum_units_of_neg (r : Rnd) (neg : Bool) (m s : Nat) :
    (roundQuantum r neg m (-s) 0).1 = (roundShift r neg m s).1 := by
  cases s with
  | zero => rw [roundShift_zero]; exact Nat.mul_one m
  | succ t =>
    have hneg : ¬ (0 : Int) ≤ -((t + 1 : Nat) : Int) := by omega
    rw [roundQuantum, if_neg hneg, Int.zero_sub, Int.neg_neg, Int.toNat_natCast]

/-! Conversion to an integer (02 R50). -/

theorem convertInt_inf (n : Nat) (r : Rnd) (neg : Bool) :
    convertInt n r (.inf neg) = (if neg then -2 ^ (n - 1) else 2 ^ (n - 1) - 1, 0x04) := by
  rw [convertInt, natCast_two_pow]

theorem convertInt_fin (n : Nat) (r : Rnd) (neg : Bool) (m : Nat) (e : Int) {v y : Int}
    (hv : v = if neg = true then -((roundQuantum r neg m e 0).1 : Int) else (roundQuantum r neg m e 0).1)
    (hy : y = max (-2 ^ (n - 1)) (min (2 ^ (n - 1) - 1) v)) :
    convertInt n r (.fin neg m e) = (y, if y ≠ v then 0x04 else 0) := by
  have hsat : (satInt n v).1 = y := by rw [satInt_fst, hy]
  simp only [convertInt, ← hv, satInt_snd, hsat, flagIf_bne]

/-- Settles O34: the magnitude that `convertInt` saturates is `roundQuantum` at the units, an exact product or a
`roundShift` as the sign of the exponent says. -/
theorem integerConversionRule : Obligations.IntegerConversionRule := by
  intro n _
  refine ⟨fun r => ⟨rfl, convertInt_inf n r true, convertInt_inf n r false⟩, fun neg m e r _ => ?_⟩
  refine ⟨_, _, _, rfl, rfl, convertInt_fin n r neg m e rfl rfl, roundQuantum_units_of_nonneg r neg m, ?_, ?_⟩
  · rintro s rfl rfl
    rw [roundQuantum_units_of_neg]
    exact (roundShift_rne_nearestEven neg m s).of_natCast
  · rintro s w rfl rfl
    rw [roundQuantum_units_of_neg, roundShift_stochastic]

end Sys2Proof.Machine
end

section
/-! SUPPORT. The identification register of the TAP (18 R489): the fields of its value, and what IDCODE does to the
device, powered and not. -/
namespace Sys2Proof.Machine

/-- A command whose meaning is the operation `f` completes with what `f` makes of the device. -/
theorem completes_of_exec_eq_act {c : Instr} {s : State} {f : Device → Device} {P : Device → Prop}
    (hexec : exec c s = act f s) (hP : P (f s.dev)) : Completes c s P :=
  ⟨{ s with dev := f s.dev }, hexec, rfl, hP⟩

theorem exec_idcode (s : State) : exec .idcode s = act tapIdcode s := rfl

/-- The fields of 18 R489: version, part number, manufacturer identity and the fixed one. -/
theorem idCode_fields : fieldOf idCode 31 28 = 1 ∧ fieldOf idCode 27 12 = 0x0880 ∧
    fieldOf idCode 11 1 = 0x52E ∧ bitOf idCode 0 = true := by
  decide

theorem tapInstruction_of_not_powered {d : Device} (h : tapPowered d = false) (ir captured : Nat) :
    tapInstruction ir captured d = d := by
  simp [tapInstruction, h]

/-- An instruction that controls no pin leaves the device running (18 R491): only the TAP changes. -/
theorem tapInstruction_of_not_scanHolds {d : Device} {ir : Nat} (hpow : tapPowered d = true)
    (hir : scanHolds ir = false) (captured : Nat) :
    tapInstruction ir captured d = modTap (fun t => { t with ir := ir, captured := captured }) d := by
  simp [tapInstruction, applyIf, hpow, hir]

theorem tapIdcode_of_powered {d : Device} (h : tapPowered d = true) :
    tapIdcode d = modTap (fun t => { t with ir := 0x01, captured := idCode }) d :=
  tapInstruction_of_not_scanHolds h (by decide) idCode

/-- Settles O60: IDCODE changes the TAP alone, which captures the one constant `idCode`. -/
theorem tapIdentification : Obligations.TapIdentification := by
  refine ⟨fun s hpow => completes_of_exec_eq_act (exec_idcode s) ?_,
    fun s hoff => completes_of_exec_eq_act (exec_idcode s) (tapInstruction_of_not_powered hoff 0x01 idCode)⟩
  obtain ⟨hversion, hpart, hmanufacturer, hone⟩ := idCode_fields
  rw [tapIdcode_of_powered hpow]
  exact ⟨rfl, hversion, hpart, hmanufacturer, hone, rfl, rfl⟩

end Sys2Proof.Machine
end
